-- ==== Sys2Proof/Word.lean ====
section
/-! DEFINITION. The words of the HA-36: bytes on the links and the field widths of the wire (R185, R196). -/

namespace Sys2Proof

/-- One byte of a link frame, of a slot image or of a request's argument (R185, R198). -/
abbrev Byte := BitVec 8

/-- A count as a request carries it: a signed 24-bit value in three bytes (R196). -/
abbrev CountWord := BitVec 24

/-- The value argument of SET PARAMETER: a signed 32-bit value in four bytes (R203). -/
abbrev ValueWord := BitVec 32

end Sys2Proof
end

