-- ==== Sys2Proof/Syntax.lean ====
section
/-! DEFINITION. The commands of the HA-36: one constructor of Instr for each row of spec/opcode_table.json.
A request carries the port that sent it, its tag byte and its argument bytes as the frame has them (R185, R196), so that
every out-of-range argument can be sent and is refused by the request's own rule. An event carries what the outside
delivers with it. -/

namespace Sys2Proof

/-- The three link ports, in the order of their identity codes 0, 1, 2 (R196). -/
inductive Port where
  /-- Port W, the workstation port. -/
  | workstation
  /-- Port P, the positioner port. -/
  | positioner
  /-- Port D, the drive adapter port. -/
  | adapter
deriving DecidableEq, Repr

/-- One wedge record of the servo sample bus (R59). The amplitudes are 0..4095 by their width. -/
structure WedgeRecord where
  sync : Bool
  tidValid : Bool
  tid : BitVec 16
  a : BitVec 12
  b : BitVec 12
  c : BitVec 12
  d : BitVec 12
deriving DecidableEq, Repr

/-- The commands, in the order of spec/opcode_table.json. -/
inductive Instr where
  /-- RESETN_RELEASE (R184). -/
  | resetnRelease
  /-- ATTACH (R189). -/
  | attach (port : Port) (tag : Byte)
  /-- DETACH (R189). -/
  | detach (port : Port) (tag : Byte)
  /-- IDENTIFY (R190). -/
  | identify (port : Port) (tag : Byte)
  /-- SET WINDOW (R193). -/
  | setWindow (port : Port) (tag target base size : Byte)
  /-- RESET PORT (R194). -/
  | resetPort (port : Port) (tag target : Byte)
  /-- TAKE NOTICE (R177). -/
  | takeNotice (port : Port) (tag : Byte)
  /-- END SERVICE (R178). -/
  | endService (port : Port) (tag : Byte)
  /-- SET NOTICE MASK (R179): bit n of the set stands for source n. -/
  | setNoticeMask (port : Port) (tag : Byte) (sources : BitVec 16)
  /-- SET NOTICE MODE (R180). -/
  | setNoticeMode (port : Port) (tag mode tracking baseCode : Byte)
  /-- TAKE COMPLETION (R182). -/
  | takeCompletion (port : Port) (tag : Byte)
  /-- SUBMIT MEASURE (R125); an override byte of 0 is no override. -/
  | submitMeasure (port : Port) (tag head zone cls limit : Byte)
  /-- SUBMIT SWEEP (R130). -/
  | submitSweep (port : Port) (tag firstHead lastHead firstZone lastZone cls publishAtEnd : Byte)
  /-- SUBMIT REFERENCE CHECK (R126). -/
  | submitReferenceCheck (port : Port) (tag zone : Byte)
  /-- SUBMIT MOVE (R127). -/
  | submitMove (port : Port) (tag : Byte) (target : CountWord)
  /-- CANCEL, job form (R133), and every group flag byte that is neither form. -/
  | cancel (port : Port) (tag id groupFlag : Byte)
  /-- CANCEL, group form: the group flag is 1 (R134). -/
  | cancelGroup (port : Port) (tag id : Byte)
  /-- READ QUEUE (R142). -/
  | readQueue (port : Port) (tag start : Byte)
  /-- RESUME ENGINE (R58). -/
  | resumeEngine (port : Port) (tag : Byte)
  /-- TAKE MOVE (R103). -/
  | takeMove (port : Port) (tag : Byte)
  /-- MOVE DONE (R104). -/
  | moveDone (port : Port) (tag sequence : Byte)
  /-- MOVE REFUSED (R105). -/
  | moveRefused (port : Port) (tag sequence reason : Byte)
  /-- TAKE HEAD REQUEST (R110). -/
  | takeHeadRequest (port : Port) (tag : Byte)
  /-- HEAD SELECTED (R111, R112). -/
  | headSelected (port : Port) (tag sequence head : Byte)
  /-- HEAD REFUSED (R113). -/
  | headRefused (port : Port) (tag sequence reason : Byte)
  /-- READ HANDSHAKE (R120). -/
  | readHandshake (port : Port) (tag : Byte)
  /-- HOME (R87). -/
  | home (port : Port) (tag : Byte)
  /-- READ POSITION (R98). -/
  | readPosition (port : Port) (tag clear : Byte)
  /-- READ SERVO (R78). -/
  | readServo (port : Port) (tag clear : Byte)
  /-- PUBLISH (R12). -/
  | publish (port : Port) (tag : Byte)
  /-- DISCARD STAGED (R21). -/
  | discardStaged (port : Port) (tag form head zone : Byte)
  /-- SEED ENTRY (R22). -/
  | seedEntry (port : Port) (tag head zone form : Byte) (count : CountWord)
  /-- CLEAR ENTRY (R23). -/
  | clearEntry (port : Port) (tag head zone : Byte)
  /-- CLEAR BENCH (R24). -/
  | clearBench (port : Port) (tag : Byte)
  /-- READ ENTRY (R166). -/
  | readEntry (port : Port) (tag head zone : Byte)
  /-- READ TABLE (R168). -/
  | readTable (port : Port) (tag start count : Byte)
  /-- READ NEXT (R169). -/
  | readNext (port : Port) (tag : Byte)
  /-- SET ARBITRATION (R163): the priorities of ENGINE, W, D and P, the preemption setting and the hold time. -/
  | setArbitration (port : Port) (tag engine w d p preemption holdTime : Byte)
  /-- READ ARBITRATION (R164). -/
  | readArbitration (port : Port) (tag : Byte)
  /-- SELECT PROFILE (R201). -/
  | selectProfile (port : Port) (tag slot : Byte)
  /-- SAVE PROFILE (R202). -/
  | saveProfile (port : Port) (tag slot : Byte)
  /-- SET PARAMETER (R203). -/
  | setParameter (port : Port) (tag number index : Byte) (value : ValueWord)
  /-- READ PARAMETER (R204). -/
  | readParameter (port : Port) (tag number index : Byte)
  /-- A chip-select period that found the slot READY at its fall and clocked this many bytes out (R186). -/
  | responseRead (port : Port) (clocked : Nat)
  /-- A request frame delivered while the slot is PENDING or still READY (R187). -/
  | droppedRequest (port : Port)
  /-- A malformed request frame: all the bytes clocked in during the period (R185, R188). -/
  | frameError (port : Port) (clockedIn : List Byte)
  /-- A slot load completes (R199): the default-slot byte read from slot 0 at power-on and the 256 bytes of the slot,
  each absent where the EEPROM did not acknowledge. -/
  | profileLoadComplete (defaultByte : Option Byte) (image : Option (List Byte))
  /-- The save's read-back completes (R202): the bytes read back, absent where the EEPROM did not acknowledge. -/
  | profileSaveComplete (readBack : Option (List Byte))
  /-- A wedge record arrives (R60). -/
  | wedgeRecord (record : WedgeRecord)
  /-- The wedge window expires (R64). -/
  | wedgeWindowExpiry
  /-- A spindle index pulse (R62). -/
  | indexPulse
  /-- The servo loss timeout expires (R68). -/
  | servoLossTimeoutExpiry
  /-- The engine takes the oldest FIFO record (R38). -/
  | sampleTake
  /-- One filter sample: the sampled levels of ENC_A, ENC_B, ENC_Z and PFAULT (R80). -/
  | filterSample (a b z pfault : Bool)
  /-- The settle timer expires (R95). -/
  | settleTimerExpiry
  /-- The move timeout reaches 0 (R106). -/
  | moveTimeoutExpiry
  /-- The head select timeout reaches 0 (R114). -/
  | headSelectTimeoutExpiry
  /-- The head settle timer expires (R115). -/
  | headSettleTimerExpiry
  /-- The hold timer reaches 0 (R162), with the number of indices that a block-read assembly under the grant has visited since time
  last passed (log entry 4). -/
  | holdTimerExpiry (visited : Nat)
  /-- A 2 µs ATTN pulse ends (R176). -/
  | attnPulseEnd (port : Port)
  /-- The E0 look-up under the grant (R31). -/
  | e0Lookup
  /-- The commit under the grant (R8). -/
  | commit
  /-- The group-end publish under the grant (R19). -/
  | groupEndPublish
  /-- The assembly of a block-read response reaches its ten records or its end index (R170). -/
  | blockReadAssembly
  /-- The operation of the port that holds the grant completes (R159). -/
  | tableOperationEnd
  /-- The line has stayed low for 2 µs after a pulse that owed a repeat (R176). -/
  | attnSecondPulse (port : Port)
deriving DecidableEq, Repr

/-- The tag a response to the request echoes (R196); an event has none, and a malformed frame has the tag R188 gives. -/
def Instr.tag : Instr → Byte
  | .attach _ t => t
  | .detach _ t => t
  | .identify _ t => t
  | .setWindow _ t _ _ _ => t
  | .resetPort _ t _ => t
  | .takeNotice _ t => t
  | .endService _ t => t
  | .setNoticeMask _ t _ => t
  | .setNoticeMode _ t _ _ _ => t
  | .takeCompletion _ t => t
  | .submitMeasure _ t _ _ _ _ => t
  | .submitSweep _ t _ _ _ _ _ _ => t
  | .submitReferenceCheck _ t _ => t
  | .submitMove _ t _ => t
  | .cancel _ t _ _ => t
  | .cancelGroup _ t _ => t
  | .readQueue _ t _ => t
  | .resumeEngine _ t => t
  | .takeMove _ t => t
  | .moveDone _ t _ => t
  | .moveRefused _ t _ _ => t
  | .takeHeadRequest _ t => t
  | .headSelected _ t _ _ => t
  | .headRefused _ t _ _ => t
  | .readHandshake _ t => t
  | .home _ t => t
  | .readPosition _ t _ => t
  | .readServo _ t _ => t
  | .publish _ t => t
  | .discardStaged _ t _ _ _ => t
  | .seedEntry _ t _ _ _ _ => t
  | .clearEntry _ t _ _ => t
  | .clearBench _ t => t
  | .readEntry _ t _ _ => t
  | .readTable _ t _ _ => t
  | .readNext _ t => t
  | .setArbitration _ t _ _ _ _ _ _ => t
  | .readArbitration _ t => t
  | .selectProfile _ t _ => t
  | .saveProfile _ t _ => t
  | .setParameter _ t _ _ _ => t
  | .readParameter _ t _ _ => t
  | .frameError _ bytes => bytes.getD 2 0
  | .resetnRelease => 0
  | .responseRead _ _ => 0
  | .droppedRequest _ => 0
  | .profileLoadComplete _ _ => 0
  | .profileSaveComplete _ => 0
  | .wedgeRecord _ => 0
  | .wedgeWindowExpiry => 0
  | .indexPulse => 0
  | .servoLossTimeoutExpiry => 0
  | .sampleTake => 0
  | .filterSample _ _ _ _ => 0
  | .settleTimerExpiry => 0
  | .moveTimeoutExpiry => 0
  | .headSelectTimeoutExpiry => 0
  | .headSettleTimerExpiry => 0
  | .holdTimerExpiry _ => 0
  | .attnPulseEnd _ => 0
  | .e0Lookup => 0
  | .commit => 0
  | .groupEndPublish => 0
  | .blockReadAssembly => 0
  | .tableOperationEnd => 0
  | .attnSecondPulse _ => 0

end Sys2Proof
end

