-- ==== Sys2Proof/Decode.lean ====
section
/-! DEFINITION. Request frames (R185, R188, R196, section 10.7): the frame check, the request a well-formed frame spells, and the
frame of a request. spec/opcode_table.json gives no row any bits, so decodeTableWord reads no command. -/

namespace Sys2Proof

/-- The command a word of the opcode table spells. The table gives no row of the HA-36 any bits: none. -/
def decodeTableWord (_nbits _w : Nat) : Option Instr := none

/-- The frame length of a request code, for the codes of section 10.7 and no others (R188). -/
def frameLength (code : Byte) : Option Nat :=
  match code.toNat with
  | 0x01 => some 3
  | 0x02 => some 3
  | 0x03 => some 3
  | 0x04 => some 6
  | 0x05 => some 4
  | 0x10 => some 3
  | 0x11 => some 3
  | 0x12 => some 5
  | 0x13 => some 6
  | 0x14 => some 3
  | 0x20 => some 7
  | 0x21 => some 9
  | 0x22 => some 4
  | 0x23 => some 6
  | 0x24 => some 5
  | 0x25 => some 4
  | 0x28 => some 3
  | 0x30 => some 3
  | 0x31 => some 4
  | 0x32 => some 5
  | 0x34 => some 3
  | 0x35 => some 5
  | 0x36 => some 5
  | 0x38 => some 3
  | 0x40 => some 3
  | 0x41 => some 4
  | 0x48 => some 4
  | 0x50 => some 3
  | 0x51 => some 6
  | 0x52 => some 9
  | 0x53 => some 5
  | 0x54 => some 3
  | 0x58 => some 5
  | 0x59 => some 5
  | 0x5A => some 3
  | 0x5C => some 9
  | 0x5D => some 3
  | 0x60 => some 4
  | 0x61 => some 4
  | 0x62 => some 9
  | 0x63 => some 5
  | _ => none

/-- Whether a period's bytes deliver a request: the first complete byte is there and is not 0x00 (R185). -/
def deliversRequest (bytes : List Byte) : Bool :=
  match bytes with
  | [] => false
  | b :: _ => b != 0

/-- Whether the bytes of a period that delivers a request pass the frame check of R188. -/
def frameWellFormed (bytes : List Byte) : Bool :=
  let n := (bytes.getD 0 0).toNat
  decide (3 ≤ n) && decide (n ≤ 64) && decide (n ≤ bytes.length) && (bytes.drop n).all (· == 0)
    && frameLength (bytes.getD 1 0) == some n

/-- A count argument's three bytes, least significant first (R196). -/
def countBytes (c : CountWord) : List Byte := [c.extractLsb' 0 8, c.extractLsb' 8 8, c.extractLsb' 16 8]

/-- The count three argument bytes spell. -/
def countOf (b0 b1 b2 : Byte) : CountWord := b2 ++ b1 ++ b0

/-- A value argument's four bytes, least significant first (R196, R203). -/
def valueBytes (v : ValueWord) : List Byte :=
  [v.extractLsb' 0 8, v.extractLsb' 8 8, v.extractLsb' 16 8, v.extractLsb' 24 8]

/-- The value four argument bytes spell. -/
def valueOf (b0 b1 b2 b3 : Byte) : ValueWord := b3 ++ b2 ++ b1 ++ b0

/-- The frame of a request: length, code, tag, arguments (R196); an event has none. -/
def encodeFrame : Instr → Option (List Byte)
  | .attach _ t => some [3, 0x01, t]
  | .detach _ t => some [3, 0x02, t]
  | .identify _ t => some [3, 0x03, t]
  | .setWindow _ t a b c => some [6, 0x04, t, a, b, c]
  | .resetPort _ t a => some [4, 0x05, t, a]
  | .takeNotice _ t => some [3, 0x10, t]
  | .endService _ t => some [3, 0x11, t]
  | .setNoticeMask _ t m => some [5, 0x12, t, m.extractLsb' 0 8, m.extractLsb' 8 8]
  | .setNoticeMode _ t a b c => some [6, 0x13, t, a, b, c]
  | .takeCompletion _ t => some [3, 0x14, t]
  | .submitMeasure _ t a b c d => some [7, 0x20, t, a, b, c, d]
  | .submitSweep _ t a b c d e f => some [9, 0x21, t, a, b, c, d, e, f]
  | .submitReferenceCheck _ t a => some [4, 0x22, t, a]
  | .submitMove _ t c => some ([6, 0x23, t] ++ countBytes c)
  | .cancel _ t a b => some [5, 0x24, t, a, b]
  | .cancelGroup _ t a => some [5, 0x24, t, a, 1]
  | .readQueue _ t a => some [4, 0x25, t, a]
  | .resumeEngine _ t => some [3, 0x28, t]
  | .takeMove _ t => some [3, 0x30, t]
  | .moveDone _ t a => some [4, 0x31, t, a]
  | .moveRefused _ t a b => some [5, 0x32, t, a, b]
  | .takeHeadRequest _ t => some [3, 0x34, t]
  | .headSelected _ t a b => some [5, 0x35, t, a, b]
  | .headRefused _ t a b => some [5, 0x36, t, a, b]
  | .readHandshake _ t => some [3, 0x38, t]
  | .home _ t => some [3, 0x40, t]
  | .readPosition _ t a => some [4, 0x41, t, a]
  | .readServo _ t a => some [4, 0x48, t, a]
  | .publish _ t => some [3, 0x50, t]
  | .discardStaged _ t a b c => some [6, 0x51, t, a, b, c]
  | .seedEntry _ t a b f c => some ([9, 0x52, t, a, b, f] ++ countBytes c)
  | .clearEntry _ t a b => some [5, 0x53, t, a, b]
  | .clearBench _ t => some [3, 0x54, t]
  | .readEntry _ t a b => some [5, 0x58, t, a, b]
  | .readTable _ t a b => some [5, 0x59, t, a, b]
  | .readNext _ t => some [3, 0x5A, t]
  | .setArbitration _ t a b c d e f => some [9, 0x5C, t, a, b, c, d, e, f]
  | .readArbitration _ t => some [3, 0x5D, t]
  | .selectProfile _ t a => some [4, 0x60, t, a]
  | .saveProfile _ t a => some [4, 0x61, t, a]
  | .setParameter _ t a b v => some ([9, 0x62, t, a, b] ++ valueBytes v)
  | .readParameter _ t a b => some [5, 0x63, t, a, b]
  | .resetnRelease => none
  | .responseRead _ _ => none
  | .droppedRequest _ => none
  | .frameError _ _ => none
  | .profileLoadComplete _ _ => none
  | .profileSaveComplete _ => none
  | .wedgeRecord _ => none
  | .wedgeWindowExpiry => none
  | .indexPulse => none
  | .servoLossTimeoutExpiry => none
  | .sampleTake => none
  | .filterSample _ _ _ _ => none
  | .settleTimerExpiry => none
  | .moveTimeoutExpiry => none
  | .headSelectTimeoutExpiry => none
  | .headSettleTimerExpiry => none
  | .holdTimerExpiry _ => none
  | .attnPulseEnd _ => none
  | .e0Lookup => none
  | .commit => none
  | .groupEndPublish => none
  | .blockReadAssembly => none
  | .tableOperationEnd => none
  | .attnSecondPulse _ => none

/-- The request that the code, the tag and the argument bytes of a frame spell (section 10.7); none where the arguments are not
as many as the code takes. -/
def requestOf (port : Port) (code tag : Byte) (args : List Byte) : Option Instr :=
  match code.toNat, args with
  | 0x01, [] => some (.attach port tag)
  | 0x02, [] => some (.detach port tag)
  | 0x03, [] => some (.identify port tag)
  | 0x04, [a, b, c] => some (.setWindow port tag a b c)
  | 0x05, [a] => some (.resetPort port tag a)
  | 0x10, [] => some (.takeNotice port tag)
  | 0x11, [] => some (.endService port tag)
  | 0x12, [a, b] => some (.setNoticeMask port tag (b ++ a))
  | 0x13, [a, b, c] => some (.setNoticeMode port tag a b c)
  | 0x14, [] => some (.takeCompletion port tag)
  | 0x20, [a, b, c, d] => some (.submitMeasure port tag a b c d)
  | 0x21, [a, b, c, d, e, f] => some (.submitSweep port tag a b c d e f)
  | 0x22, [a] => some (.submitReferenceCheck port tag a)
  | 0x23, [a, b, c] => some (.submitMove port tag (countOf a b c))
  | 0x24, [a, b] => some (if b = 1 then .cancelGroup port tag a else .cancel port tag a b)
  | 0x25, [a] => some (.readQueue port tag a)
  | 0x28, [] => some (.resumeEngine port tag)
  | 0x30, [] => some (.takeMove port tag)
  | 0x31, [a] => some (.moveDone port tag a)
  | 0x32, [a, b] => some (.moveRefused port tag a b)
  | 0x34, [] => some (.takeHeadRequest port tag)
  | 0x35, [a, b] => some (.headSelected port tag a b)
  | 0x36, [a, b] => some (.headRefused port tag a b)
  | 0x38, [] => some (.readHandshake port tag)
  | 0x40, [] => some (.home port tag)
  | 0x41, [a] => some (.readPosition port tag a)
  | 0x48, [a] => some (.readServo port tag a)
  | 0x50, [] => some (.publish port tag)
  | 0x51, [a, b, c] => some (.discardStaged port tag a b c)
  | 0x52, [a, b, f, x, y, z] => some (.seedEntry port tag a b f (countOf x y z))
  | 0x53, [a, b] => some (.clearEntry port tag a b)
  | 0x54, [] => some (.clearBench port tag)
  | 0x58, [a, b] => some (.readEntry port tag a b)
  | 0x59, [a, b] => some (.readTable port tag a b)
  | 0x5A, [] => some (.readNext port tag)
  | 0x5C, [a, b, c, d, e, f] => some (.setArbitration port tag a b c d e f)
  | 0x5D, [] => some (.readArbitration port tag)
  | 0x60, [a] => some (.selectProfile port tag a)
  | 0x61, [a] => some (.saveProfile port tag a)
  | 0x62, [a, b, v, x, y, z] => some (.setParameter port tag a b (valueOf v x y z))
  | 0x63, [a, b] => some (.readParameter port tag a b)
  | _, _ => none

/-- The request a port takes from the bytes clocked in during a period (R185, R188, R196). -/
def decodeFrame (port : Port) (bytes : List Byte) : Option Instr :=
  if (deliversRequest bytes && frameWellFormed bytes) = true then
    requestOf port (bytes.getD 1 0) (bytes.getD 2 0) ((bytes.take (bytes.getD 0 0).toNat).drop 3)
  else none

/-- The port a request comes from; an event comes from none. -/
def Instr.sender : Instr → Option Port
  | .attach p _ => some p
  | .detach p _ => some p
  | .identify p _ => some p
  | .setWindow p _ _ _ _ => some p
  | .resetPort p _ _ => some p
  | .takeNotice p _ => some p
  | .endService p _ => some p
  | .setNoticeMask p _ _ => some p
  | .setNoticeMode p _ _ _ _ => some p
  | .takeCompletion p _ => some p
  | .submitMeasure p _ _ _ _ _ => some p
  | .submitSweep p _ _ _ _ _ _ _ => some p
  | .submitReferenceCheck p _ _ => some p
  | .submitMove p _ _ => some p
  | .cancel p _ _ _ => some p
  | .cancelGroup p _ _ => some p
  | .readQueue p _ _ => some p
  | .resumeEngine p _ => some p
  | .takeMove p _ => some p
  | .moveDone p _ _ => some p
  | .moveRefused p _ _ _ => some p
  | .takeHeadRequest p _ => some p
  | .headSelected p _ _ _ => some p
  | .headRefused p _ _ _ => some p
  | .readHandshake p _ => some p
  | .home p _ => some p
  | .readPosition p _ _ => some p
  | .readServo p _ _ => some p
  | .publish p _ => some p
  | .discardStaged p _ _ _ _ => some p
  | .seedEntry p _ _ _ _ _ => some p
  | .clearEntry p _ _ _ => some p
  | .clearBench p _ => some p
  | .readEntry p _ _ _ => some p
  | .readTable p _ _ _ => some p
  | .readNext p _ => some p
  | .setArbitration p _ _ _ _ _ _ _ => some p
  | .readArbitration p _ => some p
  | .selectProfile p _ _ => some p
  | .saveProfile p _ _ => some p
  | .setParameter p _ _ _ _ => some p
  | .readParameter p _ _ _ => some p
  | .resetnRelease => none
  | .responseRead _ _ => none
  | .droppedRequest _ => none
  | .frameError _ _ => none
  | .profileLoadComplete _ _ => none
  | .profileSaveComplete _ => none
  | .wedgeRecord _ => none
  | .wedgeWindowExpiry => none
  | .indexPulse => none
  | .servoLossTimeoutExpiry => none
  | .sampleTake => none
  | .filterSample _ _ _ _ => none
  | .settleTimerExpiry => none
  | .moveTimeoutExpiry => none
  | .headSelectTimeoutExpiry => none
  | .headSettleTimerExpiry => none
  | .holdTimerExpiry _ => none
  | .attnPulseEnd _ => none
  | .e0Lookup => none
  | .commit => none
  | .groupEndPublish => none
  | .blockReadAssembly => none
  | .tableOperationEnd => none
  | .attnSecondPulse _ => none

end Sys2Proof
end

