-- ==== Sys2Proof/Config.lean ====
section
/-! DEFINITION. What the part fixes once and for all, and the free values: what the manual leaves open and no proof may see. -/

namespace Sys2Proof.Config

/-- IDENTIFY reports part number 36 of the Tasdrin family (R190). -/
def partNumber : Nat := 36

/-- IDENTIFY reports revision 1 (R190). -/
def revision : Nat := 1

/-- Slots of the Job Queue (R121). -/
def queueSlots : Nat := 24

/-- Records of the group table (R129). -/
def groupSlots : Nat := 4

/-- Contexts of the Context Stack (R143). -/
def stackSlots : Nat := 2

/-- Records of the sample FIFO (R70). -/
def fifoSlots : Nat := 4

/-- Records of a completion list (R181). -/
def completionSlots : Nat := 8

/-- Entry records of one block-read response (R170). -/
def blockRecords : Nat := 10

/-- FREE VALUE (log entry 4). How many indices a block-read assembly visits in one microsecond: the manual gives the time a visit
takes nowhere (R162, R170). -/
opaque indicesVisited : Nat → Nat

/-- FREE VALUE (log entry 5). Whether a timer whose remaining time is not a whole number of milliseconds is reported
rounded up rather than down: R120 reports milliseconds and states no rounding. The argument is the remaining time in µs. -/
opaque partMillisecondCountsUp : Nat → Bool

end Sys2Proof.Config
end

