-- ==== Sys2Proof/Machine/State.lean ====
section
/-! DEFINITION. The state of the HA-36, block by block, as plain data, and the state after reset. -/

namespace Sys2Proof.Machine

/-- No command of the HA-36 stops the part: the manual gives every request a response and every event an effect in every
state, so no meaning raises a fault and the type has no constructor. Safe: nothing is hidden behind a stop. -/
inductive Fault
deriving DecidableEq, Repr

/-- Why the model gives a command no meaning. -/
inductive Refusal where
  /-- Raised by an arm of exec whose command has no meaning yet, and by nothing else. Safe: a claim about such a command
  cannot be proved. No arm raises it now. -/
  | notModelled (mnemonic : String)
deriving DecidableEq, Repr

/-! ### Collections indexed by a fixed set of names -/

/-- One value for each link port. -/
structure PerPort (α : Type) where
  w : α
  p : α
  d : α
deriving DecidableEq, Repr

/-- The clients of the Table Arbiter, in the fixed order of R158. -/
inductive Client where
  | engine
  | w
  | d
  | p
deriving DecidableEq, Repr

/-- One value for each client of the arbiter. -/
structure PerClient (α : Type) where
  engine : α
  w : α
  d : α
  p : α
deriving DecidableEq, Repr

/-- The ten notice sources of R171, from number 0 up. -/
inductive Source where
  | withdrawn
  | queueSpace
  | published
  | drift
  | jobDone
  | jobFailed
  | moveRequest
  | headRequest
  | servo
  | fault
deriving DecidableEq, Repr

/-- One value for each notice source. -/
structure PerSource (α : Type) where
  withdrawn : α
  queueSpace : α
  published : α
  drift : α
  jobDone : α
  jobFailed : α
  moveRequest : α
  headRequest : α
  servo : α
  fault : α
deriving DecidableEq, Repr

/-- A timer and its remaining time in µs. Time passes for a running timer only. -/
inductive Timer where
  | stopped
  | running (remaining : Nat)
  | paused (remaining : Nat)
deriving DecidableEq, Repr

/-! ### Jobs (R121, R129) -/

/-- The urgency of a job, in rising order. -/
inductive JobClass where
  | normal
  | priority
  | urgent
deriving DecidableEq, Repr

/-- Who submitted a job. An INTERNAL job is reported to Port W. -/
inductive Submitter where
  | w
  | p
  | internal
deriving DecidableEq, Repr

/-- What a job does: the kind with the entry or the target it names (R121). -/
inductive JobWork where
  | measure (head zone : Nat)
  | referenceCheck (head zone : Nat)
  | moveTo (target : Int)
deriving DecidableEq, Repr

/-- A job record (R121). -/
structure JobRecord where
  id : Nat
  work : JobWork
  cls : JobClass
  submitter : Submitter
  group : Option Nat
  limit : Option Nat
deriving DecidableEq, Repr

/-- How a job ends (R52, R53, R35), in the order of the outcome codes of R197; CLEARED has code 14 (R196). -/
inductive JobOutcome where
  | converged
  | arrived
  | notConverged
  | gainLow
  | nullOutOfRange
  | tooNoisy
  | servoLost
  | headFault
  | moveTimeout
  | positionerFault
  | travelLimit
  | encoderFault
  | handshakeLost
  | cancelled
  | cleared
deriving DecidableEq, Repr

/-- Why a request was withdrawn: the outcome that ended the job, or PREEMPTED (R108, R116). -/
inductive Cause where
  | ended (outcome : JobOutcome)
  | preempted
deriving DecidableEq, Repr

/-- A group record (R129): due is the state PUBLISH_DUE, and its absence OPEN. -/
structure Group where
  id : Nat
  submitter : Submitter
  members : Nat
  publishAtEnd : Bool
  cancelled : Bool
  due : Bool
deriving DecidableEq, Repr

/-- The Job Queue (R121 to R142): the queued jobs, head first; the group records, those that are PUBLISH_DUE among
themselves in the order they became so. -/
structure JobQueue where
  queue : List JobRecord
  groups : List Group
  nextJob : Nat
  nextGroup : Nat
  drift : Nat
  pendingZone : Option Nat
  spaceW : Bool
  spaceP : Bool
deriving DecidableEq, Repr

/-! ### The Head Map Table (R1 to R7) -/

/-- Where a job that names the entry stands (R2). -/
inductive EntryStatus where
  | idle
  | queued
  | measuring
  | suspended
deriving DecidableEq, Repr

/-- Why a staged part is SUSPECT (R6). -/
inductive Suspicion where
  | notConverged
  | gainLow
  | nullOutOfRange
  | tooNoisy
deriving DecidableEq, Repr

/-- A staged part, with the fields R6 gives each outcome. -/
inductive StagedPart where
  | converged (null gain : Int) (residual iterations rejects : Nat)
  | suspect (cause : Suspicion) (estimate gain : Option Int) (residual : Option Nat) (iterations rejects : Nat)
deriving DecidableEq, Repr

/-- A published part (R5); stale is the quality STALE, and its absence VALID (R3). -/
structure PublishedPart where
  null : Int
  gain : Int
  residual : Nat
  iterations : Nat
  rejects : Nat
  generation : Nat
  offset : Option Int
  stale : Bool
deriving DecidableEq, Repr

/-- The record storage of one entry. The quality is NONE exactly when there is no published part (R5). -/
structure Entry where
  seed : Option Int
  staged : Option StagedPart
  published : Option PublishedPart
deriving DecidableEq, Repr

/-- The quality of an entry (R3). -/
inductive Quality where
  | none
  | valid
  | stale
deriving DecidableEq, Repr

/-- The record storage: 192 entries by entry index, and the publish generation (R1, R17). -/
structure HeadMap where
  entries : Vector Entry 192
  generation : Nat
deriving DecidableEq, Repr

/-! ### The Measurement Engine (R28, R29, R37) -/

/-- The eight engine states (R28). -/
inductive EngineState where
  | idle
  | headWait
  | moveWait
  | settling
  | dwell
  | commit
  | publish
  | faultHold
deriving DecidableEq, Repr

/-- The dwell a job is working toward (R29). -/
inductive Stage where
  | first
  | step
  | verify
deriving DecidableEq, Repr

/-- A bound of the search window (R29). -/
inductive Bound where
  | low
  | high
deriving DecidableEq, Repr

/-- The search record of R29. A context on the stack is this record saved whole (R144). -/
structure SearchRecord where
  job : JobRecord
  limit : Nat
  stage : Stage
  e0 : Option Int
  e1 : Option Int
  p0 : Option Int
  p1 : Option Int
  gain : Option Int
  target : Option Int
  iterations : Nat
  rejects : Nat
  spreadRepeat : Bool
  lastClamp : Option Bound
  lastMean : Option Int
  lastStamp : Option Nat
deriving DecidableEq, Repr

/-- The dwell accumulator and the stride (R37). extremes holds the least and the greatest accepted Ptot. -/
structure Dwell where
  n : Nat
  sum : Int
  extremes : Option (Int × Int)
  rejects : Nat
  stride : Nat
deriving DecidableEq, Repr

/-- What a RESET PORT that waits for a commit under the grant will answer: the port it came from, the port it resets, and its two
counts (R11, R194). -/
structure ResetReply where
  port : Port
  target : Port
  queued : Nat
  stacked : Nat
deriving DecidableEq, Repr

/-- The Measurement Engine: its state, the active job's search record, the dwell accumulator, the outcome and part a job in
COMMIT is to stage, whether a fault waits for the end of COMMIT or PUBLISH (R56), whether the job in COMMIT is to end CLEARED
(R11), the group whose publish is being carried out (R132), and the resets that wait for the commit, at most one of a port
(R194). -/
structure Engine where
  state : EngineState
  active : Option SearchRecord
  dwell : Dwell
  staging : Option (JobOutcome × StagedPart)
  faultPending : Bool
  clearPending : Bool
  publishing : Option Nat
  resetReplies : List ResetReply
deriving DecidableEq, Repr

/-! ### The Handshake Unit (R100). A handshake is NONE exactly when it holds no request record. -/

/-- The states of a move request that exists (R100). -/
inductive MovePhase where
  | requested
  | taken
  | done
  | settled
deriving DecidableEq, Repr

/-- A move request record with its handshake state (R100). -/
structure MoveRequest where
  phase : MovePhase
  sequence : Nat
  target : Int
  job : Nat
deriving DecidableEq, Repr

/-- How a move request ended (R100). -/
inductive MoveEnd where
  | released
  | refused (reason : Nat)
  | timedOut
  | withdrawn (cause : Cause)
deriving DecidableEq, Repr

/-- The states of a head request that exists (R100). -/
inductive HeadPhase where
  | requested
  | taken
  | delay
  | ready
deriving DecidableEq, Repr

/-- A head request record with its handshake state (R100). -/
structure HeadRequest where
  phase : HeadPhase
  sequence : Nat
  head : Nat
  job : Nat
deriving DecidableEq, Repr

/-- How a head request ended (R100). -/
inductive HeadEnd where
  | released
  | reissued
  | refused (reason : Nat)
  | mismatch (reported : Nat)
  | timedOut
  | withdrawn (cause : Cause)
deriving DecidableEq, Repr

/-- The Handshake Unit (R100). A last end carries the sequence of its request. -/
structure HandshakeUnit where
  move : Option MoveRequest
  moveTimeout : Timer
  lastMoveEnd : Option (MoveEnd × Nat)
  moveSequence : Nat
  head : Option HeadRequest
  headTimeout : Timer
  headSettle : Timer
  lastHeadEnd : Option (HeadEnd × Nat)
  headSequence : Nat
  selected : Option Nat
deriving DecidableEq, Repr

/-! ### The Sample Path (R59 to R78) -/

/-- The servo loss timeout (R68). -/
inductive LossTimer where
  | stopped
  | running (remaining : Nat)
  | expired
deriving DecidableEq, Repr

/-- The Sample Path: the wedge counter, whether it is aligned, the revolution count, the servo state and its runs, the wedge
window, the servo loss timeout, the sample FIFO with its oldest record first, and the counts READ SERVO reports. -/
structure SamplePath where
  wedge : Nat
  aligned : Bool
  revolutions : Nat
  locked : Bool
  missedRun : Nat
  goodRun : Nat
  window : Timer
  loss : LossTimer
  fifo : List WedgeRecord
  slips : Nat
  overruns : Nat
  noSync : Nat
  dropout : Nat
  noTid : Nat
  far : Nat
deriving DecidableEq, Repr

/-! ### The Position Frame (R80) -/

/-- One input filter: its accepted level and its run (R81). -/
structure InputFilter where
  level : Bool
  run : Nat
deriving DecidableEq, Repr

/-- The home capture state (R87). -/
inductive HomeState where
  | idle
  | waiting
  | done
deriving DecidableEq, Repr

/-- The travel state (R90). -/
inductive TravelState where
  | untested
  | inside
  | below
  | above
deriving DecidableEq, Repr

/-- The settle test (R94). -/
inductive SettleTest where
  | none
  | outside
  | timing
  | met
deriving DecidableEq, Repr

/-- The Position Frame (R80); sampled says that the first filter sample after the release of RESETn has been taken (R83). -/
structure PositionFrame where
  encA : InputFilter
  encB : InputFilter
  encZ : InputFilter
  pfault : InputFilter
  sampled : Bool
  filterLength : Nat
  count : Int
  errors : Nat
  home : HomeState
  travel : TravelState
  settle : SettleTest
  settleTimer : Timer
deriving DecidableEq, Repr

/-! ### The Link Ports and their Notice Units (R172, R184) -/

/-- A port's head window (R192). -/
structure Window where
  base : Nat
  size : Nat
deriving DecidableEq, Repr

/-- A present block-read cursor: the next index and the end index (R167). -/
structure Cursor where
  next : Nat
  last : Nat
deriving DecidableEq, Repr

/-- The response statuses, in the order of their codes 0 to 16 (R196). -/
inductive Status where
  | ok
  | busy
  | notReady
  | noProfile
  | detached
  | wrongPort
  | badArgument
  | outOfWindow
  | queueFull
  | groupsFull
  | entryBusy
  | unknownJob
  | tooLate
  | staleSequence
  | empty
  | conditionPresent
  | frameError
deriving DecidableEq, Repr

/-- A response: the items of its header and its payload bytes (R196). -/
structure Response where
  status : Status
  tag : Byte
  clamped : Bool
  preempted : Bool
  more : Bool
  dropped : Nat
  records : Nat
  payload : List Byte
deriving DecidableEq, Repr

/-- The response slot (R184, R186): RDY is high exactly while it is ready. -/
inductive Slot where
  | empty
  | pending (request : Instr)
  | ready (response : Response)
deriving DecidableEq, Repr

/-- The detail of a notice (R171). -/
inductive Detail where
  | encoder (count : Int)
  | travel (above : Bool) (count : Int)
  | pfault (count : Int)
  | profile (slot : Nat)
  | servoLost (revolutions : Nat)
  | servoRegained (revolutions : Nat)
  | slip (counter : Nat)
  | headRequest (sequence head job : Nat)
  | moveRequest (sequence : Nat) (target : Int) (job : Nat)
  | jobs (number oldest : Nat)
  | drift (zone : Nat) (drift : Int)
  | published (generation published discarded unreferenced : Nat)
  | queueSpace (free : Nat)
  | withdrawn (sequence : Nat) (cause : Cause)
deriving DecidableEq, Repr

/-- How a port's ATTN line is driven (R175, R176). -/
inductive LineMode where
  | level
  | pulse
deriving DecidableEq, Repr

/-- The pulse state (R172, R176): pulsing with or without a repeat owed, or the 2 µs low before an owed repeat. -/
inductive PulseState where
  | idle
  | pulsing (remaining : Nat) (owed : Bool)
  | low (remaining : Nat)
deriving DecidableEq, Repr

/-- A Notice Unit (R172). An event-like source is pending exactly while its detail slot holds a detail (R173, R177, R183),
and a level-like source while its condition holds (R174), so the pending set is read off and not stored again. -/
structure NoticeUnit where
  details : PerSource (Option Detail)
  merge : PerSource Nat
  mask : PerSource Bool
  inService : PerSource Bool
  mode : LineMode
  tracking : Bool
  baseCode : Nat
  pulse : PulseState
deriving DecidableEq, Repr

/-- The kind of a job as a report names it (R121). -/
inductive JobKind where
  | measure
  | referenceCheck
  | moveTo
deriving DecidableEq, Repr

/-- A completion record (R54). -/
structure CompletionRecord where
  job : Nat
  kind : JobKind
  place : Option (Nat × Nat)
  outcome : JobOutcome
  iterations : Nat
  null : Option Int
  residual : Option Nat
  drift : Option Int
  staleMarked : Bool
  stamp : Nat
deriving DecidableEq, Repr

/-- A Link Port (R184) with its Notice Unit and completion list, oldest record first (R181). -/
structure LinkPort where
  attached : Bool
  slot : Slot
  dropped : Nat
  window : Window
  cursor : Option Cursor
  notices : NoticeUnit
  completions : List CompletionRecord
  overflow : Nat
deriving DecidableEq, Repr

/-! ### The Table Arbiter (R156) -/

/-- The assembly of a block-read response (R170): the port's window when the grant was given (R193), the index that is visited
next, the end index, and the records placed so far with their indices, in rising order. -/
structure Assembly where
  window : Window
  next : Nat
  last : Nat
  placed : List (Nat × List Byte)
deriving DecidableEq, Repr

/-- An operation under the grant (R7, R164), with what it needs: for CLEAR ENTRY whether the entry was IDLE when the grant was
given (R23), for a block read its assembly (R170), for EMPTY TABLE the answer to give (R201, R203). -/
inductive TableOp where
  | e0LookUp
  | commit
  | groupPublish
  | publish
  | discardEntry (head zone : Nat)
  | discardAll
  | seed (head zone : Nat) (count : Option Int)
  | clearEntry (head zone : Nat) (idle : Bool)
  | clearBench
  | emptyTable (clamped : Bool) (payload : List Byte)
  | readEntry (head zone : Nat)
  | readTable (assembly : Assembly)
  | readNext (assembly : Assembly)
deriving DecidableEq, Repr

/-- The hold timer (R161, R162): expired is HELD-with-hold-timer-running with the timer at 0 and its expiry taken. -/
inductive HoldTimer where
  | stopped
  | running (remaining : Nat)
  | expired
deriving DecidableEq, Repr

/-- The Table Arbiter (R156). It is FREE exactly when it has no holder. -/
structure Arbiter where
  holder : Option (Client × TableOp)
  waiting : PerClient (Option TableOp)
  hold : HoldTimer
  priority : PerClient Nat
  preemption : Bool
  holdTime : Nat
deriving DecidableEq, Repr

/-! ### The Profile Store (R198) -/

/-- The parameters of a profile, in parameter-number order (R198). -/
structure Profile where
  headCount : Nat
  zoneCount : Nat
  referenceHead : Nat
  wedges : Nat
  sampleExponent : Nat
  countsPerTrack : Nat
  step : Nat
  searchRange : Nat
  nullTolerance : Nat
  maxIterations : Nat
  gainFloor : Nat
  spreadLimit : Nat
  rejectLimit : Nat
  burstFloor : Nat
  settleWindow : Nat
  settleTime : Nat
  headSettleDelay : Nat
  moveTimeout : Nat
  headSelectTimeout : Nat
  servoLossTimeout : Nat
  wedgeWindow : Nat
  driftLimit : Nat
  driftInterval : Nat
  travelLow : Int
  travelHigh : Int
  homeValue : Int
  filterLength : Nat
  zoneCentre : Vector Int 12
  zoneTrack : Vector Nat 12
  defaultSlot : Nat
deriving DecidableEq, Repr

/-- The store state (R198): a load has the slot SELECT PROFILE named, or none at power-on; a save has its slot. -/
inductive StoreState where
  | loading (selected : Option Nat)
  | ready
  | noProfile
  | saving (slot : Nat)
deriving DecidableEq, Repr

/-- The Profile Store (R198). A profile is in force exactly when slot is present; an owed mark holds the slot number its
notice will carry (R199). -/
structure ProfileStore where
  state : StoreState
  profile : Profile
  slot : Option Nat
  owedW : Option Nat
  owedP : Option Nat
deriving DecidableEq, Repr

/-! ### The whole part -/

/-- The state of the HA-36. stack holds the contexts, top first (R143). draws counts the free values drawn and pending is the
queue of waiting commands: these two are the model's own. -/
structure State where
  ports : PerPort LinkPort
  table : HeadMap
  statuses : Vector EntryStatus 192
  engine : Engine
  jobs : JobQueue
  stack : List SearchRecord
  handshake : HandshakeUnit
  sample : SamplePath
  frame : PositionFrame
  arbiter : Arbiter
  store : ProfileStore
  draws : Nat
  pending : List Instr
deriving DecidableEq, Repr

/-! ### Reset -/

/-- The same value at each port. -/
def PerPort.all {α : Type} (x : α) : PerPort α := ⟨x, x, x⟩

/-- The same value for each source. -/
def PerSource.all {α : Type} (x : α) : PerSource α := ⟨x, x, x, x, x, x, x, x, x, x⟩

/-- A Notice Unit at power-on and after RESET PORT (R172). -/
def NoticeUnit.reset : NoticeUnit :=
  ⟨.all none, .all 0, .all true, .all false, .level, false, 0, .idle⟩

/-- The full head window (R192). -/
def Window.full : Window := ⟨0, 16⟩

/-- A Link Port at power-on (R184). -/
def LinkPort.reset : LinkPort :=
  ⟨false, .empty, 0, .full, none, .reset, [], 0⟩

/-- An entry with no seed and no parts (R27). -/
def Entry.empty : Entry := ⟨none, none, none⟩

/-- The table at power-on (R27). -/
def HeadMap.reset : HeadMap := ⟨Vector.replicate 192 .empty, 0⟩

/-- The empty dwell accumulator with stride 1. DESIGN CHOICE: the manual gives the stride no value before the first dwell
(log entry 2). -/
def Dwell.reset : Dwell := ⟨0, 0, none, 0, 1⟩

/-- The engine at power-on (R28). -/
def Engine.reset : Engine := ⟨.idle, none, .reset, none, false, false, none, []⟩

/-- The Job Queue at power-on (R141). -/
def JobQueue.reset : JobQueue := ⟨[], [], 1, 1, 0, none, false, false⟩

/-- The Handshake Unit at power-on (R100). -/
def HandshakeUnit.reset : HandshakeUnit :=
  ⟨none, .stopped, none, 0, none, .stopped, .stopped, none, 0, none⟩

/-- The Sample Path at power-on (R63, R65, R68, R71, R72, R77, R78). -/
def SamplePath.reset : SamplePath :=
  ⟨0, false, 0, false, 0, 0, .stopped, .stopped, [], 0, 0, 0, 0, 0, 0⟩

/-- The Position Frame at power-on (R99). DESIGN CHOICE: the accepted levels are low until the first filter sample sets them
(log entry 2). -/
def PositionFrame.reset : PositionFrame :=
  ⟨⟨false, 0⟩, ⟨false, 0⟩, ⟨false, 0⟩, ⟨false, 0⟩, false, 4, 0, 0, .idle, .untested, .none, .stopped⟩

/-- The Table Arbiter at power-on (R156). -/
def Arbiter.reset : Arbiter := ⟨none, ⟨none, none, none, none⟩, .stopped, ⟨3, 2, 1, 0⟩, false, 20⟩

/-- Profile RAM before the first load. DESIGN CHOICE: the manual gives it no value; each parameter holds the value of its
range nearest to 0 (log entry 2). -/
def Profile.reset : Profile where
  headCount := 1
  zoneCount := 1
  referenceHead := 0
  wedges := 32
  sampleExponent := 0
  countsPerTrack := 64
  step := 1
  searchRange := 16
  nullTolerance := 1
  maxIterations := 1
  gainFloor := 1
  spreadLimit := 16
  rejectLimit := 0
  burstFloor := 16
  settleWindow := 1
  settleTime := 0
  headSettleDelay := 0
  moveTimeout := 10
  headSelectTimeout := 10
  servoLossTimeout := 10
  wedgeWindow := 20
  driftLimit := 1
  driftInterval := 0
  travelLow := 0
  travelHigh := 1
  homeValue := 0
  filterLength := 1
  zoneCentre := Vector.replicate 12 0
  zoneTrack := Vector.replicate 12 0
  defaultSlot := 0

/-- The Profile Store at the release of RESETn: LOADING, no slot in force, both marks clear (R198). -/
def ProfileStore.reset : ProfileStore := ⟨.loading none, .reset, none, none, none⟩

/-- The part right after RESETn is released. -/
def State.reset : State where
  ports := .all .reset
  table := .reset
  statuses := Vector.replicate 192 .idle
  engine := .reset
  jobs := .reset
  stack := []
  handshake := .reset
  sample := .reset
  frame := .reset
  arbiter := .reset
  store := .reset
  draws := 0
  pending := []

end Sys2Proof.Machine
end

