-- ==== Sys2Proof/Machine/Arith.lean ====
section
/-! DEFINITION. The arithmetic of the manual's conventions (00_scope.md, Arithmetic): floor, truncation, rounding to nearest,
saturation, the wrapping counts, and numbers as little-endian bytes (R196). -/

namespace Sys2Proof.Machine

/-- Clamped, or saturated, to lo..hi: a value beyond the range is replaced by the nearer bound. -/
def clampInt (lo hi x : Int) : Int := if x < lo then lo else if hi < x then hi else x

/-- A quotient rounded to nearest, halves away from zero (R15, R47). The divisor is not 0 wherever the part divides. -/
def roundHalfAway (a b : Int) : Int :=
  let q : Int := ((2 * a.natAbs + b.natAbs) / (2 * b.natAbs) : Nat)
  if decide (a < 0) = decide (b < 0) then q else -q

/-- The mean of n samples, halves toward plus infinity: floor((S + n/2) / n) (R40). -/
def dwellMean (sum : Int) (n : Nat) : Int := (sum + ((n / 2 : Nat) : Int)) / (n : Int)

/-- A signed 16-bit difference: reduced modulo 65536 into −32768..+32767. -/
def signed16 (x : Int) : Int := (x + 32768) % 65536 - 32768

/-- A signed 24-bit count: reduced modulo 2^24 into −8,388,608..+8,388,607 (R84). -/
def wrap24 (x : Int) : Int := (x + 8388608) % 16777216 - 8388608

/-- A saturating count raised by 1. -/
def satSucc (cap n : Nat) : Nat := if n < cap then n + 1 else n

/-- The low k bytes of a number, least significant first; a signed value in two's complement (R196). -/
def le : Nat → Int → List Byte
  | 0, _ => []
  | k + 1, x => BitVec.ofInt 8 x :: le k (x / 256)

/-- One byte holding a number. -/
def u8 (n : Nat) : List Byte := [BitVec.ofNat 8 n]

/-- Two bytes holding a number, least significant first. -/
def u16 (n : Nat) : List Byte := le 2 n

/-- Four bytes holding a number, least significant first. -/
def u32 (n : Nat) : List Byte := le 4 n

/-- A flag: 1 for set, on, yes, high or present. R196 gives 1 for set or on in arguments only. DESIGN CHOICE: a payload item whose
rule lists yes or no, on or off, set or clear, or low or high has the same encoding (log entry 8). -/
def flag (b : Bool) : List Byte := u8 b.toNat

/-- An optional item: a presence byte, then its value bytes, which are 0 when it is absent (R196). -/
def optional (width : Nat) (item : Option (List Byte)) : List Byte :=
  match item with
  | some bytes => 1 :: bytes
  | none => 0 :: List.replicate width 0

/-- The number little-endian bytes spell, unsigned. -/
def fromLe : List Byte → Nat
  | [] => 0
  | b :: rest => b.toNat + 256 * fromLe rest

/-- A three-byte count as a signed number (R196). -/
def signed24 (n : Nat) : Int := wrap24 n

/-- The remaining time of a timer, in whole milliseconds (log entry 5). -/
def milliseconds (us : Nat) : Nat :=
  us / 1000 + (decide (us % 1000 ≠ 0) && Config.partMillisecondCountsUp us).toNat

end Sys2Proof.Machine
end

