-- ==== Sys2Proof/Machine/Operands.lean ====
section
/-! DEFINITION. Request arguments (R196): what each argument byte means, and absence where its value is out of its range. -/

namespace Sys2Proof.Machine

/-- A port argument: 0 for W, 1 for P, 2 for D (R196). -/
def portArg (b : Byte) : Option Port :=
  if b = 0 then some .workstation else if b = 1 then some .positioner else if b = 2 then some .adapter else none

/-- A class argument: 0 for NORMAL, 1 for PRIORITY, 2 for URGENT (R196). -/
def classArg (b : Byte) : Option JobClass :=
  if b = 0 then some .normal else if b = 1 then some .priority else if b = 2 then some .urgent else none

/-- A class argument of a request that refuses URGENT (R125, R130). -/
def sweepClassArg (b : Byte) : Option JobClass :=
  if b = 0 then some .normal else if b = 1 then some .priority else none

/-- A flag, clear form, form, preemption or tracking argument: 0 for clear or off, 1 for set or on (R196). -/
def flagArg (b : Byte) : Option Bool :=
  if b = 0 then some false else if b = 1 then some true else none

/-- A line mode argument: 0 for LEVEL, 1 for PULSE (R196). -/
def modeArg (b : Byte) : Option LineMode :=
  if b = 0 then some .level else if b = 1 then some .pulse else none

/-- An iteration limit override: 0 is none, 1..8 is the override, and more is out of range (R125). -/
def limitArg (b : Byte) : Option (Option Nat) :=
  if b = 0 then some none else if b.toNat ≤ 8 then some (some b.toNat) else none

/-- A window size: 1, 2, 4, 8 or 16 (R193). -/
def sizeArg (b : Byte) : Option Nat :=
  if b = 1 ∨ b = 2 ∨ b = 4 ∨ b = 8 ∨ b = 16 then some b.toNat else none

/-- The sources a mask argument names: bit n stands for source n (R179, R196). The six bits above the ten sources name none
(log entry 14). -/
def maskArg (m : BitVec 16) : PerSource Bool :=
  ⟨m.getLsbD 0, m.getLsbD 1, m.getLsbD 2, m.getLsbD 3, m.getLsbD 4,
   m.getLsbD 5, m.getLsbD 6, m.getLsbD 7, m.getLsbD 8, m.getLsbD 9⟩

end Sys2Proof.Machine
end

