-- ==== Sys2Proof/Machine/Layout.lean ====
section
/-! DEFINITION. The wire layouts of R196 and R197: what each item of a payload is as bytes. Where the rules leave a layout
open, log entry 8 says how the model reads them. -/

namespace Sys2Proof.Machine

/-- A port's identity byte (R196). -/
def Port.code : Port → Nat
  | .workstation => 0
  | .positioner => 1
  | .adapter => 2

/-- The status byte (R196). -/
def Status.code : Status → Nat
  | .ok => 0
  | .busy => 1
  | .notReady => 2
  | .noProfile => 3
  | .detached => 4
  | .wrongPort => 5
  | .badArgument => 6
  | .outOfWindow => 7
  | .queueFull => 8
  | .groupsFull => 9
  | .entryBusy => 10
  | .unknownJob => 11
  | .tooLate => 12
  | .staleSequence => 13
  | .empty => 14
  | .conditionPresent => 15
  | .frameError => 16

/-- The engine state byte, in the order of R28. -/
def EngineState.code : EngineState → Nat
  | .idle => 0
  | .headWait => 1
  | .moveWait => 2
  | .settling => 3
  | .dwell => 4
  | .commit => 5
  | .publish => 6
  | .faultHold => 7

/-- The store state byte, in the order LOADING, READY, NO_PROFILE, SAVING (R190). -/
def StoreState.code : StoreState → Nat
  | .loading _ => 0
  | .ready => 1
  | .noProfile => 2
  | .saving _ => 3

/-- The outcome code of R197, with 14 for CLEARED (R196). -/
def JobOutcome.code : JobOutcome → Nat
  | .converged => 0
  | .arrived => 1
  | .notConverged => 2
  | .gainLow => 3
  | .nullOutOfRange => 4
  | .tooNoisy => 5
  | .servoLost => 6
  | .headFault => 7
  | .moveTimeout => 8
  | .positionerFault => 9
  | .travelLimit => 10
  | .encoderFault => 11
  | .handshakeLost => 12
  | .cancelled => 13
  | .cleared => 14

/-- A cause of withdrawal: the outcome code, or 15 for PREEMPTED (R196). -/
def Cause.code : Cause → Nat
  | .ended o => o.code
  | .preempted => 15

/-- The class byte (R196). -/
def JobClass.code : JobClass → Nat
  | .normal => 0
  | .priority => 1
  | .urgent => 2

/-- The submitter byte: 0 W, 1 P, 2 INTERNAL (R196). -/
def Submitter.code : Submitter → Nat
  | .w => 0
  | .p => 1
  | .internal => 2

/-- The kind of a job. -/
def JobWork.kind : JobWork → JobKind
  | .measure _ _ => .measure
  | .referenceCheck _ _ => .referenceCheck
  | .moveTo _ => .moveTo

/-- The kind byte (R197). -/
def JobKind.code : JobKind → Nat
  | .measure => 0
  | .referenceCheck => 1
  | .moveTo => 2

/-- The client byte of READ ARBITRATION (R196). -/
def Client.code : Client → Nat
  | .engine => 0
  | .w => 1
  | .d => 2
  | .p => 3

/-- The operation byte of READ ARBITRATION, in the order of R164. -/
def TableOp.code : TableOp → Nat
  | .e0LookUp => 0
  | .commit => 1
  | .groupPublish => 2
  | .publish => 3
  | .discardEntry _ _ => 4
  | .discardAll => 4
  | .seed _ _ _ => 5
  | .clearEntry _ _ _ => 6
  | .clearBench => 7
  | .emptyTable _ _ => 8
  | .readEntry _ _ => 9
  | .readTable _ => 10
  | .readNext _ => 11

/-- The entry status code (R197). -/
def EntryStatus.code : EntryStatus → Nat
  | .idle => 0
  | .queued => 1
  | .measuring => 2
  | .suspended => 3

/-- The quality of an entry: NONE exactly when it has no published part (R3, R5). -/
def Entry.quality (e : Entry) : Quality :=
  match e.published with
  | none => .none
  | some p => if p.stale then .stale else .valid

/-- The quality code (R197). -/
def Quality.code : Quality → Nat
  | .none => 0
  | .valid => 1
  | .stale => 2

/-- The staged outcome code (R197). -/
def stagedCode : Option StagedPart → Nat
  | none => 0
  | some (.converged _ _ _ _ _) => 1
  | some (.suspect .notConverged _ _ _ _ _) => 2
  | some (.suspect .gainLow _ _ _ _ _) => 3
  | some (.suspect .nullOutOfRange _ _ _ _ _) => 4
  | some (.suspect .tooNoisy _ _ _ _ _) => 5

/-- The null or last estimate a staged part holds (R6). -/
def StagedPart.estimate : StagedPart → Option Int
  | .converged n _ _ _ _ => some n
  | .suspect _ e _ _ _ _ => e

/-- The gain a staged part holds (R6). -/
def StagedPart.gain? : StagedPart → Option Int
  | .converged _ g _ _ _ => some g
  | .suspect _ _ g _ _ _ => g

/-- The residual a staged part holds (R6). -/
def StagedPart.residual? : StagedPart → Option Nat
  | .converged _ _ r _ _ => some r
  | .suspect _ _ _ r _ _ => r

/-- The iterations of a staged part (R6). -/
def StagedPart.iterations : StagedPart → Nat
  | .converged _ _ _ i _ => i
  | .suspect _ _ _ _ i _ => i

/-- The reject total of a staged part (R6). -/
def StagedPart.rejects : StagedPart → Nat
  | .converged _ _ _ _ r => r
  | .suspect _ _ _ _ _ r => r

/-- Bit 24 of a signed 25-bit null field, its sign (R197). -/
def signBit (x : Option Int) : Nat := match x with
  | some n => if n < 0 then 1 else 0
  | none => 0

/-- The generation lag: the publish generation minus the entry's modulo 65536, saturated to 255 (R197). -/
def generationLag (table entry : Nat) : Nat := min 255 ((table + 65536 - entry) % 65536)

/-- The entry record of R165, 24 bytes (R197). -/
def entryRecord (index : Nat) (status : EntryStatus) (e : Entry) (generation : Nat) : List Byte :=
  let staged := e.staged.bind StagedPart.estimate
  let published := e.published.map PublishedPart.null
  let offset := e.published.bind PublishedPart.offset
  let residual : Option Nat := match e.staged with
    | some p => p.residual?
    | none => e.published.map PublishedPart.residual
  let iterations : Nat := match e.staged with
    | some p => p.iterations
    | none => (e.published.map PublishedPart.iterations).getD 0
  let rejects : Nat := match e.staged with
    | some p => p.rejects
    | none => (e.published.map PublishedPart.rejects).getD 0
  u8 index
    ++ u8 (status.code + 4 * e.quality.code + 16 * stagedCode e.staged + 128 * e.seed.isSome.toNat)
    ++ u8 (iterations + 16 * staged.isSome.toNat + 32 * offset.isSome.toNat + 64 * signBit published + 128 * signBit staged)
    ++ u8 rejects
    ++ u16 (residual.getD 65535)
    ++ le 3 (published.getD 0)
    ++ le 2 ((e.published.map PublishedPart.gain).getD 0)
    ++ le 2 (offset.getD 0)
    ++ u8 ((e.published.map fun p => generationLag generation p.generation).getD 0)
    ++ le 3 (staged.getD 0)
    ++ le 2 ((e.staged.bind StagedPart.gain?).getD 0)
    ++ le 3 (e.seed.getD 0)
    ++ u16 generation

/-- The completion record of R54, 19 bytes (R197). -/
def CompletionRecord.bytes (r : CompletionRecord) : List Byte :=
  u8 r.job
    ++ u8 (r.kind.code + 4 * r.place.isSome.toNat + 8 * r.null.isSome.toNat + 16 * r.residual.isSome.toNat
        + 32 * r.drift.isSome.toNat + 64 * r.staleMarked.toNat)
    ++ u8 (match r.place with
        | some (h, z) => z + 16 * h
        | none => 0)
    ++ u8 r.outcome.code
    ++ u8 r.iterations
    ++ le 4 (r.null.getD 0)
    ++ u16 (r.residual.getD 0)
    ++ le 4 (r.drift.getD 0)
    ++ u32 r.stamp

/-- A job in a READ QUEUE payload, 11 bytes (R196). The override byte is 0 for the active and stacked jobs. -/
def JobRecord.bytes (withLimit : Bool) (j : JobRecord) : List Byte :=
  u8 j.id ++ u8 j.work.kind.code ++ u8 j.cls.code ++ u8 j.submitter.code
    ++ (match j.work with
        | .measure h z => u8 h ++ u8 z ++ le 3 0
        | .referenceCheck h z => u8 h ++ u8 z ++ le 3 0
        | .moveTo t => u8 0 ++ u8 0 ++ le 3 t)
    ++ u8 (j.group.getD 0)
    ++ u8 (if withLimit then j.limit.getD 0 else 0)

/-- A group record in a READ QUEUE payload, 6 bytes in the order of R129 (R196). -/
def Group.bytes (g : Group) : List Byte :=
  u8 g.id ++ u8 g.submitter.code ++ u8 g.members ++ flag g.publishAtEnd ++ flag g.cancelled ++ flag g.due

/-- A list of items of fixed size: a count byte, then the items (R196). -/
def listBytes (items : List (List Byte)) : List Byte := u8 items.length ++ items.flatten

/-- A detail's bytes without the unused ones (R196). -/
def Detail.bytes : Detail → List Byte
  | .encoder c => u8 0 ++ u8 0 ++ le 3 c
  | .travel above c => u8 1 ++ flag above ++ le 3 c
  | .pfault c => u8 2 ++ u8 0 ++ le 3 c
  | .profile slot => u8 3 ++ u8 0 ++ u8 slot
  | .servoLost r => u8 0 ++ u32 r
  | .servoRegained r => u8 1 ++ u32 r
  | .slip c => u8 2 ++ u16 c
  | .headRequest s h j => u8 s ++ u8 h ++ u8 j
  | .moveRequest s t j => u8 s ++ le 3 t ++ u8 j
  | .jobs n o => u8 n ++ u8 o
  | .drift z d => u8 z ++ le 4 d
  | .published g p d u => u16 g ++ u8 p ++ u8 d ++ u8 u
  | .queueSpace n => u8 n
  | .withdrawn s c => u8 s ++ u8 c.code

/-- A detail in its 5 bytes, the unused ones 0 (R196). -/
def Detail.five (d : Detail) : List Byte := (d.bytes ++ List.replicate 5 0).take 5

/-- A set of notice sources, 2 bytes, bit n for source n (R196). -/
def setBytes (s : PerSource Bool) : List Byte :=
  u16 (s.withdrawn.toNat + 2 * s.queueSpace.toNat + 4 * s.published.toNat + 8 * s.drift.toNat + 16 * s.jobDone.toNat
    + 32 * s.jobFailed.toNat + 64 * s.moveRequest.toNat + 128 * s.headRequest.toNat + 256 * s.servo.toNat
    + 512 * s.fault.toNat)

/-- The flags byte of a response header: bit 0 CLAMPED, bit 1 PREEMPTED, bit 2 MORE (R196). -/
def Response.flags (r : Response) : Nat := r.clamped.toNat + 2 * r.preempted.toNat + 4 * r.more.toNat

/-- The length byte of a response frame (R196). -/
def Response.length (r : Response) : Nat := 6 + r.payload.length

/-- The response frame as the port clocks it out (R196). -/
def Response.frame (r : Response) : List Byte :=
  u8 r.length ++ u8 r.status.code ++ [r.tag] ++ u8 r.flags ++ u8 r.dropped ++ u8 r.records ++ r.payload

end Sys2Proof.Machine
end

