-- ==== Sys2Proof/Machine/Flags.lean ====
section
/-! DEFINITION. The flags and lines read off the state: notice conditions, pending and eligible sources, ATTN and RDY
(R171 to R176, R184). -/

namespace Sys2Proof.Machine

/-! ### Collections -/

/-- The value at a port. -/
def PerPort.get {α : Type} (x : PerPort α) : Port → α
  | .workstation => x.w
  | .positioner => x.p
  | .adapter => x.d

/-- The same values with one port's replaced. -/
def PerPort.set {α : Type} (x : PerPort α) (p : Port) (v : α) : PerPort α :=
  match p with
  | .workstation => { x with w := v }
  | .positioner => { x with p := v }
  | .adapter => { x with d := v }

/-- The value of a client. -/
def PerClient.get {α : Type} (x : PerClient α) : Client → α
  | .engine => x.engine
  | .w => x.w
  | .d => x.d
  | .p => x.p

/-- The same values with one client's replaced. -/
def PerClient.set {α : Type} (x : PerClient α) (c : Client) (v : α) : PerClient α :=
  match c with
  | .engine => { x with engine := v }
  | .w => { x with w := v }
  | .d => { x with d := v }
  | .p => { x with p := v }

/-- The value of a source. -/
def PerSource.get {α : Type} (x : PerSource α) : Source → α
  | .withdrawn => x.withdrawn
  | .queueSpace => x.queueSpace
  | .published => x.published
  | .drift => x.drift
  | .jobDone => x.jobDone
  | .jobFailed => x.jobFailed
  | .moveRequest => x.moveRequest
  | .headRequest => x.headRequest
  | .servo => x.servo
  | .fault => x.fault

/-- The same values with one source's replaced. -/
def PerSource.set {α : Type} (x : PerSource α) (s : Source) (v : α) : PerSource α :=
  match s with
  | .withdrawn => { x with withdrawn := v }
  | .queueSpace => { x with queueSpace := v }
  | .published => { x with published := v }
  | .drift => { x with drift := v }
  | .jobDone => { x with jobDone := v }
  | .jobFailed => { x with jobFailed := v }
  | .moveRequest => { x with moveRequest := v }
  | .headRequest => { x with headRequest := v }
  | .servo => { x with servo := v }
  | .fault => { x with fault := v }

/-- A source's number, which is its priority (R171). -/
def Source.num : Source → Nat
  | .withdrawn => 0
  | .queueSpace => 1
  | .published => 2
  | .drift => 3
  | .jobDone => 4
  | .jobFailed => 5
  | .moveRequest => 6
  | .headRequest => 7
  | .servo => 8
  | .fault => 9

/-- The sources, greatest number first. -/
def Source.descending : List Source :=
  [.fault, .servo, .headRequest, .moveRequest, .jobFailed, .jobDone, .drift, .published, .queueSpace, .withdrawn]

/-- The level-like sources (R171). -/
def Source.isLevel : Source → Bool
  | .headRequest => true
  | .moveRequest => true
  | .jobFailed => true
  | .jobDone => true
  | .withdrawn => false
  | .queueSpace => false
  | .published => false
  | .drift => false
  | .servo => false
  | .fault => false

/-- A port of the state. -/
def State.port (s : State) (p : Port) : LinkPort := s.ports.get p

/-! ### Conditions of the level-like sources (R171, R174) -/

/-- The outcomes JOB_DONE reports (R171). -/
def JobOutcome.isDone : JobOutcome → Bool
  | .converged => true
  | .arrived => true
  | _ => false

/-- The records of a completion list that a JOB_DONE or JOB_FAILED notice reports. -/
def recordsOf (done : Bool) (l : List CompletionRecord) : List CompletionRecord :=
  l.filter fun r => r.outcome.isDone == done

/-- The move handshake is REQUESTED. -/
def HandshakeUnit.moveRequested (h : HandshakeUnit) : Bool :=
  match h.move with
  | some m => m.phase == .requested
  | none => false

/-- The head handshake is REQUESTED. -/
def HandshakeUnit.headRequested (h : HandshakeUnit) : Bool :=
  match h.head with
  | some r => r.phase == .requested
  | none => false

/-- Whether a level-like source's condition holds at a port; a source that does not reach the port holds nowhere (R171). -/
def State.levelHolds (s : State) (p : Port) : Source → Bool
  | .headRequest => p == .adapter && s.handshake.headRequested
  | .moveRequest => p == .positioner && s.handshake.moveRequested
  | .jobFailed => p != .adapter && !(recordsOf false (s.port p).completions).isEmpty
  | .jobDone => p != .adapter && !(recordsOf true (s.port p).completions).isEmpty
  | _ => false

/-- The detail of a level-like source, formed from its condition's owner (R171). -/
def State.levelDetail (s : State) (p : Port) : Source → Option Detail
  | .headRequest => s.handshake.head.map fun r => .headRequest r.sequence r.head r.job
  | .moveRequest => s.handshake.move.map fun m => .moveRequest m.sequence m.target m.job
  | .jobFailed => (recordsOf false (s.port p).completions).head?.map fun r =>
      .jobs (recordsOf false (s.port p).completions).length r.job
  | .jobDone => (recordsOf true (s.port p).completions).head?.map fun r =>
      .jobs (recordsOf true (s.port p).completions).length r.job
  | _ => none

/-! ### Pending, eligible and the lines -/

/-- Whether a source is in a port's pending set (R173, R174). -/
def State.isPending (s : State) (p : Port) (src : Source) : Bool :=
  ((s.port p).notices.details.get src).isSome || s.levelHolds p src

/-- The greatest source in service, if any (R175, R178). -/
def NoticeUnit.topService (u : NoticeUnit) : Option Source :=
  Source.descending.find? fun src => u.inService.get src

/-- Whether a number is above every source in service (R175). -/
def NoticeUnit.aboveService (u : NoticeUnit) (src : Source) : Bool :=
  match u.topService with
  | none => true
  | some t => decide (t.num < src.num)

/-- Whether a source is eligible at a port (R175). -/
def State.isEligible (s : State) (p : Port) (src : Source) : Bool :=
  s.isPending p src && !(s.port p).notices.mask.get src && (s.port p).notices.aboveService src

/-- The eligible sources of a port, greatest first (R175). -/
def State.eligible (s : State) (p : Port) : List Source :=
  Source.descending.filter (s.isEligible p)

/-- Whether a port has an eligible source. -/
def State.hasEligible (s : State) (p : Port) : Bool :=
  Source.descending.any (s.isEligible p)

/-- The pending set as the notice report names it (R179). -/
def State.pendingSet (s : State) (p : Port) : PerSource Bool :=
  ⟨s.isPending p .withdrawn, s.isPending p .queueSpace, s.isPending p .published, s.isPending p .drift,
   s.isPending p .jobDone, s.isPending p .jobFailed, s.isPending p .moveRequest, s.isPending p .headRequest,
   s.isPending p .servo, s.isPending p .fault⟩

/-- The ATTN line of a port (R175, R176). -/
def State.attn (s : State) (p : Port) : Bool :=
  (s.port p).attached &&
    match (s.port p).notices.mode with
    | .level => s.hasEligible p
    | .pulse => match (s.port p).notices.pulse with
      | .pulsing _ _ => true
      | .idle => false
      | .low _ => false

/-- The RDY line of a port: high exactly while its slot is READY (R184). -/
def State.rdy (s : State) (p : Port) : Bool :=
  match (s.port p).slot with
  | .ready _ => true
  | .empty => false
  | .pending _ => false

/-! ### What is in force -/

/-- Whether a profile is in force (R90, R198). -/
def ProfileStore.inForce (st : ProfileStore) : Bool := st.slot.isSome

/-- The servo is LOST and has been for the whole loss timeout (R68). -/
def SamplePath.lossExpired (sp : SamplePath) : Bool := !sp.locked && sp.loss == .expired

/-- Whether an engine state is one in which a job can be cancelled, preempted or ended by a fault (R28, R52). -/
def EngineState.working : EngineState → Bool
  | .headWait => true
  | .moveWait => true
  | .settling => true
  | .dwell => true
  | .idle => false
  | .commit => false
  | .publish => false
  | .faultHold => false

/-- Whether a head lies inside a window (R192). -/
def Window.inside (w : Window) (head : Nat) : Bool := decide (w.base ≤ head) && decide (head < w.base + w.size)

/-- The entry index of (h, z) (R1). -/
def entryIndex (head zone : Nat) : Nat := head * 12 + zone

/-- Whether an entry is in the profile (R1). -/
def Profile.holds (pr : Profile) (head zone : Nat) : Bool := decide (head < pr.headCount) && decide (zone < pr.zoneCount)

/-- Whether a group record is PUBLISH_DUE. -/
def JobQueue.publishDue (q : JobQueue) : Bool := q.groups.any Group.due

/-- Whether a job needs the head handshake (R35). -/
def JobWork.needsHead : JobWork → Bool
  | .measure _ _ => true
  | .referenceCheck _ _ => true
  | .moveTo _ => false

/-- The entry a job names (R2). -/
def JobWork.place : JobWork → Option (Nat × Nat)
  | .measure h z => some (h, z)
  | .referenceCheck h z => some (h, z)
  | .moveTo _ => none

/-- The rank of a class (R123). -/
def JobClass.rank (c : JobClass) : Nat := c.code

end Sys2Proof.Machine
end

