-- ==== Sys2Proof/Machine/Ops.lean ====
section
/-! DEFINITION. The named operations every command is made of: the response slot, the posting of notices and the driving of the
line, the completion lists. -/

namespace Sys2Proof.Machine

/-! ### Ports -/

/-- One port replaced. -/
def State.setPort (s : State) (p : Port) (x : LinkPort) : State := { s with ports := s.ports.set p x }

/-- One port's response slot replaced. -/
def State.setSlot (s : State) (p : Port) (x : Slot) : State := s.setPort p { s.port p with slot := x }

/-- One port's Notice Unit replaced. -/
def State.setNotices (s : State) (p : Port) (u : NoticeUnit) : State := s.setPort p { s.port p with notices := u }

/-- What a request answers, beside the tag and the dropped-request count (R196). -/
structure Answer where
  status : Status := .ok
  clamped : Bool := false
  preempted : Bool := false
  more : Bool := false
  records : Nat := 0
  payload : List Byte := []
deriving DecidableEq, Repr

/-- The response a port assembles: its header reports the dropped-request count as it stands now (R187). -/
def State.responseOf (s : State) (p : Port) (tag : Byte) (a : Answer) : Response :=
  { status := a.status, tag := tag, clamped := a.clamped, preempted := a.preempted, more := a.more,
    dropped := (s.port p).dropped, records := a.records, payload := a.payload }

/-- A response is assembled: the slot becomes READY and RDY rises (R186). -/
def answer (p : Port) (tag : Byte) (a : Answer) (s : State) : State := s.setSlot p (.ready (s.responseOf p tag a))

/-- A refusal, or any other answer with nothing but its status: flags clear, record count 0, no payload (R191). -/
def refuse (p : Port) (tag : Byte) (st : Status) (s : State) : State := answer p tag { status := st } s

/-- An OK answer with a payload and nothing else. -/
def reply (p : Port) (tag : Byte) (payload : List Byte) (s : State) : State := answer p tag { payload := payload } s

/-- The answer to the request a port's PENDING slot holds; a slot that is not PENDING is left (R186). -/
def answerPending (p : Port) (a : Answer) (s : State) : State :=
  match (s.port p).slot with
  | .pending i => answer p i.tag a s
  | .empty => s
  | .ready _ => s

/-- A request frame is discarded: it is not checked and has no effect, and the port's count rises, saturating at 255 (R187). -/
def dropRequest (p : Port) (s : State) : State :=
  s.setPort p { s.port p with dropped := satSucc 255 (s.port p).dropped }

/-- What the request summary says of a request (R191, section 10.7): the ports it is accepted from, whether it is
profile-dependent, and whether it is accepted from a DETACHED port. -/
structure Access where
  senders : List Port
  profile : Bool := false
  detached : Bool := false
deriving DecidableEq, Repr

/-- The common refusals in their order (R191). -/
def State.commonRefusal (s : State) (p : Port) (a : Access) : Option Status :=
  if (!(s.port p).attached && !a.detached) = true then some .detached
  else if p ∉ a.senders then some .wrongPort
  else if a.profile = true then
    match s.store.state with
    | .loading _ => some .notReady
    | .saving _ => some .notReady
    | .noProfile => some .noProfile
    | .ready => none
  else none

/-- A request frame is delivered: dropped while the slot is not EMPTY (R187); otherwise taken, so that the slot becomes PENDING
(R186), and refused by the first common refusal that holds (R191) or handed to the block that owns it. -/
def request (i : Instr) (p : Port) (a : Access) (body : State → State) (s : State) : State :=
  if (s.port p).slot = .empty then
    match s.commonRefusal p a with
    | some st => refuse p i.tag st (s.setSlot p (.pending i))
    | none => body (s.setSlot p (.pending i))
  else dropRequest p s

/-- All three ports may send the request. -/
def everyPort : List Port := [.workstation, .positioner, .adapter]

/-! ### The ATTN line (R175, R176) -/

/-- A pulse cause at a port: while the port is ATTACHED in PULSE mode, a pulse of 2 µs starts, and a cause taken during a pulse
owes one repeat. A cause during the low before an owed repeat adds nothing to it (log entry 12). -/
def pulseCause (p : Port) (s : State) : State :=
  let u := (s.port p).notices
  if (s.port p).attached = true ∧ u.mode = .pulse then
    s.setNotices p { u with pulse := match u.pulse with
      | .idle => .pulsing 2 false
      | .pulsing t _ => .pulsing t true
      | .low t => .low t }
  else s

/-- The pulse cause of a change of the sets: the eligible set goes from empty to non-empty (R176). -/
def pulseOnset (before : State) (p : Port) (s : State) : State :=
  if (!before.hasEligible p && s.hasEligible p) = true then pulseCause p s else s

/-- The pulse cause of ATTACH, END SERVICE, SET NOTICE MASK and SET NOTICE MODE: a source is eligible after the change
(R176). -/
def pulseIfEligible (p : Port) (s : State) : State := if s.hasEligible p = true then pulseCause p s else s

/-- A change of the sets, with the eligible sets of the three ports re-formed after it (R175, R176). -/
def reforming (f : State → State) (s : State) : State :=
  pulseOnset s .adapter (pulseOnset s .positioner (pulseOnset s .workstation (f s)))

/-! ### Posting (R173, R174) -/

/-- A port's merge count of a source rises by 1, saturating at 255, while the port is ATTACHED (R173, R174). -/
def raiseMerge (p : Port) (src : Source) (s : State) : State :=
  let u := (s.port p).notices
  if (s.port p).attached = true then
    s.setNotices p { u with merge := u.merge.set src (satSucc 255 (u.merge.get src)) }
  else s

/-- A detail is stored at a port while it is ATTACHED, overwriting the one before (R173). -/
def storeDetail (p : Port) (src : Source) (d : Detail) (s : State) : State :=
  let u := (s.port p).notices
  if (s.port p).attached = true then
    s.setNotices p { u with details := u.details.set src (some d) }
  else s

/-- A post without the line, for ATTACH, which drives the line after it (R199). -/
def postQuiet (src : Source) (d : Detail) (p : Port) (s : State) : State :=
  raiseMerge p src (storeDetail p src d s)

/-- A post of an event-like source to a port (R173). -/
def post (src : Source) (d : Detail) (p : Port) (s : State) : State :=
  reforming (postQuiet src d p) s

/-- A FAULT notice to Port W and Port P, an independent post to each (R85, R91, R92). -/
def postFault (d : Detail) (s : State) : State := post .fault d .positioner (post .fault d .workstation s)

/-- A notice to Port W and Port D, an independent post to each (R10, R18). -/
def postWD (src : Source) (d : Detail) (s : State) : State := post src d .adapter (post src d .workstation s)

/-! ### Conditions changing (R174) -/

/-- The move handshake's record is replaced: an onset of MOVE_REQUEST raises Port P's merge count (R174). -/
def setMove (m : Option MoveRequest) (s : State) : State :=
  reforming (fun s =>
    let s' := { s with handshake := { s.handshake with move := m } }
    if (!s.handshake.moveRequested && s'.handshake.moveRequested) = true then raiseMerge .positioner .moveRequest s' else s') s

/-- The head handshake's record is replaced: an onset of HEAD_REQUEST raises Port D's merge count (R174). -/
def setHead (r : Option HeadRequest) (s : State) : State :=
  reforming (fun s =>
    let s' := { s with handshake := { s.handshake with head := r } }
    if (!s.handshake.headRequested && s'.handshake.headRequested) = true then raiseMerge .adapter .headRequest s' else s') s

/-- The source that reports a record's outcome (R171). -/
def JobOutcome.source (o : JobOutcome) : Source := if o.isDone then .jobDone else .jobFailed

/-- A port's completion list is replaced. -/
def State.setCompletions (s : State) (p : Port) (l : List CompletionRecord) : State :=
  s.setPort p { s.port p with completions := l }

/-- A completion record joins a port's list at its newest end, or is dropped and counted when the list holds eight (R181).
An onset of JOB_DONE or JOB_FAILED raises its merge count (R174). -/
def writeCompletion (p : Port) (r : CompletionRecord) (s : State) : State :=
  if (s.port p).completions.length < Config.completionSlots then
    reforming (fun s =>
      let s' := s.setCompletions p ((s.port p).completions ++ [r])
      if (!s.levelHolds p r.outcome.source && s'.levelHolds p r.outcome.source) = true
      then raiseMerge p r.outcome.source s' else s') s
  else s.setPort p { s.port p with overflow := satSucc 255 (s.port p).overflow }

/-- The port that a job's completion record goes to (R121). -/
def Submitter.port : Submitter → Port
  | .w => .workstation
  | .p => .positioner
  | .internal => .workstation

/-! ### The sample FIFO, statuses and small fields -/

/-- The sample FIFO is flushed: its records are neither classified nor counted (R72). -/
def flushFifo (s : State) : State := { s with sample := { s.sample with fifo := [] } }

/-- The engine state is replaced. -/
def setEngineState (e : EngineState) (s : State) : State := { s with engine := { s.engine with state := e } }

/-- The active job's search record is replaced. -/
def setActive (r : Option SearchRecord) (s : State) : State := { s with engine := { s.engine with active := r } }

/-- The status of the entry a job names, if it names one (R2). -/
def setStatus (w : JobWork) (st : EntryStatus) (s : State) : State :=
  match w.place with
  | some (h, z) => { s with statuses := s.statuses.setIfInBounds (entryIndex h z) st }
  | none => s

/-- The status of entry (h, z). -/
def State.status (s : State) (head zone : Nat) : EntryStatus := (s.statuses[entryIndex head zone]?).getD .idle

/-- A WAITING home capture returns to IDLE (R89). -/
def dropHome (s : State) : State :=
  { s with frame := { s.frame with home := match s.frame.home with
      | .waiting => .idle
      | .idle => .idle
      | .done => .done } }

/-- A count clamped to the travel limits in force (R50). -/
def Profile.clampTravel (pr : Profile) (c : Int) : Int := clampInt pr.travelLow pr.travelHigh c

/-- A duration in milliseconds as a running timer. -/
def startMs (ms : Nat) : Timer := .running (ms * 1000)

end Sys2Proof.Machine
end

