-- ==== Sys2Proof/Machine/Table.lean ====
section
/-! DEFINITION. The record storage of the Head Map Table: the look-up, the commit with its drift compare, the publish, and the
removals (R4 to R26). Each is an operation under the grant; the arbiter and the commands call it at its end. -/

namespace Sys2Proof.Machine

/-- The record storage of the entry with an index. -/
def State.entryAt (s : State) (i : Nat) : Entry := (s.table.entries[i]?).getD .empty

/-- The record storage of entry (h, z). -/
def State.entry (s : State) (head zone : Nat) : Entry := s.entryAt (entryIndex head zone)

/-- One entry's record storage replaced. -/
def setEntry (head zone : Nat) (e : Entry) (s : State) : State :=
  { s with table := { s.table with entries := s.table.entries.setIfInBounds (entryIndex head zone) e } }

/-- Every entry's record storage replaced, by entry index. -/
def mapEntries (f : Nat → Entry → Entry) (s : State) : State :=
  { s with table := { s.table with entries := s.table.entries.mapIdx f } }

/-! ### E0 look-up (R31) -/

/-- The start position of a null search: the seed, else the published null, else the zone centre, clamped to travel (R31). -/
def State.chooseE0 (s : State) (head zone : Nat) : Int :=
  let e := s.entry head zone
  s.store.profile.clampTravel (match e.seed with
    | some c => c
    | none => match e.published with
      | some p => p.null
      | none => (s.store.profile.zoneCentre[zone]?).getD 0)

/-! ### Commit (R8, R10) -/

/-- A staged part is written into an entry, replacing any before it (R8). -/
def writeStaged (head zone : Nat) (part : StagedPart) (s : State) : State :=
  setEntry head zone { s.entry head zone with staged := some part } s

/-- The drift a commit finds: of a REFERENCE CHECK that ended CONVERGED over an entry whose quality is VALID, the new null minus
the published one (R10). -/
def State.driftFound (s : State) (work : JobWork) (part : StagedPart) : Option Int :=
  match work, part with
  | .referenceCheck h z, .converged null _ _ _ _ =>
    match (s.entry h z).published with
    | some p => if p.stale then none else some (null - p.null)
    | none => none
  | _, _ => none

/-- Whether a drift exceeds the profile's drift limit (R10). -/
def Profile.driftExceeds (pr : Profile) (drift : Int) : Bool := decide (pr.driftLimit < drift.natAbs)

/-- A published part becomes STALE (R3). -/
def PublishedPart.toStale (p : PublishedPart) : PublishedPart := { p with stale := true }

/-- Every VALID entry of a zone becomes STALE, and nothing else of any entry changes (R10). -/
def markZoneStale (zone : Nat) (s : State) : State :=
  mapEntries (fun i e => if i % 12 = zone then { e with published := e.published.map PublishedPart.toStale } else e) s

/-! ### Publish (R13, R14, R15, R17) -/

/-- The published part made from a CONVERGED staged part, without an offset (R13). -/
def publishedFrom (generation : Nat) (null gain : Int) (residual iterations rejects : Nat) : PublishedPart :=
  ⟨null, gain, residual, iterations, rejects, generation, none, false⟩

/-- The staged-part step for one entry (R13). -/
def Entry.takeStaged (generation : Nat) (e : Entry) : Entry :=
  match e.staged with
  | none => e
  | some (.converged n g r i j) => { e with staged := none, published := some (publishedFrom generation n g r i j) }
  | some (.suspect _ _ _ _ _ _) => { e with staged := none }

/-- The publish generation after the next publish (R17). -/
def HeadMap.nextGeneration (t : HeadMap) : Nat := (t.generation + 1) % 65536

/-- Whether the entry with an index is in the profile (R1). -/
def Profile.holdsIndex (pr : Profile) (i : Nat) : Bool := pr.holds (i / 12) (i % 12)

/-- The staged-part step of a publish (R13). -/
def stagedStep (s : State) : State :=
  mapEntries (fun i e => if s.store.profile.holdsIndex i then e.takeStaged s.table.nextGeneration else e) s

/-- An offset in 1/4096 track (R15). -/
def offsetOf (null reference : Int) (countsPerTrack : Nat) : Int :=
  clampInt (-32767) 32767 (roundHalfAway ((null - reference) * 4096) countsPerTrack)

/-- The published null of the reference head in a zone, if its entry has a published part (R14). -/
def State.referenceNull (s : State) (zone : Nat) : Option Int :=
  (s.entry s.store.profile.referenceHead zone).published.map PublishedPart.null

/-- A published part with the offset the zone's reference null gives it, or none (R14). -/
def PublishedPart.withOffset (reference : Option Int) (countsPerTrack : Nat) (p : PublishedPart) : PublishedPart :=
  { p with offset := reference.map fun r => offsetOf p.null r countsPerTrack }

/-- The offset step of a publish (R14). -/
def offsetStep (s : State) : State :=
  mapEntries (fun i e =>
    if s.store.profile.holdsIndex i then
      { e with published := e.published.map (PublishedPart.withOffset (s.referenceNull (i % 12)) s.store.profile.countsPerTrack) }
    else e) s

/-- The generation step of a publish (R17). -/
def generationStep (s : State) : State := { s with table := { s.table with generation := s.table.nextGeneration } }

/-- The work of a publish on the table: the three steps in their order (R12). -/
def publishTable (s : State) : State := generationStep (offsetStep (stagedStep s))

/-- The number of entries of the profile whose staged part has or has not the outcome CONVERGED (R13). -/
def State.stagedCount (s : State) (converged : Bool) : Nat :=
  ((List.range 192).filter fun i => s.store.profile.holdsIndex i && match (s.entryAt i).staged with
    | some (.converged _ _ _ _ _) => converged
    | some (.suspect _ _ _ _ _ _) => !converged
    | none => false).length

/-- The number of zones of the profile whose reference entry has no published part (R14). -/
def State.unreferencedZones (s : State) : Nat :=
  ((List.range s.store.profile.zoneCount).filter fun z => (s.referenceNull z).isNone).length

/-- The detail of the PUBLISHED notice of a publish that starts in this state (R18). -/
def State.publishDetail (s : State) : Detail :=
  .published s.table.nextGeneration (s.stagedCount true) (s.stagedCount false) (stagedStep s).unreferencedZones

/-- The payload of the PUBLISH response: the four values of the notice (R12). -/
def State.publishPayload (s : State) : List Byte := s.publishDetail.bytes

/-! ### Removals (R21 to R26) -/

/-- A staged part removed (R21). -/
def Entry.unstaged (e : Entry) : Entry := { e with staged := none }

/-- An offset removed (R16). -/
def Entry.withoutOffset (e : Entry) : Entry := { e with published := e.published.map fun p => { p with offset := none } }

/-- Whether DISCARD STAGED in its all form reaches an index: in the profile, its head inside Port W's window (R21). -/
def State.discardReaches (s : State) (i : Nat) : Bool :=
  s.store.profile.holdsIndex i && (s.port .workstation).window.inside (i / 12)

/-- The number of staged parts the all form removes (R21). -/
def State.discardCount (s : State) : Nat :=
  ((List.range 192).filter fun i => s.discardReaches i && (s.entryAt i).staged.isSome).length

/-- DISCARD STAGED in its all form (R21). -/
def discardAllStaged (s : State) : State := mapEntries (fun i e => if s.discardReaches i then e.unstaged else e) s

/-- An entry emptied, with its zone's offsets when it is the zone's reference entry (R23, R16). -/
def clearEntryTable (head zone : Nat) (s : State) : State :=
  mapEntries (fun i e =>
    if i = entryIndex head zone then .empty
    else if head = s.store.profile.referenceHead ∧ i % 12 = zone then e.withoutOffset
    else e) s

/-- The table emptied; the publish generation stays (R25, R26). -/
def emptyTable (s : State) : State := mapEntries (fun _ _ => .empty) s

end Sys2Proof.Machine
end

