-- ==== Sys2Proof/Machine/Arbiter.lean ====
section
/-! DEFINITION. The Table Arbiter: asking for the grant, granting, releasing, withdrawing, the hold timer, and the assembly of a
block-read response with its cut (R156 to R170). -/

namespace Sys2Proof.Machine

/-- The client a port is (R156). -/
def Port.client : Port → Client
  | .workstation => .w
  | .positioner => .p
  | .adapter => .d

/-- The port a client acts for; ENGINE acts for none (R156). -/
def Client.port : Client → Option Port
  | .engine => none
  | .w => some .workstation
  | .d => some .adapter
  | .p => some .positioner

/-- The clients in the fixed order of R158. -/
def Client.order : List Client := [.engine, .w, .d, .p]

/-- The arbiter of the state replaced. -/
def State.setArbiter (s : State) (a : Arbiter) : State := { s with arbiter := a }

/-- The waiting clients in the fixed order. -/
def Arbiter.waiters (a : Arbiter) : List Client := Client.order.filter fun c => (a.waiting.get c).isSome

/-- The first of the waiters of the highest priority (R158). -/
def Arbiter.best (a : Arbiter) : Option Client :=
  a.waiters.find? fun c => a.waiters.all fun c' => decide (a.priority.get c' ≤ a.priority.get c)

/-- Whether a waiter's priority is strictly above the holder's (R161). -/
def Arbiter.pressed (a : Arbiter) : Bool :=
  match a.holder with
  | some (h, _) => a.waiters.any fun c => decide (a.priority.get h < a.priority.get c)
  | none => false

/-- A port's block-read assembly before its first visit: the port's window, and the range of its cursor (R167, R170, R193). -/
def LinkPort.assembly (l : LinkPort) : Assembly :=
  match l.cursor with
  | some c => ⟨l.window, c.next, c.last, []⟩
  | none => ⟨l.window, 192, 0, []⟩

/-- The assembly a client's block read starts with; the engine reads no blocks. -/
def State.startOf (s : State) (c : Client) : Assembly :=
  match c.port with
  | some p => (s.port p).assembly
  | none => ⟨.full, 192, 0, []⟩

/-- What an operation settles at the moment of its grant: CLEAR ENTRY the entry's status (R23), a block read the port's window
and its range (R193). -/
def State.settleOp (s : State) (c : Client) (op : TableOp) : TableOp :=
  match op with
  | .clearEntry h z _ => .clearEntry h z (s.status h z == .idle)
  | .readTable _ => .readTable (s.startOf c)
  | .readNext _ => .readNext (s.startOf c)
  | other => other

/-- A client is granted: the arbiter becomes HELD with the hold timer stopped (R158). -/
def grant (c : Client) (op : TableOp) (s : State) : State :=
  s.setArbiter { s.arbiter with
    holder := some (c, s.settleOp c op), waiting := s.arbiter.waiting.set c none, hold := .stopped }

/-- The grant is released and passes, in the same event, to the waiter of highest priority, if any (R158, R159). -/
def release (s : State) : State :=
  match s.arbiter.best with
  | some c => match s.arbiter.waiting.get c with
    | some op => grant c op s
    | none => s.setArbiter { s.arbiter with holder := none, hold := .stopped }
  | none => s.setArbiter { s.arbiter with holder := none, hold := .stopped }

/-! ### Entry records and block reads (R165 to R170) -/

/-- The entry record of an index as it stands (R165). -/
def State.recordAt (s : State) (i : Nat) : List Byte :=
  entryRecord i ((s.statuses[i]?).getD .idle) (s.entryAt i) s.table.generation

/-- Whether an index is deliverable under a window (R167). DESIGN CHOICE: while no profile is in force, because a bad load has
completed during an assembly, the counts left in profile RAM decide (log entry 29). -/
def Profile.deliverable (pr : Profile) (w : Window) (i : Nat) : Bool := pr.holdsIndex i && w.inside (i / 12)

/-- One port's cursor replaced. -/
def State.setCursor (s : State) (p : Port) (c : Option Cursor) : State := s.setPort p { s.port p with cursor := c }

/-- One visit: the record of a deliverable index is placed as it stands now, and any other index is skipped (R165, R170). -/
def Assembly.visit (s : State) (a : Assembly) : Assembly :=
  { a with
    next := a.next + 1
    placed := if s.store.profile.deliverable a.window a.next = true then a.placed ++ [(a.next, s.recordAt a.next)]
      else a.placed }

/-- Whether the next visit is the last: of the end index, of the tenth record, or, after the hold timer's expiry, of the first
record (R162, R170). -/
def Assembly.atLast (s : State) (a : Assembly) : Bool :=
  decide (a.last ≤ a.next)
    || (s.store.profile.deliverable a.window a.next
      && (decide (Config.blockRecords ≤ a.placed.length + 1) || s.arbiter.hold == .expired))

/-- So many visits, stopping short of the last one. -/
def Assembly.visits (s : State) : Nat → Assembly → Assembly
  | 0, a => a
  | n + 1, a => if a.atLast s = true then a else Assembly.visits s n (a.visit s)

/-- Every visit that is left. -/
def Assembly.whole (s : State) (a : Assembly) : Assembly :=
  let a := Assembly.visits s 192 a
  if a.next ≤ a.last then a.visit s else a

/-- The index after the last record placed, with which MORE is judged and to which the cursor moves (R170). -/
def Assembly.following (a : Assembly) : Nat :=
  match a.placed.getLast? with
  | some x => x.1 + 1
  | none => a.next

/-- Whether a deliverable index remains from the following index to the end index (R170). -/
def Assembly.remains (s : State) (a : Assembly) : Bool :=
  (List.range 192).any fun i => decide (a.following ≤ i) && decide (i ≤ a.last) && s.store.profile.deliverable a.window i

/-- A block-read response is completed at one of the three stops of R170, the cursor moves on and the grant is released. A stop
at the end index leaves nothing. -/
def finishBlockRead (p : Port) (a : Assembly) (cut : Bool) (s : State) : State :=
  let more := (cut || decide (Config.blockRecords ≤ a.placed.length)) && a.remains s
  let cursor := if more = true then some ⟨a.following, a.last⟩ else none
  release (answerPending p
    { preempted := cut, more := more, records := a.placed.length, payload := (a.placed.map (·.2)).flatten }
    (s.setCursor p cursor))

/-- The assembly of a block-read operation; other operations have none. -/
def TableOp.assembly : TableOp → Option Assembly
  | .readTable a => some a
  | .readNext a => some a
  | _ => none

/-- A block-read operation with its assembly replaced. -/
def TableOp.withAssembly (a : Assembly) : TableOp → TableOp
  | .readTable _ => .readTable a
  | .readNext _ => .readNext a
  | other => other

/-- The block-read assembly under the grant, with its port (R160, R170). -/
def State.assembling (s : State) : Option (Port × TableOp × Assembly) :=
  match s.arbiter.holder with
  | some (c, op) => match c.port, op.assembly with
    | some p, some a => some (p, op, a)
    | _, _ => none
  | none => none

/-- The assembly under the grant makes so many visits, of which none is the last (R170). -/
def proceed (visits : Nat) (s : State) : State :=
  match s.assembling with
  | some (p, op, a) => s.setArbiter { s.arbiter with
      holder := some (Port.client p, op.withAssembly (Assembly.visits s visits a)) }
  | none => s

/-- The hold timer expires (R162): it cuts an assembly after the last record placed. With no record placed yet the timer stays at
0 and the cut waits for the first one; on any other operation it stays at 0. -/
def expireHold (s : State) : State :=
  match s.assembling with
  | some (p, _, a) => if a.placed = [] then s.setArbiter { s.arbiter with hold := .expired } else finishBlockRead p a true s
  | none => s.setArbiter { s.arbiter with hold := .expired }

/-- The assembly under the grant comes to its end (R170): at ten records, at the end index, or cut at its first record where the
hold timer has expired (R162). -/
def completeAssembly (s : State) : State :=
  match s.assembling with
  | some (p, _, a) =>
    let a := a.whole s
    finishBlockRead p a (s.arbiter.hold == .expired && !a.placed.isEmpty) s
  | none => s

/-- The hold timer starts with the full hold time, and a hold time of 0 expires at the moment it starts (R161, R162). -/
def startHold (s : State) : State :=
  if s.arbiter.holdTime = 0 then expireHold s else s.setArbiter { s.arbiter with hold := .running (s.arbiter.holdTime * 10) }

/-- Part of an assembly: in one microsecond it makes a free number of visits (R170; log entry 4). -/
def assemble (s : State) : State :=
  if s.assembling.isSome = true then { proceed (Config.indicesVisited s.draws % 193) s with draws := s.draws + 1 } else s

/-! ### Asking and withdrawing (R157, R160, R161) -/

/-- A client asks for the grant: granted at once when the arbiter is FREE, otherwise it joins the waiting set, and a client of
strictly higher priority than the holder starts the hold timer while preemption is on (R157, R161). -/
def askGrant (c : Client) (op : TableOp) (s : State) : State :=
  match s.arbiter.holder with
  | none => grant c op s
  | some (h, _) =>
    let s' := s.setArbiter { s.arbiter with waiting := s.arbiter.waiting.set c (some op) }
    if (s.arbiter.preemption && s.arbiter.hold == .stopped
        && decide (s.arbiter.priority.get h < s.arbiter.priority.get c)) = true
    then startHold s' else s'

/-- A waiting request is withdrawn: the hold timer stops when no remaining waiter stands above the holder (R160). DESIGN CHOICE: a
timer at 0 stops too, and with it the cut that waited for a first record (R162; log entry 28). -/
def withdrawAsk (c : Client) (s : State) : State :=
  let a := { s.arbiter with waiting := s.arbiter.waiting.set c none }
  s.setArbiter (if a.pressed = true then a else { a with hold := .stopped })

/-- The engine withdraws an E0 look-up request that has not been granted (R31, R160). -/
def withdrawLookUp (s : State) : State :=
  if s.arbiter.waiting.engine = some .e0LookUp then withdrawAsk .engine s else s

/-- Whether ENGINE holds the grant for an operation. -/
def Arbiter.engineHolds (a : Arbiter) (op : TableOp) : Bool := a.holder == some (.engine, op)

end Sys2Proof.Machine
end

