-- ==== Sys2Proof/Machine/Handshake.lean ====
section
/-! DEFINITION. The Handshake Unit's operations: placing, releasing, ending and withdrawing move and head requests
(R101 to R117), with the settle test's return to NONE (R97). -/

namespace Sys2Proof.Machine

/-- The next sequence of a handshake: the counter plus 1, and 1 after 255 (R101). -/
def nextSequence (n : Nat) : Nat := if n < 255 then n + 1 else 1

/-- The Handshake Unit of the state replaced where no condition is concerned. -/
def State.setHandshake (s : State) (h : HandshakeUnit) : State := { s with handshake := h }

/-- The settle test returns to NONE with its timer stopped (R97). -/
def clearSettle (s : State) : State := { s with frame := { s.frame with settle := .none, settleTimer := .stopped } }

/-! ### Moves -/

/-- A move request ends: its end is recorded with its sequence, the handshake becomes NONE, the timeout stops and the settle
test returns to NONE (R105 to R108). -/
def endMove (e : MoveEnd) (s : State) : State :=
  match s.handshake.move with
  | none => s
  | some m => clearSettle (setMove none
      (s.setHandshake { s.handshake with lastMoveEnd := some (e, m.sequence), moveTimeout := .stopped }))

/-- A move request is released without a notice (R107). -/
def releaseMove (s : State) : State := endMove .released s

/-- A WITHDRAWN notice for the move handshake goes to Port P (R108). -/
def postMoveWithdrawn (sequence : Nat) (c : Cause) (s : State) : State :=
  post .withdrawn (.withdrawn sequence c) .positioner s

/-- A move request is withdrawn with its WITHDRAWN notice (R108). -/
def withdrawMove (c : Cause) (s : State) : State :=
  match s.handshake.move with
  | none => s
  | some m => postMoveWithdrawn m.sequence c (endMove (.withdrawn c) s)

/-- The move timeout ends a move request, with a WITHDRAWN notice (R106). -/
def timeOutMove (s : State) : State :=
  match s.handshake.move with
  | none => s
  | some m => postMoveWithdrawn m.sequence (.ended .moveTimeout) (endMove .timedOut s)

/-- A move request is placed for the active job's current target, clamped to the travel limits in force; an earlier settled
request is released first (R102, R50). -/
def placeMove (s : State) : State :=
  match s.engine.active with
  | none => s
  | some r =>
    let target := s.store.profile.clampTravel (r.target.getD 0)
    let s := releaseMove (setActive (some { r with target := some target }) s)
    let seq := nextSequence s.handshake.moveSequence
    setMove (some ⟨.requested, seq, target, r.job.id⟩)
      (s.setHandshake { s.handshake with moveSequence := seq, moveTimeout := startMs s.store.profile.moveTimeout })

/-- The move handshake's state is replaced, keeping its record (R103, R104, R107). -/
def setMovePhase (ph : MovePhase) (s : State) : State :=
  match s.handshake.move with
  | none => s
  | some m => setMove (some { m with phase := ph }) s

/-- The move timeout pauses with its remaining time kept (R106). -/
def Timer.pause : Timer → Timer
  | .running t => .paused t
  | .paused t => .paused t
  | .stopped => .stopped

/-- A paused timeout runs again from its remaining time (R106). -/
def Timer.resume : Timer → Timer
  | .paused t => .running t
  | .running t => .running t
  | .stopped => .stopped

/-! ### Heads -/

/-- A head request ends: its end is recorded with its sequence, the handshake becomes NONE and both timers stop
(R111 to R116). -/
def endHead (e : HeadEnd) (s : State) : State :=
  match s.handshake.head with
  | none => s
  | some r => setHead none
      (s.setHandshake { s.handshake with
        lastHeadEnd := some (e, r.sequence), headTimeout := .stopped, headSettle := .stopped })

/-- A head request is released without a notice (R116). -/
def releaseHead (s : State) : State := endHead .released s

/-- A WITHDRAWN notice for the head handshake goes to Port D (R116). -/
def postHeadWithdrawn (sequence : Nat) (c : Cause) (s : State) : State :=
  post .withdrawn (.withdrawn sequence c) .adapter s

/-- A head request is withdrawn with its WITHDRAWN notice (R116). -/
def withdrawHead (c : Cause) (s : State) : State :=
  match s.handshake.head with
  | none => s
  | some r => postHeadWithdrawn r.sequence c (endHead (.withdrawn c) s)

/-- The head select timeout ends a head request, with a WITHDRAWN notice (R114). -/
def timeOutHead (s : State) : State :=
  match s.handshake.head with
  | none => s
  | some r => postHeadWithdrawn r.sequence (.ended .headFault) (endHead .timedOut s)

/-- A head request is placed for a head and a job, with a new sequence and a full head select timeout (R109). -/
def placeHeadFor (head job : Nat) (s : State) : State :=
  let seq := nextSequence s.handshake.headSequence
  setHead (some ⟨.requested, seq, head, job⟩)
    (s.setHandshake { s.handshake with
      headSequence := seq, headTimeout := startMs s.store.profile.headSelectTimeout, headSettle := .stopped })

/-- A head request is placed for the active job's head (R109). -/
def placeHead (s : State) : State :=
  match s.engine.active with
  | none => s
  | some r => match r.job.work.place with
    | some (h, _) => placeHeadFor h r.job.id s
    | none => s

/-- The head handshake's state is replaced, keeping its record (R110, R111, R115). -/
def setHeadPhase (ph : HeadPhase) (s : State) : State :=
  match s.handshake.head with
  | none => s
  | some r => setHead (some { r with phase := ph }) s

/-- The selected head is set; a change of its value flushes the sample FIFO (R117). -/
def selectHead (h : Nat) (s : State) : State :=
  if s.handshake.selected = some h then s
  else flushFifo (s.setHandshake { s.handshake with selected := some h })

/-! ### Both -/

/-- Both requests of the active job are released (R107, R116). -/
def releaseBoth (s : State) : State := releaseHead (releaseMove s)

/-- Both requests of the active job are withdrawn, each with its notice (R108, R116). -/
def withdrawBoth (c : Cause) (s : State) : State := withdrawHead c (withdrawMove c s)

end Sys2Proof.Machine
end

