-- ==== Sys2Proof/Machine/Queue.lean ====
section
/-! DEFINITION. The Job Queue's operations: ids, order, acceptance, removal, group accounting, the drift counter and the automatic
reference check (R121 to R137), and the completion records of jobs (R54). -/

namespace Sys2Proof.Machine

/-- The Job Queue of the state replaced. -/
def State.setJobs (s : State) (q : JobQueue) : State := { s with jobs := q }

/-! ### Ids (R122, R129) -/

/-- The first id, counting upward from n and wrapping from cap to 1, that is not held; the fuel is the number of ids tried. -/
def firstFree (held : List Nat) (cap : Nat) : Nat → Nat → Nat
  | 0, n => n
  | fuel + 1, n => if n ∈ held then firstFree held cap fuel (if n < cap then n + 1 else 1) else n

/-- The id after another, wrapping from cap to 1. -/
def idAfter (cap n : Nat) : Nat := if n < cap then n + 1 else 1

/-- The job ids held by queued, active and stacked jobs (R122). -/
def State.heldIds (s : State) : List Nat :=
  s.jobs.queue.map JobRecord.id ++ (s.engine.active.map fun r => r.job.id).toList ++ s.stack.map fun r => r.job.id

/-- The id the next accepted job receives (R122). -/
def State.newJobId (s : State) : Nat := firstFree s.heldIds 255 255 s.jobs.nextJob

/-- The id the next group receives (R129). -/
def State.newGroupId (s : State) : Nat := firstFree (s.jobs.groups.map Group.id) 15 15 s.jobs.nextGroup

/-! ### Order (R123) -/

/-- The jobs a job of a class is placed behind when submitted: those of its own class and above (R123). -/
def aheadOf (c : JobClass) (q : List JobRecord) : List JobRecord := q.takeWhile fun j => decide (c.rank ≤ j.cls.rank)

/-- A submitted job's place in the queue (R123). -/
def enqueue (j : JobRecord) (q : List JobRecord) : List JobRecord :=
  aheadOf j.cls q ++ j :: q.dropWhile fun k => decide (j.cls.rank ≤ k.cls.rank)

/-- An automatic reference check's place: behind every queued URGENT job and ahead of every queued PRIORITY job (R123). -/
def enqueueAutomatic (j : JobRecord) (q : List JobRecord) : List JobRecord :=
  (q.takeWhile fun k => decide (j.cls.rank < k.cls.rank)) ++ j :: q.dropWhile fun k => decide (j.cls.rank < k.cls.rank)

/-- The free queue slots (R121). -/
def State.freeSlots (s : State) : Nat := Config.queueSlots - s.jobs.queue.length

/-! ### Acceptance (R124) -/

/-- A job enters the queue by a placing function: it takes the new id, and its entry becomes QUEUED (R122, R124). -/
def acceptWith (place : JobRecord → List JobRecord → List JobRecord) (work : JobWork) (c : JobClass) (by_ : Submitter)
    (group limit : Option Nat) (s : State) : State :=
  let id := s.newJobId
  setStatus work .queued (s.setJobs { s.jobs with
    queue := place ⟨id, work, c, by_, group, limit⟩ s.jobs.queue, nextJob := idAfter 255 id })

/-- A submission is accepted (R124). -/
def accept (work : JobWork) (c : JobClass) (by_ : Submitter) (group limit : Option Nat) (s : State) : State :=
  acceptWith enqueue work c by_ group limit s

/-- The members of a sweep are accepted in expansion order (R130). -/
def acceptAll (c : JobClass) (group : Nat) : List (Nat × Nat) → State → State
  | [], s => s
  | (h, z) :: rest, s => acceptAll c group rest (accept (.measure h z) c .w (some group) none s)

/-! ### QUEUE_SPACE (R128) -/

/-- A port's QUEUE_SPACE mark is set (R128); Port D has none. -/
def armSpace (p : Port) (s : State) : State :=
  match p with
  | .workstation => s.setJobs { s.jobs with spaceW := true }
  | .positioner => s.setJobs { s.jobs with spaceP := true }
  | .adapter => s

/-- Queue slots have become free: QUEUE_SPACE goes to each armed port and the marks are cleared (R128). -/
def postSpace (s : State) : State :=
  let d := Detail.queueSpace s.freeSlots
  let w := s.jobs.spaceW
  let p := s.jobs.spaceP
  let s := s.setJobs { s.jobs with spaceW := false, spaceP := false }
  let s := if w = true then post .queueSpace d .workstation s else s
  if p = true then post .queueSpace d .positioner s else s

/-! ### Groups (R131) -/

/-- One member less; a group that has none left becomes PUBLISH_DUE, behind the records already so, or leaves the table
(R131). -/
def closeMember (id : Nat) (groups : List Group) : List Group :=
  match groups.find? fun g => g.id == id with
  | none => groups
  | some g =>
    let others := groups.filter fun k => k.id != id
    if g.members ≤ 1 then
      if (g.publishAtEnd && !g.cancelled) = true then others ++ [{ g with members := 0, due := true }] else others
    else groups.map fun k => if k.id = id then { k with members := k.members - 1 } else k

/-- A member of a group has ended or been removed (R131). -/
def memberGone (group : Option Nat) (s : State) : State :=
  match group with
  | none => s
  | some id => s.setJobs { s.jobs with groups := closeMember id s.jobs.groups }

/-! ### Drift counter and automatic reference check (R136, R137) -/

/-- Step 1 of R136: a MEASURE that ended while active counts toward the drift interval. -/
def countDrift (work : JobWork) (s : State) : State :=
  match work with
  | .measure _ z =>
    if s.store.profile.driftInterval ≠ 0 ∧ s.jobs.drift < s.store.profile.driftInterval then
      s.setJobs { s.jobs with
        drift := s.jobs.drift + 1,
        pendingZone := if s.jobs.drift + 1 = s.store.profile.driftInterval then some z else s.jobs.pendingZone }
    else s
  | .referenceCheck _ _ => s
  | .moveTo _ => s

/-- Whether an insertion attempt for a zone succeeds (R137). -/
def State.canInsert (s : State) (zone : Nat) : Bool :=
  decide (s.jobs.queue.length < Config.queueSlots) && decide (zone < s.store.profile.zoneCount)
    && s.status s.store.profile.referenceHead zone == .idle

/-- Step 2 of R136: an insertion attempt when a pending zone is present (R137). -/
def insertCheck (s : State) : State :=
  match s.jobs.pendingZone with
  | none => s
  | some z =>
    if s.canInsert z = true then
      let s := acceptWith enqueueAutomatic (.referenceCheck s.store.profile.referenceHead z) .priority .internal none none s
      s.setJobs { s.jobs with drift := 0, pendingZone := none }
    else s

/-- The drift counter returns to 0 and the pending zone is removed (R136). -/
def clearDrift (s : State) : State := s.setJobs { s.jobs with drift := 0, pendingZone := none }

/-- Step 2 of the end of an active job: group accounting, the drift counter and the insertion attempt (R55). -/
def accountEnd (j : JobRecord) (s : State) : State := insertCheck (countDrift j.work (memberGone j.group s))

/-! ### Completion records (R54) -/

/-- The record of a job that ended with an outcome other than CONVERGED, a SUSPECT outcome or ARRIVED, or that CANCEL removed:
iterations used, nothing measured, and the revolution count of the moment (R54, R133, R153). -/
def plainRecord (j : JobRecord) (o : JobOutcome) (iterations revolutions : Nat) : CompletionRecord :=
  ⟨j.id, j.work.kind, j.work.place, o, iterations, none, none, none, false, revolutions⟩

/-- The record of a committed job, from the part it staged (R54). -/
def stagedRecord (r : SearchRecord) (o : JobOutcome) (part : StagedPart) (drift : Option Int) (marked : Bool)
    (revolutions : Nat) : CompletionRecord :=
  ⟨r.job.id, r.job.work.kind, r.job.work.place, o, part.iterations, part.estimate, part.residual?, drift, marked,
   r.lastStamp.getD revolutions⟩

/-- The record of a MOVE TO job that ended ARRIVED (R35, R54). -/
def arrivedRecord (j : JobRecord) (count : Int) (revolutions : Nat) : CompletionRecord :=
  ⟨j.id, j.work.kind, none, .arrived, 0, some count, none, none, false, revolutions⟩

/-- A completion record goes to the list of the port its job reports to (R121, R181). -/
def writeRecord (j : JobRecord) (c : CompletionRecord) (s : State) : State := writeCompletion j.submitter.port c s

/-! ### Removal by CANCEL, RESET PORT and CLEAR BENCH (R133, R140, R153, R154) -/

/-- A queued job leaves the queue, its entry returning to IDLE (R2). -/
def dropQueued (j : JobRecord) (s : State) : State :=
  setStatus j.work .idle (s.setJobs { s.jobs with queue := s.jobs.queue.filter fun k => k.id != j.id })

/-- A context leaves the stack, its entry returning to IDLE (R153). -/
def dropStacked (r : SearchRecord) (s : State) : State :=
  setStatus r.job.work .idle { s with stack := s.stack.filter fun k => k.job.id != r.job.id }

/-- CANCEL removes a queued job: a CANCELLED record with iterations 0, and the group accounting (R133). -/
def cancelQueued (j : JobRecord) (s : State) : State :=
  memberGone j.group (writeRecord j (plainRecord j .cancelled 0 s.sample.revolutions) (dropQueued j s))

/-- CANCEL removes a stacked job: a CANCELLED record with the saved iterations, and the group accounting (R153). -/
def cancelStacked (r : SearchRecord) (s : State) : State :=
  memberGone r.job.group
    (writeRecord r.job (plainRecord r.job .cancelled r.iterations s.sample.revolutions) (dropStacked r s))

/-- Every job of a list is removed from the queue in turn. -/
def forQueued (f : JobRecord → State → State) : List JobRecord → State → State
  | [], s => s
  | j :: rest, s => forQueued f rest (f j s)

/-- Every context of a list is removed from the stack in turn. -/
def forStacked (f : SearchRecord → State → State) : List SearchRecord → State → State
  | [], s => s
  | r :: rest, s => forStacked f rest (f r s)

end Sys2Proof.Machine
end

