-- ==== Sys2Proof/Machine/EngineOps.lean ====
section
/-! DEFINITION. The Measurement Engine's operations: starting, preempting and resuming jobs, ending them, faults, and entering
the states of a job (R28 to R58, R138, R145 to R151). -/

namespace Sys2Proof.Machine

/-- The engine of the state replaced. -/
def State.setEngine (s : State) (e : Engine) : State := { s with engine := e }

/-! ### Starting work (R132, R138, R139, R145 to R151) -/

/-- The ports a job needs are ATTACHED (R138, R145, R149). -/
def State.portsReady (s : State) (w : JobWork) : Bool :=
  (s.port .positioner).attached && (!w.needsHead || (s.port .adapter).attached)

/-- The conditions on taking or resuming a job, beside the engine, the stack and the queue (R138, R149). -/
def State.canStart (s : State) (w : JobWork) : Bool :=
  !s.jobs.publishDue && s.store.state == .ready && s.portsReady w

/-- The search record of a job taken from the queue (R29). -/
def SearchRecord.fresh (pr : Profile) (j : JobRecord) : SearchRecord where
  job := j
  limit := j.limit.getD pr.maxIterations
  stage := .first
  e0 := none
  e1 := none
  p0 := none
  p1 := none
  gain := none
  target := match j.work with
    | .moveTo t => some t
    | .measure _ _ => none
    | .referenceCheck _ _ => none
  iterations := 0
  rejects := 0
  spreadRepeat := false
  lastClamp := none
  lastMean := none
  lastStamp := none

/-- The engine begins, or begins again, the work of a search record: a MOVE TO places its move request; a search that holds E0
places its head request; any other search asks for the grant for its E0 look-up (R30, R150, R151). -/
def beginWork (r : SearchRecord) (s : State) : State :=
  let s := setStatus r.job.work .measuring (setActive (some r) (dropHome s))
  match r.job.work with
  | .moveTo _ => placeMove (setEngineState .moveWait s)
  | .measure _ _ =>
    if r.e0.isSome = true then placeHead (setEngineState .headWait s)
    else askGrant .engine .e0LookUp (setEngineState .headWait s)
  | .referenceCheck _ _ =>
    if r.e0.isSome = true then placeHead (setEngineState .headWait s)
    else askGrant .engine .e0LookUp (setEngineState .headWait s)

/-- The engine takes the queue head, which frees its slot (R139). -/
def takeHead (s : State) : State :=
  match s.jobs.queue with
  | [] => s
  | j :: rest => beginWork (.fresh s.store.profile j) (postSpace (s.setJobs { s.jobs with queue := rest }))

/-- The dwell accumulator emptied, the stride kept (R42). -/
def Dwell.cleared (d : Dwell) : Dwell := { d with n := 0, sum := 0, extremes := none, rejects := 0 }

/-- The dwell in progress is abandoned: its accumulator is emptied, and leaving DWELL flushes the sample FIFO (R42, R72). -/
def dropDwell (s : State) : State :=
  let s' := s.setEngine { s.engine with dwell := s.engine.dwell.cleared }
  if s.engine.state = .dwell then flushFifo s' else s'

/-- The preemption conditions (R145). -/
def State.mustPreempt (s : State) : Bool :=
  match s.engine.active, s.jobs.queue with
  | some r, j :: _ =>
    s.engine.state.working && decide (r.job.cls.rank < j.cls.rank) && decide (s.stack.length < Config.stackSlots)
      && !s.jobs.publishDue && s.portsReady j.work
  | _, _ => false

/-- A preemption as one event (R146). -/
def preempt (s : State) : State :=
  match s.engine.active with
  | none => s
  | some r =>
    let s := withdrawBoth .preempted (withdrawLookUp (dropDwell s))
    takeHead (setStatus r.job.work .suspended { s with stack := r :: s.stack })

/-- The preemption test (R145). -/
def tryPreempt (s : State) : State := if s.mustPreempt = true then preempt s else s

/-- The engine resumes the top context (R150, R151). -/
def resumeTop (s : State) : State :=
  match s.stack with
  | [] => s
  | r :: rest => beginWork r { s with stack := rest }

/-- The engine enters PUBLISH for the first record that is PUBLISH_DUE and asks for the grant (R19, R132). -/
def enterPublish (s : State) : State :=
  askGrant .engine .groupPublish (s.setEngine { s.engine with
    state := .publish, publishing := (s.jobs.groups.find? Group.due).map Group.id })

/-- The tests the manual makes whenever a condition may have come to hold: an IDLE engine carries out a waiting group-end
publish, else resumes the top context, else takes the queue head (R132, R138, R149); a working one is tested for preemption
(R145). -/
def advance (s : State) : State :=
  match s.engine.state with
  | .idle =>
    if s.jobs.publishDue = true then enterPublish s
    else match s.stack with
      | r :: _ => if s.canStart r.job.work = true then tryPreempt (resumeTop s) else s
      | [] => match s.jobs.queue with
        | j :: _ => if s.canStart j.work = true then takeHead s else s
        | [] => s
  | _ => tryPreempt s

/-! ### Ending a job (R52 to R56) -/

/-- The outcomes that enter FAULT_HOLD (R55). -/
def JobOutcome.isFault : JobOutcome → Bool
  | .positionerFault => true
  | .travelLimit => true
  | .encoderFault => true
  | _ => false

/-- The active job's entry returns to IDLE and the engine holds no job (R55, step 1). -/
def clearActive (r : SearchRecord) (s : State) : State :=
  let s := setStatus r.job.work .idle s
  s.setEngine { s.engine with active := none, staging := none, clearPending := false }

/-- Steps 3 to 5 of the end of a job: a group-end publish, FAULT_HOLD, or the next job (R55). A job ended CLEARED leads to no
group-end publish of its own. -/
def afterJob (fault cleared : Bool) (s : State) : State :=
  if (!cleared && s.jobs.publishDue) = true then
    enterPublish (s.setEngine { s.engine with faultPending := fault })
  else if fault = true then s.setEngine { s.engine with state := .faultHold, faultPending := false }
  else advance (s.setEngine { s.engine with state := .idle, faultPending := false })

/-- What ends with the active job whatever its outcome: the dwell in progress and an E0 look-up request not yet granted
(R52). -/
def leaveWork (s : State) : State := withdrawLookUp (dropDwell s)

/-- The active job's end up to step 2 of R55, for an outcome that stages nothing: its requests are withdrawn, its record is
written unless it ends CLEARED, its entry returns to IDLE, and it is accounted for unless it ends CLEARED (R52, R54, R55).
DESIGN CHOICE: its id is free from step 1 of its end on, so that an automatic check inserted at step 2 may receive it (log
entry 27). -/
def closeJob (o : JobOutcome) (s : State) : State :=
  match s.engine.active with
  | none => s
  | some r =>
    let s := withdrawBoth (.ended o) (leaveWork s)
    if o = .cleared then clearActive r s
    else accountEnd r.job (clearActive r
      (writeRecord r.job (plainRecord r.job o r.iterations s.sample.revolutions) s))

/-- The active job ends with an outcome that stages nothing (R52, R54, R55). -/
def endJob (o : JobOutcome) (s : State) : State :=
  match s.engine.active with
  | none => s
  | some _ => afterJob (o.isFault || s.engine.faultPending) (o == .cleared) (closeJob o s)

/-- A MOVE TO job ends ARRIVED: its move is released and its record carries the count and the stamp of this moment (R35). -/
def endArrived (r : SearchRecord) (s : State) : State :=
  let s := releaseBoth (leaveWork s)
  let s := writeRecord r.job (arrivedRecord r.job s.frame.count s.sample.revolutions) s
  afterJob s.engine.faultPending false (accountEnd r.job (clearActive r s))

/-- A job ends CONVERGED or with a SUSPECT outcome: its requests are released and the engine enters COMMIT and asks for the
grant (R53, R107, R116). -/
def stageJob (o : JobOutcome) (part : StagedPart) (s : State) : State :=
  let s := releaseBoth (leaveWork s)
  askGrant .engine .commit (s.setEngine { s.engine with state := .commit, staging := some (o, part) })

/-- A fault reaches the engine (R56). -/
def takeFault (o : JobOutcome) (s : State) : State :=
  match s.engine.state with
  | .idle => setEngineState .faultHold s
  | .headWait => endJob o s
  | .moveWait => endJob o s
  | .settling => endJob o s
  | .dwell => endJob o s
  | .commit => s.setEngine { s.engine with faultPending := true }
  | .publish => s.setEngine { s.engine with faultPending := true }
  | .faultHold => s

/-! ### The states of a job (R32 to R37, R44) -/

/-- The active job is a MEASURE or REFERENCE CHECK. -/
def State.measuring (s : State) : Bool :=
  match s.engine.active with
  | some r => r.job.work.needsHead
  | none => false

/-- The stride of a dwell: floor(W / K), or 1 when that is 0 (R37). -/
def Profile.stride (pr : Profile) : Nat := max 1 (pr.wedges / 2 ^ pr.sampleExponent)

/-- A dwell starts: accumulator cleared, stride set, FIFO flushed (R37). -/
def startDwell (s : State) : State :=
  flushFifo (s.setEngine { s.engine with
    state := .dwell, dwell := ⟨0, 0, none, 0, s.store.profile.stride⟩ })

/-- The engine enters DWELL, unless the servo has outlasted its loss timeout, which ends the job SERVO_LOST (R33, R44). -/
def enterDwell (s : State) : State := if s.sample.lossExpired = true then endJob .servoLost s else startDwell s

/-- The engine enters SETTLING, under the same condition for a job that measures (R33, R44). -/
def enterSettling (s : State) : State :=
  if (s.sample.lossExpired && s.measuring) = true then endJob .servoLost s else setEngineState .settling s

/-- The head handshake reaches READY: in HEAD_WAIT the engine proceeds from the state of the move handshake (R32). -/
def headReady (s : State) : State :=
  let s := setHeadPhase .ready (s.setHandshake { s.handshake with headSettle := .stopped })
  if s.engine.state = .headWait then
    match s.handshake.move with
    | none => placeMove (setEngineState .moveWait s)
    | some m => match m.phase with
      | .requested => setEngineState .moveWait s
      | .taken => setEngineState .moveWait s
      | .done => enterSettling s
      | .settled => enterDwell s
  else s

/-- The settle test is met: the move becomes SETTLED and its timeout pauses; an engine in SETTLING enters DWELL, or ends a
MOVE TO job ARRIVED (R33, R35, R95, R107). -/
def settleMet (s : State) : State :=
  let s := { s with frame := { s.frame with settle := .met, settleTimer := .stopped } }
  let s := s.setHandshake { s.handshake with moveTimeout := s.handshake.moveTimeout.pause }
  let s := setMovePhase .settled s
  if s.engine.state = .settling then
    match s.engine.active with
    | some r => if r.job.work.needsHead = true then enterDwell s else endArrived r s
    | none => s
  else s

/-- Whether the count lies within the settle window of the move being settled (R94). -/
def State.withinWindow (s : State) : Bool :=
  match s.handshake.move with
  | some m => decide ((s.frame.count - m.target).natAbs ≤ s.store.profile.settleWindow)
  | none => false

/-- The settle test is evaluated in or toward OUTSIDE: within the window it goes to TIMING, or is met at once by a settle time
of 0; otherwise it is OUTSIDE (R94, R95). -/
def settleEvaluate (s : State) : State :=
  if s.withinWindow = true then
    if s.store.profile.settleTime = 0 then settleMet s
    else { s with frame := { s.frame with settle := .timing, settleTimer := startMs s.store.profile.settleTime } }
  else { s with frame := { s.frame with settle := .outside, settleTimer := .stopped } }

/-- A settle loss: the test returns to OUTSIDE, the move to DONE with its timeout running on, and an engine in DWELL discards
the dwell and returns to SETTLING (R96). -/
def settleLoss (s : State) : State :=
  let s := { s with frame := { s.frame with settle := .outside, settleTimer := .stopped } }
  let s := setMovePhase .done (s.setHandshake { s.handshake with moveTimeout := s.handshake.moveTimeout.resume })
  if s.engine.state = .dwell then enterSettling (dropDwell s) else s

/-- The settle test after a filter sample that changed the count (R95). -/
def settleSample (s : State) : State :=
  match s.frame.settle with
  | .none => s
  | .outside => if s.withinWindow = true then settleEvaluate s else s
  | .timing =>
    if s.withinWindow = true then s
    else { s with frame := { s.frame with settle := .outside, settleTimer := .stopped } }
  | .met => if s.withinWindow = true then s else settleLoss s

/-! ### Travel (R90, R91) -/

/-- The travel state of a count under the limits in force (R90). -/
def Profile.travelOf (pr : Profile) (c : Int) : TravelState :=
  if c < pr.travelLow then .below else if pr.travelHigh < c then .above else .inside

/-- Whether a change of the travel state is a travel fault (R90). -/
def travelFault (before after : TravelState) : Bool :=
  (before == .inside || before == .untested) && (after == .below || after == .above)

/-- The travel state is re-evaluated while a profile is in force, and a travel fault posts FAULT and reaches the engine
(R90, R91). -/
def testTravel (s : State) : State :=
  if s.store.inForce = true then
    let now := s.store.profile.travelOf s.frame.count
    let s' := { s with frame := { s.frame with travel := now } }
    if travelFault s.frame.travel now = true then
      takeFault .travelLimit (postFault (.travel (now == .above) s.frame.count) s')
    else s'
  else s

/-! ### The search (R38 to R49) -/

/-- The SUSPECT part of a job that ends TOO_NOISY (R51). -/
def tooNoisyPart (r : SearchRecord) : StagedPart :=
  .suspect .tooNoisy (if r.stage = .verify then r.target else none) (if r.stage = .verify then r.gain else none)
    (r.lastMean.map Int.natAbs) r.iterations r.rejects

/-- A reject of the current dwell: both reject counts rise, and a dwell reject count above the limit ends the job TOO_NOISY
(R38, R39). -/
def countReject (s : State) : State :=
  match s.engine.active with
  | none => s
  | some r =>
    let r := { r with rejects := satSucc 255 r.rejects }
    let d := { s.engine.dwell with rejects := s.engine.dwell.rejects + 1 }
    let s := s.setEngine { s.engine with active := some r, dwell := d }
    if s.store.profile.rejectLimit < d.rejects then stageJob .tooNoisy (tooNoisyPart r) s else s

/-- The search goes on at a new current target: the record is stored, a move request is placed and the engine enters MOVE_WAIT
(R33, R45, R47, R49). Leaving DWELL ends the dwell. -/
def goTo (r : SearchRecord) (s : State) : State :=
  placeMove (setActive (some r) (setEngineState .moveWait (dropDwell s)))

/-- The step position (R45). -/
def Profile.stepPosition (pr : Profile) (e0 : Int) : Int :=
  let up := pr.clampTravel (e0 + pr.step)
  if up = e0 then pr.clampTravel (e0 - pr.step) else up

/-- The gain G256: the exact quotient truncated, saturated to −32767..+32767 (R46). -/
def gain256 (p0 p1 e0 e1 : Int) : Int := clampInt (-32767) 32767 (((p1 - p0) * 256).tdiv (e1 - e0))

/-- The correction of a dwell mean (R47). -/
def correction (mean gain : Int) : Int := roundHalfAway (mean * 256) gain

/-- An estimate: position minus correction, clamped to the search window and then to travel, with the window's bound it was
clamped to, if any (R47). -/
def Profile.estimate (pr : Profile) (e0 position mean gain : Int) : Int × Option Bound :=
  let e := position - correction mean gain
  let low := e0 - pr.searchRange
  let high := e0 + pr.searchRange
  if e < low then (pr.clampTravel low, some .low)
  else if high < e then (pr.clampTravel high, some .high)
  else (pr.clampTravel e, none)

/-- A FIRST dwell's mean is applied (R43, R45). -/
def applyFirst (r : SearchRecord) (mean : Int) (s : State) : State :=
  let e1 := s.store.profile.stepPosition (r.e0.getD 0)
  goTo { r with p0 := some mean, e1 := some e1, target := some e1, stage := .step } s

/-- The SUSPECT part of a job that ends GAIN_LOW (R51). -/
def gainLowPart (r : SearchRecord) (gain mean : Int) : StagedPart :=
  .suspect .gainLow none (if gain = 0 then none else some gain) (some mean.natAbs) 0 r.rejects

/-- A STEP dwell's mean is applied: the gain, its floor test, and the first estimate (R43, R46, R47). -/
def applyStep (r : SearchRecord) (mean : Int) (s : State) : State :=
  let e0 := r.e0.getD 0
  let e1 := r.e1.getD 0
  let gain := gain256 (r.p0.getD 0) mean e0 e1
  let r := { r with p1 := some mean, gain := some gain }
  if gain.natAbs < s.store.profile.gainFloor then
    stageJob .gainLow (gainLowPart r gain mean) (setActive (some r) s)
  else
    let est := s.store.profile.estimate e0 e1 mean gain
    goTo { r with target := some est.1, lastClamp := est.2, stage := .verify } s

/-- A VERIFY dwell's mean is applied: convergence, the iteration limit, and a new estimate (R43, R48, R49). -/
def applyVerify (r : SearchRecord) (mean : Int) (s : State) : State :=
  let r := { r with iterations := r.iterations + 1 }
  let here := r.target.getD 0
  let gain := r.gain.getD 1
  if mean.natAbs ≤ s.store.profile.nullTolerance then
    stageJob .converged (.converged (here - correction mean gain) gain mean.natAbs r.iterations r.rejects) (setActive (some r) s)
  else if r.limit ≤ r.iterations then
    stageJob .notConverged (.suspect .notConverged r.target r.gain (some mean.natAbs) r.limit r.rejects) (setActive (some r) s)
  else
    let est := s.store.profile.estimate (r.e0.getD 0) here mean gain
    if est.2.isSome = true ∧ est.2 = r.lastClamp then
      stageJob .nullOutOfRange (.suspect .nullOutOfRange (some est.1) r.gain (some mean.natAbs) r.iterations r.rejects)
        (setActive (some r) s)
    else goTo { r with target := some est.1, lastClamp := est.2 } s

/-- A completed dwell is applied to the search by its stage (R43). -/
def applyDwell (r : SearchRecord) (mean : Int) (s : State) : State :=
  match r.stage with
  | .first => applyFirst r mean s
  | .step => applyStep r mean s
  | .verify => applyVerify r mean s

/-- The spread of the accepted samples (R40). -/
def Dwell.spread (d : Dwell) : Int :=
  match d.extremes with
  | some (lo, hi) => hi - lo
  | none => 0

/-- n has reached K: the mean and the spread test (R40). -/
def completeDwell (r : SearchRecord) (s : State) : State :=
  let d := s.engine.dwell
  if d.spread ≤ s.store.profile.spreadLimit then
    let mean := dwellMean d.sum d.n
    let r := { r with spreadRepeat := false, lastMean := some mean, lastStamp := some s.sample.revolutions }
    applyDwell r mean (setActive (some r) s)
  else if r.spreadRepeat = true then stageJob .tooNoisy (tooNoisyPart r) s
  else startDwell (setActive (some { r with spreadRepeat := true }) s)

/-- An accepted sample joins the dwell (R38). -/
def Dwell.add (d : Dwell) (ptot : Int) : Dwell :=
  { d with n := d.n + 1, sum := d.sum + ptot, extremes := match d.extremes with
    | some (lo, hi) => some (min lo ptot, max hi ptot)
    | none => some (ptot, ptot) }

/-- An accepted sample is applied; the K-th completes the dwell (R38, R40). -/
def countAccept (ptot : Int) (s : State) : State :=
  match s.engine.active with
  | none => s
  | some r =>
    let d := s.engine.dwell.add ptot
    let s := s.setEngine { s.engine with dwell := d }
    if 2 ^ s.store.profile.sampleExponent ≤ d.n then completeDwell r s else s

end Sys2Proof.Machine
end

