-- ==== Sys2Proof/Machine/Link.lean ====
section
/-! DEFINITION. The commands of the Link Ports: release of RESETn, attachment, IDENTIFY, windows, RESET PORT, and the events of the
response slot (R184 to R195). -/

namespace Sys2Proof.Machine

/-! ### RESETN_RELEASE -/

/-- RESETN_RELEASE: every block takes its power-on state (R27, R28, R63, R68, R77, R90, R99, R100, R141, R143, R156, R172, R184,
R198). The queue of waiting commands and the count of free values drawn are the model's own and stay. -/
def execResetnRelease (s : State) : Host.Outcome State Fault Refusal :=
  .next { State.reset with draws := s.draws, pending := s.pending }

/-! ### Attachment (R189, R183, R199) -/

/-- One port's attachment replaced. -/
def setAttached (p : Port) (b : Bool) (s : State) : State := s.setPort p { s.port p with attached := b }

/-- A pulse in progress ends with its owed repeat (R176). -/
def endPulse (p : Port) (s : State) : State := s.setNotices p { (s.port p).notices with pulse := .idle }

/-- The profile fault owed mark of a port; Port D has none (R198). -/
def ProfileStore.owed (st : ProfileStore) : Port → Option Nat
  | .workstation => st.owedW
  | .positioner => st.owedP
  | .adapter => none

/-- A port's profile fault owed mark replaced (R198). -/
def setOwed (p : Port) (x : Option Nat) (s : State) : State :=
  match p with
  | .workstation => { s with store := { s.store with owedW := x } }
  | .positioner => { s with store := { s.store with owedP := x } }
  | .adapter => s

/-- An owed FAULT notice is posted to the port that has just attached, and its mark is cleared (R199). -/
def postOwed (p : Port) (s : State) : State :=
  match s.store.owed p with
  | some slot => setOwed p none (postQuiet .fault (.profile slot) p s)
  | none => s

/-- A DETACHED port attaches: an owed notice is posted, the line is driven (R183), and the conditions for resuming, taking and preempting are tested (R189). -/
def attachPort (p : Port) (s : State) : State := advance (pulseIfEligible p (postOwed p (setAttached p true s)))

/-- A port detaches (R189). -/
def detachPort (p : Port) (s : State) : State := endPulse p (setAttached p false s)

/-- The payload of ATTACH and DETACH: the port's identity and its port state before the request (R189). -/
def State.standing (s : State) (p : Port) : List Byte := u8 (Port.code p) ++ flag (s.port p).attached

/-- ATTACH (R189). -/
def execAttach (p : Port) (tag : Byte) (s : State) : Host.Outcome State Fault Refusal :=
  .next (request (.attach p tag) p { senders := everyPort, detached := true } (fun s =>
    reply p tag (s.standing p) (if (s.port p).attached = true then s else attachPort p s)) s)

/-- DETACH (R189). -/
def execDetach (p : Port) (tag : Byte) (s : State) : Host.Outcome State Fault Refusal :=
  .next (request (.detach p tag) p { senders := everyPort, detached := true } (fun s =>
    reply p tag (s.standing p) (if (s.port p).attached = true then detachPort p s else s)) s)

/-- The payload of IDENTIFY (R190). -/
def State.identity (s : State) (p : Port) : List Byte :=
  u8 Config.partNumber ++ u8 Config.revision ++ s.standing p ++ u8 s.store.state.code
    ++ optional 1 (s.store.slot.map u8) ++ u8 s.engine.state.code

/-- IDENTIFY (R190). -/
def execIdentify (p : Port) (tag : Byte) (s : State) : Host.Outcome State Fault Refusal :=
  .next (request (.identify p tag) p { senders := everyPort, detached := true } (fun s =>
    reply p tag (s.identity p) s) s)

/-! ### SET WINDOW (R193) -/

/-- The window that a base and a size ask for: the base rounded down to a multiple of the size, and none where the base is above
15 or the size is not 1, 2, 4, 8 or 16 (R193). -/
def windowArg (base size : Byte) : Option Window :=
  match sizeArg size with
  | some n => if base.toNat ≤ 15 then some ⟨base.toNat / n * n, n⟩ else none
  | none => none

/-- One port's window replaced. -/
def setWindowOf (p : Port) (w : Window) (s : State) : State := s.setPort p { s.port p with window := w }

/-- SET WINDOW (R193). -/
def execSetWindow (p : Port) (tag target base size : Byte) (s : State) : Host.Outcome State Fault Refusal :=
  .next (request (.setWindow p tag target base size) p { senders := [.workstation] } (fun s =>
    match portArg target, windowArg base size with
    | some t, some w => reply p tag (u8 w.base ++ u8 w.size) (setWindowOf t w s)
    | _, _ => refuse p tag .badArgument s) s)

/-! ### RESET PORT (R194, R195) -/

/-- The submitter a port is; Port D submits nothing (R121). -/
def Port.submitter : Port → Option Submitter
  | .workstation => some .w
  | .positioner => some .p
  | .adapter => none

/-- Whether a job was submitted by a port. -/
def JobRecord.isOf (j : JobRecord) (p : Port) : Bool := some j.submitter == Port.submitter p

/-- Steps 1 to 4 of R195 on the port's own record; the slot is emptied unless the port resets itself. -/
def LinkPort.resetBy (l : LinkPort) (self : Bool) : LinkPort :=
  { LinkPort.reset with slot := if self = true then l.slot else .empty }

/-- A read of the reset port that waits for the grant or holds it is withdrawn (R160). -/
def withdrawRead (t : Port) (s : State) : State :=
  let s := if (s.arbiter.waiting.get (Port.client t)).isSome = true then withdrawAsk (Port.client t) s else s
  match s.arbiter.holder with
  | some (c, _) => if c = (Port.client t) then release s else s
  | none => s

/-- The queued jobs a port submitted (R140). -/
def State.queuedOf (s : State) (p : Port) : List JobRecord := s.jobs.queue.filter fun j => j.isOf p

/-- The stacked jobs a port submitted (R154). -/
def State.stackedOf (s : State) (p : Port) : List SearchRecord := s.stack.filter fun r => r.job.isOf p

/-- A port's QUEUE_SPACE mark is cleared (R128, R195). -/
def disarmSpace (p : Port) (s : State) : State :=
  match p with
  | .workstation => s.setJobs { s.jobs with spaceW := false }
  | .positioner => s.setJobs { s.jobs with spaceP := false }
  | .adapter => s

/-- Step 5 of R195 but for the active job: the port's queued and stacked jobs end CLEARED, its mark is cleared, and for Port W
the OPEN groups leave (R140, R154). -/
def clearWorkOf (t : Port) (s : State) : State :=
  let queued := s.queuedOf t
  let s := forStacked dropStacked (s.stackedOf t) (forQueued dropQueued queued (disarmSpace t s))
  let s := if t = .workstation then s.setJobs { s.jobs with groups := s.jobs.groups.filter Group.due } else s
  if queued.isEmpty = true then s else postSpace s

/-- Whether RESET PORT of a port ends an active job of another submitter HANDSHAKE_LOST (R119). -/
def usesPort (t : Port) (w : JobWork) : Bool :=
  match t with
  | .workstation => false
  | .positioner => true
  | .adapter => w.needsHead

/-- What RESET PORT does with the active job: it ends it with an outcome, it waits for the commit under the grant, or it leaves
it (R11, R119, R140). -/
inductive ResetCase where
  | ends (outcome : JobOutcome)
  | withdrawsCommit
  | waits
  | leaves
deriving DecidableEq, Repr

/-- The case of RESET PORT of a port for the active job as it stands (R11, R119, R140). -/
def State.resetCase (s : State) (t : Port) : ResetCase :=
  match s.engine.active with
  | none => .leaves
  | some r =>
    if s.engine.state.working = true then
      if r.job.isOf t = true then .ends .cleared
      else if usesPort t r.job.work = true then .ends .handshakeLost
      else .leaves
    else if s.engine.state = .commit ∧ r.job.isOf t = true then
      if s.arbiter.engineHolds .commit = true then .waits else .withdrawsCommit
    else .leaves

/-- The engine's request for its commit is withdrawn in this case (R11). -/
def withdrawAskIn (found : ResetCase) (s : State) : State := if found = .withdrawsCommit then withdrawAsk .engine s else s

/-- The job whose commit was withdrawn ends CLEARED (R11). -/
def withdrawCommit (s : State) : State :=
  match s.engine.active with
  | some r => afterJob s.engine.faultPending true (clearActive r s)
  | none => s

/-- The payload of RESET PORT: the queued and stacked jobs removed, and the outcome of the active job if it ended (R194). -/
def resetPayload (queued stacked : Nat) (outcome : Option JobOutcome) : List Byte :=
  u8 queued ++ u8 stacked ++ optional 1 (outcome.map fun o => u8 o.code)

/-- The resets that wait for the commit without those a port asked for. -/
def Engine.repliesBut (e : Engine) (t : Port) : List ResetReply := e.resetReplies.filter fun x => x.port != t

/-- A port's request that waits for a commit is forgotten with its slot (R195, step 2). -/
def dropReply (t : Port) (s : State) : State := s.setEngine { s.engine with resetReplies := s.engine.repliesBut t }

/-- RESET PORT of a port up to its active job (R195, steps 1 to 6 but for that job). -/
def resetStanding (p t : Port) (s : State) : State :=
  let s := if t = p then s else withdrawRead t (dropReply t s)
  let s := clearWorkOf t (s.setPort t ((s.port t).resetBy (t == p)))
  if t = .positioner then dropHome s else s

/-- RESET PORT carried out (R195). Whether the commit holds the grant is judged when the request is taken (R11), so a waiting
commit is withdrawn before step 2 can release the grant to it. A commit that holds the grant is waited for, and the response
with it (R11, R194). -/
def resetPort (p t : Port) (tag : Byte) (s : State) : State :=
  let queued := (s.queuedOf t).length
  let stacked := (s.stackedOf t).length
  let found := s.resetCase t
  let s := resetStanding p t (withdrawAskIn found s)
  match found with
  | .ends o => reply p tag (resetPayload queued stacked (some o)) (endJob o s)
  | .withdrawsCommit => reply p tag (resetPayload queued stacked (some .cleared)) (withdrawCommit s)
  | .waits => s.setEngine { s.engine with
      clearPending := true, resetReplies := s.engine.repliesBut p ++ [⟨p, t, queued, stacked⟩] }
  | .leaves => reply p tag (resetPayload queued stacked none) (advance s)

/-- RESET PORT (R194). -/
def execResetPort (p : Port) (tag target : Byte) (s : State) : Host.Outcome State Fault Refusal :=
  .next (request (.resetPort p tag target) p { senders := everyPort } (fun s =>
    match portArg target with
    | none => refuse p tag .badArgument s
    | some t => if p ≠ .workstation ∧ t ≠ p then refuse p tag .wrongPort s else resetPort p t tag s) s)

/-! ### A chip-select period (R185) -/

/-- The frame a port sends: that of a READY response, and none otherwise (R185). -/
def State.frameOut (s : State) (p : Port) : List Byte :=
  match (s.port p).slot with
  | .ready r => r.frame
  | .empty => []
  | .pending _ => []

/-- The bytes a port sends on SDO in a period of so many complete bytes whose fall finds this state: the response frame from its
first byte and 0x00 once it has ended, or 0x00 throughout (R185). -/
def State.sdo (s : State) (p : Port) (bytes : Nat) : List Byte :=
  (s.frameOut p).take bytes ++ List.replicate (bytes - (s.frameOut p).length) 0

/-- The commands that the rise of a period settles, in their order: the read of the response that was READY at its fall, then the
request the bytes on SDI deliver, if any (R185). -/
def State.periodCommands (s : State) (p : Port) (sdi : List Byte) : List Instr :=
  (if s.rdy p = true then [.responseRead p sdi.length] else [])
    ++ if deliversRequest sdi = true then [(decodeFrame p sdi).getD (.frameError p sdi)] else []

/-! ### The events of the slot (R186 to R188) -/

/-- The complete read of a response empties the slot and takes the reported drops off the count (R186, R187). -/
def finishRead (p : Port) (r : Response) (s : State) : State :=
  s.setPort p { s.port p with slot := .empty, dropped := (s.port p).dropped - r.dropped }

/-- RESPONSE_READ: a period that clocked this many bytes out; a read of fewer bytes than the frame leaves the slot READY
(R186). -/
def execResponseRead (p : Port) (clocked : Nat) (s : State) : Host.Outcome State Fault Refusal :=
  .next (match (s.port p).slot with
    | .ready r => if r.length ≤ clocked then finishRead p r s else s
    | .empty => s
    | .pending _ => s)

/-- DROPPED_REQUEST: a frame delivered while the slot is PENDING or READY is discarded and counted (R187). -/
def execDroppedRequest (p : Port) (s : State) : Host.Outcome State Fault Refusal :=
  .next (if (s.port p).slot = .empty then s else dropRequest p s)

/-- FRAME_ERROR: a malformed frame taken into an EMPTY slot is answered FRAME_ERROR with the tag of its third byte, in both port
states (R188); one that finds the slot taken is dropped (R187). -/
def execFrameError (p : Port) (bytes : List Byte) (s : State) : Host.Outcome State Fault Refusal :=
  .next (if deliversRequest bytes = false ∨ frameWellFormed bytes = true then s
    else if (s.port p).slot = .empty then refuse p (bytes.getD 2 0) .frameError s
    else dropRequest p s)

end Sys2Proof.Machine
end

