-- ==== Sys2Proof/Machine/EngineEvents.lean ====
section
/-! DEFINITION. The engine's operations under the grant: the E0 look-up, the commit and the group-end publish (R8, R10, R11, R19,
R31, R132). -/

namespace Sys2Proof.Machine

/-! ### E0_LOOKUP (R31) -/

/-- The active job's search record, where the look-up under the grant is its own: the engine is in HEAD_WAIT for a measuring job
without E0 that does not itself wait for the grant. Any other look-up under the grant belongs to a job that has ended or been
preempted since its grant, and is carried to its end without effect (R160; log entry 9). -/
def State.lookingUp (s : State) : Option SearchRecord :=
  if s.engine.state = .headWait ∧ s.arbiter.waiting.engine = none then
    s.engine.active.filter fun r => r.job.work.needsHead && r.e0.isNone
  else none

/-- The look-up of a search: E0 and the current target are set, the grant is released and a head request is placed (R31). -/
def lookUp (r : SearchRecord) (s : State) : State :=
  match r.job.work.place with
  | none => release s
  | some (h, z) =>
    let e0 := s.chooseE0 h z
    placeHead (setActive (some { r with e0 := some e0, target := some e0 }) (release s))

/-- E0_LOOKUP (R31). -/
def execE0Lookup (s : State) : Host.Outcome State Fault Refusal :=
  .next (if s.arbiter.engineHolds .e0LookUp = true then
    match s.lookingUp with
    | some r => lookUp r s
    | none => release s
  else s)

/-! ### COMMIT (R8, R10, R11) -/

/-- The zone a job names, 0 for a MOVE TO, which commits nothing. -/
def JobWork.zone : JobWork → Nat
  | .measure _ z => z
  | .referenceCheck _ z => z
  | .moveTo _ => 0

/-- Whether a drift marks entries STALE (R10). -/
def Profile.marks (pr : Profile) (drift : Option Int) : Bool :=
  match drift with
  | some d => pr.driftExceeds d
  | none => false

/-- The commit's work on the table: the staged part, and the staling of the zone where the drift exceeds the limit (R8, R10). -/
def commitTable (r : SearchRecord) (part : StagedPart) (s : State) : State :=
  match r.job.work.place with
  | none => s
  | some (h, z) =>
    let s' := writeStaged h z part s
    if s.store.profile.marks (s.driftFound r.job.work part) = true then markZoneStale z s' else s'

/-- The DRIFT notice of a commit whose drift exceeded the limit, after the release (R10, R159). -/
def postDrift (zone : Nat) (drift : Option Int) (marked : Bool) (s : State) : State :=
  match drift with
  | some d => if marked = true then postWD .drift (.drift zone d) s else s
  | none => s

/-- The dropped-request count of a port that resets itself is 0 when its response becomes READY, whatever was dropped while the
reset waited (R187, R194; log entry 15). -/
def forgetDrops (x : ResetReply) (s : State) : State :=
  if x.target = x.port then s.setPort x.port { s.port x.port with dropped := 0 } else s

/-- The resets of a list are answered in turn: the active job ended CLEARED (R194). -/
def answerAll : List ResetReply → State → State
  | [], s => s
  | x :: rest, s =>
    answerAll rest (answerPending x.port { payload := resetPayload x.queued x.stacked (some .cleared) } (forgetDrops x s))

/-- Every RESET PORT that waited for the commit is answered (R194). -/
def answerReset (s : State) : State := answerAll s.engine.resetReplies (s.setEngine { s.engine with resetReplies := [] })

/-- The end of a committed job: CLEARED where CLEAR BENCH or RESET PORT was taken under the grant (R11), otherwise with its
completion record (R54, R55). -/
def endCommit (r : SearchRecord) (o : JobOutcome) (part : StagedPart) (drift : Option Int) (marked : Bool) (s : State) : State :=
  let fault := s.engine.faultPending
  if s.engine.clearPending = true then answerReset (afterJob fault true (clearActive r s))
  else
    let s := writeRecord r.job (stagedRecord r o part drift marked s.sample.revolutions) s
    afterJob fault false (accountEnd r.job (clearActive r s))

/-- The commit of a job: the table, the release, the DRIFT notice, and the job's end (R8, R10, R53). -/
def commitJob (r : SearchRecord) (o : JobOutcome) (part : StagedPart) (s : State) : State :=
  let drift := s.driftFound r.job.work part
  let marked := s.store.profile.marks drift
  endCommit r o part drift marked (postDrift r.job.work.zone drift marked (release (commitTable r part s)))

/-- COMMIT (R8). -/
def execCommit (s : State) : Host.Outcome State Fault Refusal :=
  .next (if s.engine.state = .commit ∧ s.arbiter.engineHolds .commit = true then
    match s.engine.active, s.engine.staging with
    | some r, some (o, part) => commitJob r o part s
    | _, _ => s
  else s)

/-! ### GROUP_END_PUBLISH (R19, R132) -/

/-- The group whose publish has been carried out leaves the table (R132). -/
def removePublished (s : State) : State :=
  match s.engine.publishing with
  | some id => s.setJobs { s.jobs with groups := s.jobs.groups.filter fun g => g.id != id }
  | none => s

/-- The engine leaves PUBLISH: FAULT_HOLD if a fault waited, otherwise IDLE and on to what is due next (R55, R56, R132). -/
def leavePublish (s : State) : State :=
  if s.engine.faultPending = true then
    s.setEngine { s.engine with state := .faultHold, faultPending := false, publishing := none }
  else advance (s.setEngine { s.engine with state := .idle, publishing := none })

/-- GROUP_END_PUBLISH (R19): the publish, the release, the PUBLISHED notices, and the engine goes on. -/
def execGroupEndPublish (s : State) : Host.Outcome State Fault Refusal :=
  .next (if s.engine.state = .publish ∧ s.arbiter.engineHolds .groupPublish = true then
    leavePublish (removePublished (postWD .published s.publishDetail (release (publishTable s))))
  else s)

end Sys2Proof.Machine
end

