-- ==== Sys2Proof/Machine/Jobs.lean ====
section
/-! DEFINITION. The commands of the Job Queue: submissions, CANCEL in both forms, READ QUEUE, and RESUME ENGINE (R58, R121 to R142,
R153). -/

namespace Sys2Proof.Machine

/-! ### Submissions (R124 to R127) -/

/-- The checks of R124 on a request that names one entry and needs one slot, in their order. -/
def State.entryCheck (s : State) (p : Port) (head zone : Nat) : Option Status :=
  if s.store.profile.holds head zone = false then some .badArgument
  else if (s.port p).window.inside head = false then some .outOfWindow
  else if s.status head zone ≠ .idle then some .entryBusy
  else if s.freeSlots = 0 then some .queueFull
  else none

/-- A submission is refused; QUEUE_FULL arms the port (R128). -/
def refuseSubmission (p : Port) (tag : Byte) (st : Status) (s : State) : State :=
  refuse p tag st (if st = .queueFull then armSpace p s else s)

/-- A submission of one measuring job that passed its checks: the job is accepted, the engine's conditions are tested, and the
response carries its id and the number of queued jobs ahead of it (R124, R125, R126). -/
def submitJob (p : Port) (tag : Byte) (work : JobWork) (c : JobClass) (by_ : Submitter) (limit : Option Nat)
    (s : State) : State :=
  reply p tag (u8 s.newJobId ++ u8 (aheadOf c s.jobs.queue).length) (advance (accept work c by_ none limit s))

/-- SUBMIT MEASURE (R125). -/
def execSubmitMeasure (p : Port) (tag head zone cls limit : Byte) (s : State) : Host.Outcome State Fault Refusal :=
  .next (request (.submitMeasure p tag head zone cls limit) p { senders := [.workstation], profile := true } (fun s =>
    match sweepClassArg cls, limitArg limit with
    | some c, some l => match s.entryCheck p head.toNat zone.toNat with
      | some st => refuseSubmission p tag st s
      | none => submitJob p tag (.measure head.toNat zone.toNat) c .w l s
    | _, _ => refuse p tag .badArgument s) s)

/-- The class and the submitter of a reference check from a port (R126). -/
def referenceClass (p : Port) : JobClass × Submitter :=
  if p = .positioner then (.urgent, .p) else (.priority, .w)

/-- SUBMIT REFERENCE CHECK (R126). -/
def execSubmitReferenceCheck (p : Port) (tag zone : Byte) (s : State) : Host.Outcome State Fault Refusal :=
  .next (request (.submitReferenceCheck p tag zone) p { senders := [.workstation, .positioner], profile := true } (fun s =>
    match s.entryCheck p s.store.profile.referenceHead zone.toNat with
    | some st => refuseSubmission p tag st s
    | none => submitJob p tag (.referenceCheck s.store.profile.referenceHead zone.toNat) (referenceClass p).1
        (referenceClass p).2 none s) s)

/-- SUBMIT MOVE (R127). -/
def execSubmitMove (p : Port) (tag : Byte) (target : CountWord) (s : State) : Host.Outcome State Fault Refusal :=
  .next (request (.submitMove p tag target) p { senders := [.workstation], profile := true } (fun s =>
    if s.freeSlots = 0 then refuseSubmission p tag .queueFull s
    else
      let t := s.store.profile.clampTravel target.toInt
      answer p tag
        { clamped := t != target.toInt,
          payload := u8 s.newJobId ++ le 3 t ++ u8 (aheadOf .normal s.jobs.queue).length }
        (advance (accept (.moveTo t) .normal .w none none s))) s)

/-! ### SUBMIT SWEEP (R130) -/

/-- The entries of a rectangle in head-major order (R130). -/
def sweepPlaces (firstHead lastHead firstZone lastZone : Nat) : List (Nat × Nat) :=
  (List.range' firstHead (lastHead + 1 - firstHead)).flatMap fun h =>
    (List.range' firstZone (lastZone + 1 - firstZone)).map fun z => (h, z)

/-- The members of a rectangle: its entries that are IDLE (R130). -/
def State.membersOf (s : State) (places : List (Nat × Nat)) : List (Nat × Nat) :=
  places.filter fun hz => s.status hz.1 hz.2 == .idle

/-- The argument checks of SUBMIT SWEEP, in their order (R130). -/
def State.sweepCheck (s : State) (p : Port) (firstHead lastHead firstZone lastZone : Nat) : Option Status :=
  if lastHead < firstHead ∨ lastZone < firstZone ∨ s.store.profile.holds lastHead lastZone = false then some .badArgument
  else if (s.port p).window.inside firstHead = false ∨ (s.port p).window.inside lastHead = false then some .outOfWindow
  else none

/-- The checks of a sweep with members against the queue and the group table, in their order (R124, R130). -/
def State.sweepRoom (s : State) (members : Nat) : Option Status :=
  if s.freeSlots < members then some .queueFull
  else if Config.groupSlots ≤ s.jobs.groups.length then some .groupsFull
  else none

/-- A new OPEN group record joins the group table (R129, R130). -/
def openGroup (members : Nat) (publishAtEnd : Bool) (s : State) : State :=
  s.setJobs { s.jobs with
    groups := s.jobs.groups ++ [⟨s.newGroupId, .w, members, publishAtEnd, false, false⟩],
    nextGroup := idAfter 15 s.newGroupId }

/-- The id before another, wrapping from 1 to cap. -/
def idBefore (cap n : Nat) : Nat := if n ≤ 1 then cap else n - 1

/-- The payload of SUBMIT SWEEP: the group id, the first and the last job id, absent where no job was queued, the job count and
the skipped count (R130; log entry 8). -/
def sweepPayload (ids : Option (Nat × Nat × Nat)) (members skipped : Nat) : List Byte :=
  optional 1 (ids.map fun x => u8 x.1) ++ optional 1 (ids.map fun x => u8 x.2.1) ++ optional 1 (ids.map fun x => u8 x.2.2)
    ++ u8 members ++ u8 skipped

/-- A sweep whose checks passed is queued and answered (R130). -/
def submitSweep (p : Port) (tag : Byte) (c : JobClass) (publishAtEnd : Bool) (members : List (Nat × Nat)) (skipped : Nat)
    (s : State) : State :=
  let group := s.newGroupId
  let first := s.newJobId
  let s := acceptAll c group members (openGroup members.length publishAtEnd s)
  let last := idBefore 255 s.jobs.nextJob
  reply p tag (sweepPayload (some (group, first, last)) members.length skipped) (advance s)

/-- SUBMIT SWEEP (R130). -/
def execSubmitSweep (p : Port) (tag firstHead lastHead firstZone lastZone cls publishAtEnd : Byte) (s : State) :
    Host.Outcome State Fault Refusal :=
  .next (request (.submitSweep p tag firstHead lastHead firstZone lastZone cls publishAtEnd) p
    { senders := [.workstation], profile := true } (fun s =>
    match sweepClassArg cls, flagArg publishAtEnd with
    | some c, some f =>
      match s.sweepCheck p firstHead.toNat lastHead.toNat firstZone.toNat lastZone.toNat with
      | some st => refuse p tag st s
      | none =>
        let places := sweepPlaces firstHead.toNat lastHead.toNat firstZone.toNat lastZone.toNat
        let members := s.membersOf places
        if members.isEmpty = true then reply p tag (sweepPayload none 0 places.length) s
        else match s.sweepRoom members.length with
          | some st => refuseSubmission p tag st s
          | none => submitSweep p tag c f members (places.length - members.length) s
    | _, _ => refuse p tag .badArgument s) s)

/-! ### CANCEL (R133, R134, R153) -/

/-- Where a job stands (R121). -/
inductive JobPlace where
  | queued (j : JobRecord)
  | active (r : SearchRecord)
  | stacked (r : SearchRecord)
deriving DecidableEq, Repr

/-- The record of a job, wherever it stands. -/
def JobPlace.job : JobPlace → JobRecord
  | .queued j => j
  | .active r => r.job
  | .stacked r => r.job

/-- The job that holds an id, and where it stands (R122, R133). -/
def State.findJob (s : State) (id : Nat) : Option JobPlace :=
  match s.jobs.queue.find? fun j => j.id == id with
  | some j => some (.queued j)
  | none =>
    match s.engine.active.filter fun r => r.job.id == id with
    | some r => some (.active r)
    | none => (s.stack.find? fun r => r.job.id == id).map .stacked

/-- CANCEL of a job by where it stands (R133): the response names where it stood, 0 QUEUED, 1 ACTIVE or 2 STACKED. -/
def cancelJob (p : Port) (tag : Byte) (found : JobPlace) (s : State) : State :=
  match found with
  | .queued j => reply p tag (u8 0) (advance (postSpace (cancelQueued j s)))
  | .active _ =>
    if s.engine.state.working = true then reply p tag (u8 1) (endJob .cancelled s) else refuse p tag .tooLate s
  | .stacked r => reply p tag (u8 2) (advance (cancelStacked r s))

/-- The job form of CANCEL (R133). -/
def cancelForm (p : Port) (tag id : Byte) (s : State) : State :=
  if id = 0 then refuse p tag .badArgument s
  else match s.findJob id.toNat with
    | none => refuse p tag .unknownJob s
    | some found =>
      if p = .positioner ∧ found.job.submitter ≠ .p then refuse p tag .wrongPort s else cancelJob p tag found s

/-- A group's cancelled flag is set (R134). -/
def markCancelled (id : Nat) (s : State) : State :=
  s.setJobs { s.jobs with groups := s.jobs.groups.map fun g => if g.id = id then { g with cancelled := true } else g }

/-- Whether a job is a member of a group. -/
def JobRecord.inGroup (j : JobRecord) (id : Nat) : Bool := j.group == some id

/-- Whether the active job is a member of a group. -/
def State.activeIn (s : State) (id : Nat) : Bool :=
  match s.engine.active with
  | some r => r.job.inGroup id
  | none => false

/-- CANCEL of an OPEN group: its flag is set, its queued members go, then its stacked ones, then its active one unless it is in
COMMIT (R134). -/
def cancelMembers (p : Port) (tag : Byte) (id : Nat) (s : State) : State :=
  let queued := s.jobs.queue.filter fun j => j.inGroup id
  let stacked := s.stack.filter fun r => r.job.inGroup id
  let ends := s.activeIn id && s.engine.state.working
  let left := s.activeIn id && !s.engine.state.working
  let s := forQueued cancelQueued queued (markCancelled id s)
  let s := if queued.isEmpty = true then s else postSpace s
  let s := forStacked cancelStacked stacked s
  reply p tag (u8 (queued.length + stacked.length + ends.toNat) ++ u8 left.toNat)
    (if ends = true then endJob .cancelled s else advance s)

/-- The group form of CANCEL (R134). -/
def cancelGroupForm (p : Port) (tag id : Byte) (s : State) : State :=
  if p ≠ .workstation then refuse p tag .wrongPort s
  else if id = 0 ∨ 15 < id.toNat then refuse p tag .badArgument s
  else match s.jobs.groups.find? fun g => g.id == id.toNat with
    | none => refuse p tag .unknownJob s
    | some g => if g.due = true then refuse p tag .tooLate s else cancelMembers p tag id.toNat s

/-- CANCEL is sent by Port W and Port P and is not profile-dependent (R133). -/
def cancelAccess : Access := { senders := [.workstation, .positioner] }

/-- CANCEL (R133); a group flag that is neither 0 nor 1 is refused (R196). -/
def execCancel (p : Port) (tag id groupFlag : Byte) (s : State) : Host.Outcome State Fault Refusal :=
  .next (request (.cancel p tag id groupFlag) p cancelAccess (fun s =>
    match flagArg groupFlag with
    | none => refuse p tag .badArgument s
    | some true => cancelGroupForm p tag id s
    | some false => cancelForm p tag id s) s)

/-- CANCEL in its group form (R134). -/
def execCancelGroup (p : Port) (tag id : Byte) (s : State) : Host.Outcome State Fault Refusal :=
  .next (request (.cancelGroup p tag id) p cancelAccess (cancelGroupForm p tag id) s)

/-! ### READ QUEUE (R142) -/

/-- The queued jobs one READ QUEUE response can carry (R142). -/
def queueWindow : Nat := 15

/-- The payload of READ QUEUE from a start position (R142, R196). -/
def State.queueReport (s : State) (start : Nat) : List Byte :=
  u8 s.engine.state.code
    ++ listBytes (s.engine.active.toList.map fun r => r.job.bytes false)
    ++ listBytes (s.stack.reverse.map fun r => r.job.bytes false)
    ++ u8 s.jobs.queue.length
    ++ listBytes (((s.jobs.queue.drop start).take queueWindow).map fun j => j.bytes true)
    ++ listBytes (s.jobs.groups.map Group.bytes)
    ++ u8 s.jobs.nextJob ++ u8 s.jobs.nextGroup ++ u8 s.jobs.drift
    ++ optional 1 (s.jobs.pendingZone.map u8)
    ++ flag s.jobs.spaceW ++ flag s.jobs.spaceP

/-- READ QUEUE (R142). -/
def execReadQueue (p : Port) (tag start : Byte) (s : State) : Host.Outcome State Fault Refusal :=
  .next (request (.readQueue p tag start) p { senders := everyPort } (fun s =>
    if 23 < start.toNat then refuse p tag .badArgument s
    else answer p tag
      { more := decide (start.toNat + queueWindow < s.jobs.queue.length), payload := s.queueReport start.toNat } s) s)

/-! ### RESUME ENGINE (R58) -/

/-- Whether a condition that holds the engine is still there: PFAULT is high, or the count lies outside the travel limits in
force (R58). -/
def State.conditionPresent (s : State) : Bool :=
  s.frame.pfault.level || (s.store.inForce && s.store.profile.travelOf s.frame.count != .inside)

/-- RESUME ENGINE (R58). -/
def execResumeEngine (p : Port) (tag : Byte) (s : State) : Host.Outcome State Fault Refusal :=
  .next (request (.resumeEngine p tag) p { senders := [.workstation] } (fun s =>
    if s.engine.state = .faultHold ∧ s.conditionPresent = true then refuse p tag .conditionPresent s
    else
      let s := if s.engine.state = .faultHold then advance (setEngineState .idle s) else s
      reply p tag (u8 s.engine.state.code) s) s)

end Sys2Proof.Machine
end

