-- ==== Sys2Proof/Machine/Notices.lean ====
section
/-! DEFINITION. The commands of the Notice Units and the completion lists (R171 to R183). -/

namespace Sys2Proof.Machine

/-! ### TAKE NOTICE (R177) -/

/-- The notice code of a source (R177). -/
def NoticeUnit.code (u : NoticeUnit) (src : Source) : Nat := u.baseCode * 16 + src.num

/-- The detail a take returns: the slot's for an event-like source, formed from its condition for a level-like one (R177). -/
def State.noticeDetail (s : State) (p : Port) (src : Source) : Option Detail :=
  if src.isLevel = true then s.levelDetail p src else (s.port p).notices.details.get src

/-- The effects of taking a source: an event-like source leaves the pending set with its detail, the merge count becomes 0, and
with tracking on the source enters service (R177). -/
def NoticeUnit.take (src : Source) (u : NoticeUnit) : NoticeUnit :=
  { u with
    details := if src.isLevel = true then u.details else u.details.set src none
    merge := u.merge.set src 0
    inService := if u.tracking = true then u.inService.set src true else u.inService }

/-- A source is taken at a port (R177). A take is no pulse cause (R176). -/
def takeSource (p : Port) (src : Source) (s : State) : State := s.setNotices p ((s.port p).notices.take src)

/-- The five bytes of the detail in a TAKE NOTICE payload (R196). -/
def detailBytes (d : Option Detail) : List Byte :=
  match d with
  | some x => x.five
  | none => List.replicate 5 0

/-- The payload of TAKE NOTICE for a source taken in this state (R177, R196). -/
def State.noticePayload (s : State) (p : Port) (src : Source) : List Byte :=
  u8 ((s.port p).notices.code src) ++ detailBytes (s.noticeDetail p src) ++ u8 ((s.port p).notices.merge.get src)
    ++ u8 ((takeSource p src s).eligible p).length

/-- TAKE NOTICE (R177). -/
def execTakeNotice (p : Port) (tag : Byte) (s : State) : Host.Outcome State Fault Refusal :=
  .next (request (.takeNotice p tag) p { senders := everyPort } (fun s =>
    match s.eligible p with
    | [] => refuse p tag .empty s
    | src :: _ => reply p tag (s.noticePayload p src) (takeSource p src s)) s)

/-! ### END SERVICE (R178) -/

/-- A source leaves service (R178). -/
def closeService (p : Port) (src : Source) (s : State) : State :=
  s.setNotices p { (s.port p).notices with inService := (s.port p).notices.inService.set src false }

/-- END SERVICE (R178). -/
def execEndService (p : Port) (tag : Byte) (s : State) : Host.Outcome State Fault Refusal :=
  .next (request (.endService p tag) p { senders := everyPort } (fun s =>
    match (s.port p).notices.topService with
    | none => refuse p tag .empty s
    | some src => reply p tag (u8 src.num) (pulseIfEligible p (closeService p src s))) s)

/-! ### SET NOTICE MASK and SET NOTICE MODE (R179, R180) -/

/-- The merge count of each source (R179). DESIGN CHOICE: ten bytes from source 0 up and no count byte, because the manual gives
neither their order nor says that they are a list (log entry 8). -/
def mergeBytes (m : PerSource Nat) : List Byte :=
  u8 m.withdrawn ++ u8 m.queueSpace ++ u8 m.published ++ u8 m.drift ++ u8 m.jobDone ++ u8 m.jobFailed
    ++ u8 m.moveRequest ++ u8 m.headRequest ++ u8 m.servo ++ u8 m.fault

/-- The line mode byte (R196). -/
def LineMode.code : LineMode → Nat
  | .level => 0
  | .pulse => 1

/-- The notice report of a port (R179). -/
def State.noticeReport (s : State) (p : Port) : List Byte :=
  let u := (s.port p).notices
  setBytes (s.pendingSet p) ++ setBytes u.mask ++ setBytes u.inService ++ mergeBytes u.merge
    ++ u8 u.mode.code ++ flag u.tracking ++ u8 u.baseCode
    ++ u8 (s.port p).completions.length ++ u8 (s.port p).overflow

/-- A port's mask set is replaced (R179). -/
def setMask (p : Port) (m : PerSource Bool) (s : State) : State := s.setNotices p { (s.port p).notices with mask := m }

/-- SET NOTICE MASK (R179). -/
def execSetNoticeMask (p : Port) (tag : Byte) (sources : BitVec 16) (s : State) : Host.Outcome State Fault Refusal :=
  .next (request (.setNoticeMask p tag sources) p { senders := everyPort } (fun s =>
    let s := pulseIfEligible p (setMask p (maskArg sources) s)
    reply p tag (s.noticeReport p) s) s)

/-- The three settings of SET NOTICE MODE take effect together: turning tracking off empties the in-service set
and turning it on starts with it empty, and LEVEL ends a pulse
in progress with its owed repeat (R176, R180). -/
def NoticeUnit.withMode (m : LineMode) (tracking : Bool) (base : Nat) (u : NoticeUnit) : NoticeUnit :=
  { u with
    mode := m, tracking := tracking, baseCode := base
    inService := if tracking = true ∧ u.tracking = true then u.inService else .all false
    pulse := if m = .level then .idle else u.pulse }

/-- The settings replaced at a port, with the pulse that selecting PULSE gives (R176, R180). -/
def setMode (p : Port) (m : LineMode) (tracking : Bool) (base : Nat) (s : State) : State :=
  pulseIfEligible p (s.setNotices p ((s.port p).notices.withMode m tracking base))

/-- A base code argument: 0..15 (R180). -/
def baseArg (b : Byte) : Option Nat := if b.toNat ≤ 15 then some b.toNat else none

/-- SET NOTICE MODE (R180). -/
def execSetNoticeMode (p : Port) (tag mode tracking base : Byte) (s : State) : Host.Outcome State Fault Refusal :=
  .next (request (.setNoticeMode p tag mode tracking base) p { senders := everyPort } (fun s =>
    match modeArg mode, flagArg tracking, baseArg base with
    | some m, some t, some b =>
      let s := setMode p m t b s
      reply p tag (s.noticeReport p) s
    | _, _, _ => refuse p tag .badArgument s) s)

/-! ### TAKE COMPLETION (R182) -/

/-- A port's overflow count is replaced. -/
def setOverflow (p : Port) (n : Nat) (s : State) : State := s.setPort p { s.port p with overflow := n }

/-- TAKE COMPLETION (R182). The counts come first in the payload, then the record (R197). -/
def execTakeCompletion (p : Port) (tag : Byte) (s : State) : Host.Outcome State Fault Refusal :=
  .next (request (.takeCompletion p tag) p { senders := everyPort } (fun s =>
    match (s.port p).completions with
    | [] => answer p tag { status := .empty, payload := u8 (s.port p).overflow ++ u8 0 } (setOverflow p 0 s)
    | r :: rest =>
      answer p tag { records := 1, payload := u8 (s.port p).overflow ++ u8 rest.length ++ r.bytes }
        (setOverflow p 0 (s.setCompletions p rest))) s)

/-! ### The pulse events (R176) -/

/-- ATTN_PULSE_END: a pulse ends, and one that owes a repeat leaves the line low for 2 µs (R176). -/
def execAttnPulseEnd (p : Port) (s : State) : Host.Outcome State Fault Refusal :=
  .next (match (s.port p).notices.pulse with
    | .pulsing _ false => s.setNotices p { (s.port p).notices with pulse := .idle }
    | .pulsing _ true => s.setNotices p { (s.port p).notices with pulse := .low 2 }
    | .idle => s
    | .low _ => s)

/-- ATTN_SECOND_PULSE: the owed pulse is given (R176). -/
def execAttnSecondPulse (p : Port) (s : State) : Host.Outcome State Fault Refusal :=
  .next (match (s.port p).notices.pulse with
    | .low _ => s.setNotices p { (s.port p).notices with pulse := .pulsing 2 false }
    | .idle => s
    | .pulsing _ _ => s)

end Sys2Proof.Machine
end

