-- ==== Sys2Proof/Machine/Position.lean ====
section
/-! DEFINITION. The commands of the Position Frame: HOME, READ POSITION, the filter sample and the settle timer's expiry (R80 to
R99). -/

namespace Sys2Proof.Machine

/-- The Position Frame of the state replaced. -/
def State.setFrame (s : State) (f : PositionFrame) : State := { s with frame := f }

/-! ### HOME (R87) -/

/-- The home capture state byte (R80, R196). -/
def HomeState.code : HomeState → Nat
  | .idle => 0
  | .waiting => 1
  | .done => 2

/-- HOME (R87): every capture state becomes WAITING, and the response carries it. -/
def execHome (p : Port) (tag : Byte) (s : State) : Host.Outcome State Fault Refusal :=
  .next (request (.home p tag) p { senders := [.positioner], profile := true } (fun s =>
    if s.engine.active.isSome = true then refuse p tag .busy s
    else reply p tag (u8 HomeState.waiting.code) (s.setFrame { s.frame with home := .waiting })) s)

/-! ### READ POSITION (R98) -/

/-- The travel state byte (R80, R196). -/
def TravelState.code : TravelState → Nat
  | .untested => 0
  | .inside => 1
  | .below => 2
  | .above => 3

/-- The settle test state byte (R80, R196). -/
def SettleTest.code : SettleTest → Nat
  | .none => 0
  | .outside => 1
  | .timing => 2
  | .met => 3

/-- The target of the move being settled (R98). -/
def State.settleTarget (s : State) : Option Int :=
  if s.frame.settle = .none then none else s.handshake.move.map MoveRequest.target

/-- A travel limit in force, absent while the travel state is UNTESTED (R98). -/
def PositionFrame.limit (f : PositionFrame) (x : Int) : Option Int := if f.travel = .untested then none else some x

/-- The payload of READ POSITION (R98). -/
def State.positionReport (s : State) : List Byte :=
  le 3 s.frame.count ++ u8 s.frame.home.code ++ u8 s.frame.travel.code
    ++ optional 3 ((s.frame.limit s.store.profile.travelLow).map (le 3))
    ++ optional 3 ((s.frame.limit s.store.profile.travelHigh).map (le 3))
    ++ flag s.frame.encA.level ++ flag s.frame.encB.level ++ flag s.frame.encZ.level ++ flag s.frame.pfault.level
    ++ u8 s.frame.filterLength ++ u8 s.frame.errors ++ u8 s.frame.settle.code
    ++ optional 3 (s.settleTarget.map (le 3))
    ++ u8 s.engine.state.code

/-- READ POSITION (R98). -/
def execReadPosition (p : Port) (tag clear : Byte) (s : State) : Host.Outcome State Fault Refusal :=
  .next (request (.readPosition p tag clear) p { senders := everyPort } (fun s =>
    match flagArg clear with
    | none => refuse p tag .badArgument s
    | some false => reply p tag s.positionReport s
    | some true =>
      if p ≠ .workstation then refuse p tag .wrongPort s
      else reply p tag s.positionReport (s.setFrame { s.frame with errors := 0 })) s)

/-! ### The filter sample (R80 to R96) -/

/-- One filter at one sample (R81, R82). -/
def InputFilter.step (length : Nat) (sampled : Bool) (f : InputFilter) : InputFilter :=
  if sampled = f.level then { f with run := 0 }
  else if length ≤ f.run + 1 then ⟨sampled, 0⟩
  else { f with run := f.run + 1 }

/-- Filtering: the four filters at one sample, with the same F (R81). -/
def PositionFrame.filtered (a b z pf : Bool) (f : PositionFrame) : PositionFrame :=
  { f with
    encA := f.encA.step f.filterLength a, encB := f.encB.step f.filterLength b
    encZ := f.encZ.step f.filterLength z, pfault := f.pfault.step f.filterLength pf }

/-- An accepted rising edge between two levels (R81). -/
def rising (before after : Bool) : Bool := !before && after

/-- The step of the count from the accepted levels before and after a sample: none for an illegal transition, 0 where neither
channel has an edge (R84, R85). -/
def quadrature (a b a' b' : Bool) : Option Int :=
  if a ≠ a' ∧ b ≠ b' then none
  else if a ≠ a' then some (if a' ≠ b then 1 else -1)
  else if b ≠ b' then some (if b' = a then 1 else -1)
  else some 0

/-- A rising PFAULT: the FAULT notices, then the engine (R92). -/
def positionerFault (s : State) : State := takeFault .positionerFault (postFault (.pfault s.frame.count) s)

/-- An illegal transition: the error count, the FAULT notices, then the engine (R85). -/
def encoderFault (s : State) : State :=
  let s := s.setFrame { s.frame with errors := satSucc 255 s.frame.errors }
  takeFault .encoderFault (postFault (.encoder s.frame.count) s)

/-- Counting, or the illegal transition, against the levels before the sample (R84, R85). -/
def countStage (before : PositionFrame) (s : State) : State :=
  match quadrature before.encA.level before.encB.level s.frame.encA.level s.frame.encB.level with
  | none => encoderFault s
  | some d => s.setFrame { s.frame with count := wrap24 (s.frame.count + d) }

/-- Home capture (R88). -/
def captureStage (before : PositionFrame) (s : State) : State :=
  if rising before.encZ.level s.frame.encZ.level = true ∧ s.frame.home = .waiting then
    s.setFrame { s.frame with count := s.store.profile.homeValue, home := .done }
  else s

/-- The travel test of a sample that changed the count (R90, R91). -/
def travelStage (before : PositionFrame) (s : State) : State :=
  if s.frame.count = before.count then s else testTravel s

/-- PFAULT detection (R92). -/
def pfaultStage (before : PositionFrame) (s : State) : State :=
  if rising before.pfault.level s.frame.pfault.level = true then positionerFault s else s

/-- The settle test of a sample that changed the count (R95). -/
def settleStage (before : PositionFrame) (s : State) : State :=
  if s.frame.count = before.count then s else settleSample s

/-- A filter sample from the second one on, in the order of R80. -/
def filterSample (a b z pf : Bool) (s : State) : State :=
  settleStage s.frame (pfaultStage s.frame (travelStage s.frame (captureStage s.frame
    (countStage s.frame (s.setFrame (s.frame.filtered a b z pf))))))

/-- The first filter sample after the release of RESETn: it sets the accepted levels, and a high PFAULT is a rising one
(R83). -/
def firstFilterSample (a b z pf : Bool) (s : State) : State :=
  let s := s.setFrame { s.frame with
    encA := ⟨a, 0⟩, encB := ⟨b, 0⟩, encZ := ⟨z, 0⟩, pfault := ⟨pf, 0⟩, sampled := true }
  if pf = true then positionerFault s else s

/-- FILTER_SAMPLE (R80). -/
def execFilterSample (a b z pf : Bool) (s : State) : Host.Outcome State Fault Refusal :=
  .next (if s.frame.sampled = true then filterSample a b z pf s else firstFilterSample a b z pf s)

/-- SETTLE_TIMER_EXPIRY: in TIMING the test is met (R95). -/
def execSettleTimerExpiry (s : State) : Host.Outcome State Fault Refusal :=
  .next (if s.frame.settle = .timing then settleMet s else s)

end Sys2Proof.Machine
end

