-- ==== Sys2Proof/Machine/Protocol.lean ====
section
/-! DEFINITION. The commands of the move and head protocols: the requests of Port P and Port D, READ HANDSHAKE, and the expiries of
the handshake timers (R100 to R120). -/

namespace Sys2Proof.Machine

/-! ### Reports and the requests they match (R101) -/

/-- The outstanding move request a sequence matches; 0 matches none (R101). -/
def State.moveMatching (s : State) (sequence : Byte) : Option MoveRequest :=
  s.handshake.move.filter fun m => sequence != 0 && m.sequence == sequence.toNat

/-- The outstanding head request a sequence matches; 0 matches none (R101). -/
def State.headMatching (s : State) (sequence : Byte) : Option HeadRequest :=
  s.handshake.head.filter fun r => sequence != 0 && r.sequence == sequence.toNat

/-- The move handshake state byte, in the order of R100. -/
def HandshakeUnit.moveCode (h : HandshakeUnit) : Nat :=
  match h.move with
  | none => 0
  | some m => match m.phase with
    | .requested => 1
    | .taken => 2
    | .done => 3
    | .settled => 4

/-- The head handshake state byte, in the order of R100. -/
def HandshakeUnit.headCode (h : HandshakeUnit) : Nat :=
  match h.head with
  | none => 0
  | some r => match r.phase with
    | .requested => 1
    | .taken => 2
    | .delay => 3
    | .ready => 4

/-! ### The move protocol (R103 to R106) -/

/-- The record TAKE MOVE returns (R103). -/
def MoveRequest.bytes (m : MoveRequest) : List Byte := u8 m.sequence ++ le 3 m.target ++ u8 m.job

/-- TAKE MOVE (R103). -/
def execTakeMove (p : Port) (tag : Byte) (s : State) : Host.Outcome State Fault Refusal :=
  .next (request (.takeMove p tag) p { senders := [.positioner] } (fun s =>
    match s.handshake.move with
    | none => refuse p tag .empty s
    | some m => match m.phase with
      | .requested => reply p tag m.bytes (setMovePhase .taken s)
      | .taken => reply p tag m.bytes s
      | .done => refuse p tag .empty s
      | .settled => refuse p tag .empty s) s)

/-- The settle test starts for a move that has just become DONE and still is (R94, R104). -/
def startSettleTest (sequence : Byte) (s : State) : State :=
  match s.moveMatching sequence with
  | some m => if m.phase = .done then settleEvaluate s else s
  | none => s

/-- A move becomes DONE: an engine in MOVE_WAIT enters SETTLING, and the settle test starts (R33, R94, R104). -/
def acceptMoveDone (sequence : Byte) (s : State) : State :=
  let s := setMovePhase .done s
  startSettleTest sequence (if s.engine.state = .moveWait then enterSettling s else s)

/-- MOVE DONE (R104). -/
def execMoveDone (p : Port) (tag sequence : Byte) (s : State) : Host.Outcome State Fault Refusal :=
  .next (request (.moveDone p tag sequence) p { senders := [.positioner] } (fun s =>
    match s.moveMatching sequence with
    | none => refuse p tag .staleSequence s
    | some m =>
      let s := match m.phase with
        | .requested => acceptMoveDone sequence s
        | .taken => acceptMoveDone sequence s
        | .done => s
        | .settled => s
      reply p tag (u8 s.handshake.moveCode) s) s)

/-- A move the motion controller declines: the request ends REFUSED and the active job MOVE_TIMEOUT (R105). -/
def refuseMove (reason : Byte) (s : State) : State := endJob .moveTimeout (endMove (.refused reason.toNat) s)

/-- MOVE REFUSED (R105). -/
def execMoveRefused (p : Port) (tag sequence reason : Byte) (s : State) : Host.Outcome State Fault Refusal :=
  .next (request (.moveRefused p tag sequence reason) p { senders := [.positioner] } (fun s =>
    match s.moveMatching sequence with
    | none => refuse p tag .staleSequence s
    | some m => match m.phase with
      | .requested => reply p tag [] (refuseMove reason s)
      | .taken => reply p tag [] (refuseMove reason s)
      | .done => refuse p tag .tooLate s
      | .settled => refuse p tag .tooLate s) s)

/-- MOVE_TIMEOUT_EXPIRY: the running timeout reaches 0, the request ends TIMED_OUT and the active job MOVE_TIMEOUT (R106). -/
def execMoveTimeoutExpiry (s : State) : Host.Outcome State Fault Refusal :=
  .next (match s.handshake.moveTimeout with
    | .running _ => endJob .moveTimeout (timeOutMove s)
    | .stopped => s
    | .paused _ => s)

/-! ### The head protocol (R110 to R115) -/

/-- The record TAKE HEAD REQUEST returns (R110). -/
def HeadRequest.bytes (r : HeadRequest) : List Byte := u8 r.sequence ++ u8 r.head ++ u8 r.job

/-- TAKE HEAD REQUEST (R110). -/
def execTakeHeadRequest (p : Port) (tag : Byte) (s : State) : Host.Outcome State Fault Refusal :=
  .next (request (.takeHeadRequest p tag) p { senders := [.adapter] } (fun s =>
    match s.handshake.head with
    | none => refuse p tag .empty s
    | some r => match r.phase with
      | .requested => reply p tag r.bytes (setHeadPhase .taken s)
      | .taken => reply p tag r.bytes s
      | .delay => refuse p tag .empty s
      | .ready => refuse p tag .empty s) s)

/-- The head handshake enters DELAY: the select timeout stops and the settle timer starts, and a delay of 0 is over at once; a
servo loss that has outlasted its timeout ends the job in the delay (R111, R115, R44). -/
def enterDelay (s : State) : State :=
  let s := setHeadPhase .delay (s.setHandshake { s.handshake with
    headTimeout := .stopped, headSettle := startMs s.store.profile.headSettleDelay })
  if s.store.profile.headSettleDelay = 0 then headReady s
  else if s.sample.lossExpired = true then endJob .servoLost s
  else s

/-- An answer (R111): the requested head starts the settle delay, and another head ends the request MISMATCH and the job
HEAD_FAULT. -/
def answerHead (r : HeadRequest) (head : Nat) (s : State) : State :=
  if head = r.head then enterDelay s else endJob .headFault (endHead (.mismatch head) s)

/-- A reissue (R112, R34): the request ends REISSUED, an engine past HEAD_WAIT drops its dwell and returns there, and a new
request for the same head is placed. -/
def reissueHead (r : HeadRequest) (s : State) : State :=
  let s := endHead .reissued s
  let s := match s.engine.state with
    | .moveWait => setEngineState .headWait (dropDwell s)
    | .settling => setEngineState .headWait (dropDwell s)
    | .dwell => setEngineState .headWait (dropDwell s)
    | _ => s
  placeHeadFor r.head r.job s

/-- A report that is no answer, after it has set the selected head (R112). -/
def reportHead (head : Nat) (s : State) : State :=
  match s.handshake.head with
  | none => s
  | some r => match r.phase with
    | .requested => s
    | .taken => s
    | .delay => if head = r.head then s else reissueHead r s
    | .ready => if head = r.head then s else reissueHead r s

/-- The effect of a HEAD SELECTED that names a head, and its response status (R111, R112). -/
def headReport (sequence : Byte) (head : Nat) (s : State) : Status × State :=
  let found := s.headMatching sequence
  let s := selectHead head s
  match found with
  | none => (if sequence = 0 then .ok else .staleSequence, reportHead head s)
  | some r => match r.phase with
    | .requested => (.ok, answerHead r head s)
    | .taken => (.ok, answerHead r head s)
    | .delay => (.ok, reportHead head s)
    | .ready => (.ok, reportHead head s)

/-- HEAD SELECTED (R111, R112). -/
def execHeadSelected (p : Port) (tag sequence head : Byte) (s : State) : Host.Outcome State Fault Refusal :=
  .next (request (.headSelected p tag sequence head) p { senders := [.adapter] } (fun s =>
    if 15 < head.toNat then refuse p tag .badArgument s
    else refuse p tag (headReport sequence head.toNat s).1 (headReport sequence head.toNat s).2) s)

/-- A head request the drive adapter declines: the request ends REFUSED and the active job HEAD_FAULT (R113). -/
def refuseHead (reason : Byte) (s : State) : State := endJob .headFault (endHead (.refused reason.toNat) s)

/-- HEAD REFUSED (R113). -/
def execHeadRefused (p : Port) (tag sequence reason : Byte) (s : State) : Host.Outcome State Fault Refusal :=
  .next (request (.headRefused p tag sequence reason) p { senders := [.adapter] } (fun s =>
    match s.headMatching sequence with
    | none => refuse p tag .staleSequence s
    | some r => match r.phase with
      | .requested => reply p tag [] (refuseHead reason s)
      | .taken => reply p tag [] (refuseHead reason s)
      | .delay => refuse p tag .tooLate s
      | .ready => refuse p tag .tooLate s) s)

/-- HEAD_SELECT_TIMEOUT_EXPIRY: the running timeout reaches 0, the request ends TIMED_OUT and the active job HEAD_FAULT
(R114). -/
def execHeadSelectTimeoutExpiry (s : State) : Host.Outcome State Fault Refusal :=
  .next (match s.handshake.headTimeout with
    | .running _ => endJob .headFault (timeOutHead s)
    | .stopped => s
    | .paused _ => s)

/-- Whether the head handshake is in the head settle delay. -/
def HandshakeUnit.inDelay (h : HandshakeUnit) : Bool :=
  match h.head with
  | some r => r.phase == .delay
  | none => false

/-- HEAD_SETTLE_TIMER_EXPIRY: in DELAY the head handshake becomes READY (R115). -/
def execHeadSettleTimerExpiry (s : State) : Host.Outcome State Fault Refusal :=
  .next (if s.handshake.inDelay = true then headReady s else s)

/-! ### READ HANDSHAKE (R120) -/

/-- The end of a move request in READ HANDSHAKE: its kind in the order of R100, its sequence, and its reason or cause, 0 where
it has none (log entry 8). -/
def moveEndBytes (e : MoveEnd × Nat) : List Byte :=
  match e.1 with
  | .released => u8 0 ++ u8 e.2 ++ u8 0
  | .refused reason => u8 1 ++ u8 e.2 ++ u8 reason
  | .timedOut => u8 2 ++ u8 e.2 ++ u8 0
  | .withdrawn c => u8 3 ++ u8 e.2 ++ u8 c.code

/-- The end of a head request in READ HANDSHAKE: its kind in the order of R100, its sequence, and its reason, cause or reported
head, 0 where it has none (log entry 8). -/
def headEndBytes (e : HeadEnd × Nat) : List Byte :=
  match e.1 with
  | .released => u8 0 ++ u8 e.2 ++ u8 0
  | .reissued => u8 1 ++ u8 e.2 ++ u8 0
  | .refused reason => u8 2 ++ u8 e.2 ++ u8 reason
  | .mismatch head => u8 3 ++ u8 e.2 ++ u8 head
  | .timedOut => u8 4 ++ u8 e.2 ++ u8 0
  | .withdrawn c => u8 5 ++ u8 e.2 ++ u8 c.code

/-- A timeout's remaining time in ms, and whether it runs, 0, or is paused, 1 (R120; log entries 5 and 8). -/
def Timer.report : Timer → Option (List Byte)
  | .running t => some (u16 (milliseconds t) ++ u8 0)
  | .paused t => some (u16 (milliseconds t) ++ u8 1)
  | .stopped => none

/-- The head timer that runs: a byte that names it, and its remaining time in ms (R120). DESIGN CHOICE: two bytes for either timer,
because they share the item, though the head settle timer's 0..255 ms would need one (log entry 8). -/
def HandshakeUnit.headTimer (h : HandshakeUnit) : Option (List Byte) :=
  match h.headTimeout, h.headSettle with
  | .running t, _ => some (u8 0 ++ u16 (milliseconds t))
  | _, .running t => some (u8 1 ++ u16 (milliseconds t))
  | _, _ => none

/-- The payload of READ HANDSHAKE (R120). -/
def HandshakeUnit.report (h : HandshakeUnit) : List Byte :=
  u8 h.moveCode
    ++ optional 5 (h.move.map MoveRequest.bytes)
    ++ optional 3 (h.move.bind fun _ => h.moveTimeout.report)
    ++ optional 3 (h.lastMoveEnd.map moveEndBytes)
    ++ u8 h.headCode
    ++ optional 3 (h.head.map HeadRequest.bytes)
    ++ optional 3 (h.head.bind fun _ => h.headTimer)
    ++ optional 3 (h.lastHeadEnd.map headEndBytes)
    ++ optional 1 (h.selected.map u8)
    ++ u8 h.moveSequence ++ u8 h.headSequence

/-- READ HANDSHAKE (R120). -/
def execReadHandshake (p : Port) (tag : Byte) (s : State) : Host.Outcome State Fault Refusal :=
  .next (request (.readHandshake p tag) p { senders := everyPort } (fun s =>
    reply p tag s.handshake.report s) s)

end Sys2Proof.Machine
end

