-- ==== Sys2Proof/Machine/Servo.lean ====
section
/-! DEFINITION. The commands of the Sample Path: wedge arrivals, index pulses, the servo loss timeout, the taking of a sample and
READ SERVO (R38 to R42, R44, R59 to R79). -/

namespace Sys2Proof.Machine

/-- The Sample Path of the state replaced. -/
def State.setSample (s : State) (sp : SamplePath) : State := { s with sample := sp }

/-! ### Numbering (R61, R63) -/

/-- The number of wedges after which the counter wraps: W, or 512 while no profile is in force (R61, R63). -/
def State.wedgesPerRevolution (s : State) : Nat := if s.store.inForce = true then s.store.profile.wedges else 512

/-- The revolution count raised by 1; it wraps at 2^32 (R61). -/
def SamplePath.nextRevolution (sp : SamplePath) : SamplePath := { sp with revolutions := (sp.revolutions + 1) % 4294967296 }

/-- The counter advances past an arrival, and past the last wedge it returns to 0 and the revolution count rises (R61). -/
def SamplePath.advance (wedges : Nat) (sp : SamplePath) : SamplePath :=
  if wedges ≤ sp.wedge + 1 then { sp with wedge := 0 }.nextRevolution else { sp with wedge := sp.wedge + 1 }

/-! ### Servo lock (R65 to R68) -/

/-- A duration in ms as the running loss timeout (R68). -/
def startLoss (ms : Nat) : LossTimer := .running (ms * 1000)

/-- The servo becomes LOST: the FIFO is flushed, the loss timeout starts while a profile is in force, and SERVO LOST goes to
Port W (R66, R68). A dwell in progress pauses by the gate alone (R41). -/
def servoLost (s : State) : State :=
  let s := flushFifo (s.setSample { s.sample with
    locked := false, missedRun := 0, goodRun := 0
    loss := if s.store.inForce = true then startLoss s.store.profile.servoLossTimeout else .stopped })
  post .servo (.servoLost s.sample.revolutions) .workstation s

/-- The servo becomes LOCKED: the loss timeout stops and SERVO REGAINED goes to Port W (R67). -/
def servoRegained (s : State) : State :=
  let s := s.setSample { s.sample with locked := true, missedRun := 0, goodRun := 0, loss := .stopped }
  post .servo (.servoRegained s.sample.revolutions) .workstation s

/-- The lock judgment of one arrival (R65). -/
def judgeLock (good : Bool) (s : State) : State :=
  if s.sample.locked = true then
    if good = true then s.setSample { s.sample with missedRun := 0 }
    else if 8 ≤ s.sample.missedRun + 1 then servoLost s
    else s.setSample { s.sample with missedRun := s.sample.missedRun + 1 }
  else
    if good = true then
      if 4 ≤ s.sample.goodRun + 1 then servoRegained s
      else s.setSample { s.sample with goodRun := s.sample.goodRun + 1 }
    else s.setSample { s.sample with goodRun := 0 }

/-! ### The gate and the FIFO (R69 to R71) -/

/-- The sample gate for an arrival with a wedge number (R69). -/
def State.gateOpen (s : State) (number : Nat) : Bool :=
  s.engine.state == .dwell && (s.handshake.move.map MoveRequest.phase == some .settled)
    && (s.handshake.head.map HeadRequest.phase == some .ready) && s.sample.locked
    && decide (number % s.engine.dwell.stride = 0)

/-- A record the gate admits: it joins the FIFO, or finds it full and is counted as an overrun and as a reject of the dwell
(R70, R71, R39). -/
def joinFifo (r : WedgeRecord) (s : State) : State :=
  if s.sample.fifo.length < Config.fifoSlots then s.setSample { s.sample with fifo := s.sample.fifo ++ [r] }
  else countReject (s.setSample { s.sample with overruns := satSucc 65535 s.sample.overruns })

/-- A wedge arrival taken whole: numbering, lock, gate (R60). -/
def wedgeArrival (r : WedgeRecord) (s : State) : State :=
  let number := s.sample.wedge
  let s := judgeLock r.sync (s.setSample (s.sample.advance s.wedgesPerRevolution))
  if s.gateOpen number = true then joinFifo r s else s

/-- The wedge window starts with the profile's duration, and does not run while no profile is in force (R64). -/
def startWindow (s : State) : State :=
  s.setSample { s.sample with window := if s.store.inForce = true then .running s.store.profile.wedgeWindow else .stopped }

/-- The record a window expiry leaves in the FIFO: its clear sync flag is all it means (R60). -/
def missedWedge : WedgeRecord := ⟨false, false, 0, 0, 0, 0, 0⟩

/-- WEDGE_RECORD (R60, R64). -/
def execWedgeRecord (r : WedgeRecord) (s : State) : Host.Outcome State Fault Refusal :=
  .next (wedgeArrival r (startWindow s))

/-- WEDGE_WINDOW_EXPIRY: a missed wedge, and the window starts again (R60, R64). -/
def execWedgeWindowExpiry (s : State) : Host.Outcome State Fault Refusal :=
  .next (match s.sample.window with
    | .running _ => wedgeArrival missedWedge (startWindow s)
    | .stopped => s
    | .paused _ => s)

/-! ### The index pulse (R62, R63) -/

/-- An alignment: the counter becomes 0 and the revolution count rises; with no profile in force it stays unaligned (R63). -/
def alignCounter (s : State) : State :=
  s.setSample { s.sample with wedge := 0, aligned := s.store.inForce }.nextRevolution

/-- A dwell in progress restarts at once at the same position, its stride kept (R42, R62). -/
def restartDwell (s : State) : State :=
  if s.engine.state = .dwell then s.setEngine { s.engine with dwell := s.engine.dwell.cleared } else s

/-- An index slip (R62). -/
def indexSlip (s : State) : State :=
  let found := s.sample.wedge
  let s := s.setSample { s.sample with wedge := 0, slips := satSucc 65535 s.sample.slips }.nextRevolution
  restartDwell (post .servo (.slip found) .workstation (flushFifo s))

/-- INDEX_PULSE (R62, R63). -/
def execIndexPulse (s : State) : Host.Outcome State Fault Refusal :=
  .next (if s.sample.aligned = false ∨ s.store.inForce = false then alignCounter s
    else if s.sample.wedge = 0 then s
    else indexSlip s)

/-! ### The servo loss timeout (R44, R68) -/

/-- Whether the loss timeout's expiry ends the active job (R44). -/
def State.lossEnds (s : State) : Bool :=
  s.measuring && match s.engine.state with
    | .dwell => true
    | .settling => true
    | .headWait => s.handshake.head.map HeadRequest.phase == some .delay
    | _ => false

/-- SERVO_LOSS_TIMEOUT_EXPIRY (R68, R44). -/
def execServoLossTimeoutExpiry (s : State) : Host.Outcome State Fault Refusal :=
  .next (match s.sample.loss with
    | .running _ =>
      let s := s.setSample { s.sample with loss := .expired }
      if s.lossEnds = true then endJob .servoLost s else s
    | .stopped => s
    | .expired => s)

/-! ### Classification (R73 to R77) -/

/-- The result of classifying a record (R38, R73 to R76). -/
inductive Class where
  | accepted (ptot : Int)
  | noSync
  | dropout
  | noTid
  | far
deriving DecidableEq, Repr

/-- The value of a burst pair: (x − y) × 2048 / (x + y), truncated (R74). -/
def burstValue (x y : BitVec 12) : Int := (((x.toNat : Int) - y.toNat) * 2048).tdiv ((x.toNat : Int) + y.toNat)

/-- The in-track position P, none for a dropout of the quadrature pair (R74). -/
def inTrack (floor : Nat) (r : WedgeRecord) : Option Int :=
  let n := burstValue r.a r.b
  if -1024 ≤ n ∧ n ≤ 1024 then some n
  else if r.c.toNat + r.d.toNat < floor then none
  else
    let q := (burstValue r.c r.d).natAbs
    some (if 1024 < n then 2048 - q else -(2048 - q))

/-- A record classified against a burst floor and a target track, in the order of R73 to R76. -/
def classify (floor target : Nat) (r : WedgeRecord) : Class :=
  if r.sync = false then .noSync
  else if r.a.toNat + r.b.toNat < floor then .dropout
  else match inTrack floor r with
    | none => .dropout
    | some p =>
      if r.tidValid = false then .noTid
      else
        let d := signed16 ((r.tid.toNat : Int) - target)
        if 7 < d.natAbs then .far else .accepted (d * 4096 + p)

/-- The target track of the dwell: the zone table's for the active job's zone (R37). -/
def State.targetTrack (s : State) : Nat :=
  match s.engine.active with
  | some r => match r.job.work.place with
    | some (_, z) => (s.store.profile.zoneTrack[z]?).getD 0
    | none => 0
  | none => 0

/-- A classified record is counted by its kind (R77). -/
def SamplePath.countKind (c : Class) (sp : SamplePath) : SamplePath :=
  match c with
  | .accepted _ => sp
  | .noSync => { sp with noSync := satSucc 65535 sp.noSync }
  | .dropout => { sp with dropout := satSucc 65535 sp.dropout }
  | .noTid => { sp with noTid := satSucc 65535 sp.noTid }
  | .far => { sp with far := satSucc 65535 sp.far }

/-- A classified record is applied to the dwell (R38). -/
def applyClass (c : Class) (s : State) : State :=
  match c with
  | .accepted ptot => countAccept ptot s
  | .noSync => countReject s
  | .dropout => countReject s
  | .noTid => countReject s
  | .far => countReject s

/-- The oldest record is taken from the FIFO, classified, counted and applied (R38, R71, R77). -/
def takeSample (r : WedgeRecord) (rest : List WedgeRecord) (s : State) : State :=
  let c := classify s.store.profile.burstFloor s.targetTrack r
  applyClass c (s.setSample ({ s.sample with fifo := rest }.countKind c))

/-- SAMPLE_TAKE (R38). -/
def execSampleTake (s : State) : Host.Outcome State Fault Refusal :=
  .next (if s.engine.state = .dwell then
    match s.sample.fifo with
    | r :: rest => takeSample r rest s
    | [] => s
  else s)

/-! ### READ SERVO (R78) -/

/-- The loss timeout state byte (R68, R196). -/
def LossTimer.code : LossTimer → Nat
  | .stopped => 0
  | .running _ => 1
  | .expired => 2

/-- The payload of READ SERVO (R78); the servo state is 0 for LOST and 1 for LOCKED (R65, R196). DESIGN CHOICE: the counter's
alignment is 1 for yes and 0 for no (log entry 8). -/
def SamplePath.report (sp : SamplePath) : List Byte :=
  flag sp.locked ++ u8 sp.loss.code ++ flag sp.aligned ++ u16 sp.wedge ++ u32 sp.revolutions
    ++ u8 sp.missedRun ++ u8 sp.goodRun ++ u8 sp.fifo.length
    ++ u16 sp.slips ++ u16 sp.overruns ++ u16 sp.noSync ++ u16 sp.dropout ++ u16 sp.noTid ++ u16 sp.far

/-- The counts the clear form sets to 0 (R78). -/
def SamplePath.cleared (sp : SamplePath) : SamplePath :=
  { sp with slips := 0, overruns := 0, noSync := 0, dropout := 0, noTid := 0, far := 0 }

/-- READ SERVO (R78). -/
def execReadServo (p : Port) (tag clear : Byte) (s : State) : Host.Outcome State Fault Refusal :=
  .next (request (.readServo p tag clear) p { senders := everyPort } (fun s =>
    match flagArg clear with
    | none => refuse p tag .badArgument s
    | some false => reply p tag s.sample.report s
    | some true =>
      if p ≠ .workstation then refuse p tag .wrongPort s
      else reply p tag s.sample.report (s.setSample s.sample.cleared)) s)

end Sys2Proof.Machine
end

