-- ==== Sys2Proof/Machine/Params.lean ====
section
/-! DEFINITION. The parameters of a profile and the slot image: ranges, clamps, adjustments, encoding and judging (R198, R199,
R203). -/

namespace Sys2Proof.Machine

/-! ### Parameters by number (R198) -/

/-- A value of a profile by parameter number and index (R198). -/
def Profile.param (pr : Profile) (n i : Nat) : Int :=
  match n with
  | 1 => pr.headCount
  | 2 => pr.zoneCount
  | 3 => pr.referenceHead
  | 4 => pr.wedges
  | 5 => pr.sampleExponent
  | 6 => pr.countsPerTrack
  | 7 => pr.step
  | 8 => pr.searchRange
  | 9 => pr.nullTolerance
  | 10 => pr.maxIterations
  | 11 => pr.gainFloor
  | 12 => pr.spreadLimit
  | 13 => pr.rejectLimit
  | 14 => pr.burstFloor
  | 15 => pr.settleWindow
  | 16 => pr.settleTime
  | 17 => pr.headSettleDelay
  | 18 => pr.moveTimeout
  | 19 => pr.headSelectTimeout
  | 20 => pr.servoLossTimeout
  | 21 => pr.wedgeWindow
  | 22 => pr.driftLimit
  | 23 => pr.driftInterval
  | 24 => pr.travelLow
  | 25 => pr.travelHigh
  | 26 => pr.homeValue
  | 27 => pr.filterLength
  | 28 => (pr.zoneCentre[i]?).getD 0
  | 29 => ((pr.zoneTrack[i]?).getD 0 : Nat)
  | _ => pr.defaultSlot

/-- A profile with one value replaced, by parameter number and index (R198). -/
def Profile.withParam (pr : Profile) (n i : Nat) (v : Int) : Profile :=
  match n with
  | 1 => { pr with headCount := v.toNat }
  | 2 => { pr with zoneCount := v.toNat }
  | 3 => { pr with referenceHead := v.toNat }
  | 4 => { pr with wedges := v.toNat }
  | 5 => { pr with sampleExponent := v.toNat }
  | 6 => { pr with countsPerTrack := v.toNat }
  | 7 => { pr with step := v.toNat }
  | 8 => { pr with searchRange := v.toNat }
  | 9 => { pr with nullTolerance := v.toNat }
  | 10 => { pr with maxIterations := v.toNat }
  | 11 => { pr with gainFloor := v.toNat }
  | 12 => { pr with spreadLimit := v.toNat }
  | 13 => { pr with rejectLimit := v.toNat }
  | 14 => { pr with burstFloor := v.toNat }
  | 15 => { pr with settleWindow := v.toNat }
  | 16 => { pr with settleTime := v.toNat }
  | 17 => { pr with headSettleDelay := v.toNat }
  | 18 => { pr with moveTimeout := v.toNat }
  | 19 => { pr with headSelectTimeout := v.toNat }
  | 20 => { pr with servoLossTimeout := v.toNat }
  | 21 => { pr with wedgeWindow := v.toNat }
  | 22 => { pr with driftLimit := v.toNat }
  | 23 => { pr with driftInterval := v.toNat }
  | 24 => { pr with travelLow := v }
  | 25 => { pr with travelHigh := v }
  | 26 => { pr with homeValue := v }
  | 27 => { pr with filterLength := v.toNat }
  | 28 => { pr with zoneCentre := pr.zoneCentre.setIfInBounds i v }
  | 29 => { pr with zoneTrack := pr.zoneTrack.setIfInBounds i v.toNat }
  | _ => { pr with defaultSlot := v.toNat }

/-- The range of a parameter; that of the reference head follows the head count, and that of travel high follows travel low
(R198). -/
def Profile.range (pr : Profile) (n : Nat) : Int × Int :=
  match n with
  | 1 => (1, 16)
  | 2 => (1, 12)
  | 3 => (0, (pr.headCount : Int) - 1)
  | 4 => (32, 512)
  | 5 => (0, 6)
  | 6 => (64, 8192)
  | 7 => (1, 1023)
  | 8 => (16, 65535)
  | 9 => (1, 2048)
  | 10 => (1, 8)
  | 11 => (1, 32767)
  | 12 => (16, 16383)
  | 13 => (0, 255)
  | 14 => (16, 4095)
  | 15 => (1, 255)
  | 16 => (0, 255)
  | 17 => (0, 255)
  | 18 => (10, 5000)
  | 19 => (10, 5000)
  | 20 => (10, 5000)
  | 21 => (20, 2000)
  | 22 => (1, 65535)
  | 23 => (0, 255)
  | 24 => (-8388608, 8388606)
  | 25 => (pr.travelLow + 1, 8388607)
  | 26 => (-8388608, 8388607)
  | 27 => (1, 8)
  | 28 => (-8388608, 8388607)
  | 29 => (0, 65535)
  | _ => (0, 3)

/-- A value clamped as a load clamps it: to the nearer bound of its range, W then down to a multiple of 8, and a default slot
outside its range to 0 (R199; for a negative one, log entry 6). -/
def Profile.clampParam (pr : Profile) (n : Nat) (v : Int) : Int :=
  let lo := (pr.range n).1
  let hi := (pr.range n).2
  if n = 4 then clampInt lo hi v / 8 * 8
  else if n = 30 then (if lo ≤ v ∧ v ≤ hi then v else 0)
  else clampInt lo hi v

/-- The number of indices a parameter takes (R198). -/
def paramCount (n : Nat) : Nat := if n = 28 ∨ n = 29 then 12 else 1

/-- The bytes of a parameter in a slot image (R198). -/
def paramWidth (n : Nat) : Nat :=
  match n with
  | 4 => 2
  | 6 => 2
  | 7 => 2
  | 8 => 2
  | 9 => 2
  | 11 => 2
  | 12 => 2
  | 14 => 2
  | 18 => 2
  | 19 => 2
  | 20 => 2
  | 21 => 2
  | 22 => 2
  | 29 => 2
  | 24 => 3
  | 25 => 3
  | 26 => 3
  | 28 => 3
  | _ => 1

/-- The parameters an image holds in its parameter bytes, in number and then index order: 1 to 29 (R198). -/
def imageParams : List (Nat × Nat) :=
  (List.range' 1 29).flatMap fun n => (List.range (paramCount n)).map fun i => (n, i)

/-- Every value of a profile, in number and then index order (R198). -/
def allParams : List (Nat × Nat) := imageParams ++ [(30, 0)]

/-- The values of a profile in number and then index order. -/
def Profile.values (pr : Profile) : List Int := allParams.map fun x => pr.param x.1 x.2

/-! ### Clamping a whole profile (R199) -/

/-- One value of a profile clamped in place. -/
def Profile.clampAt (pr : Profile) (x : Nat × Nat) : Profile := pr.withParam x.1 x.2 (pr.clampParam x.1 (pr.param x.1 x.2))

/-- A profile clamped in parameter-number order, so that the reference head is held against the clamped head count and travel
high against the clamped travel low (R199). -/
def Profile.clampAll (pr : Profile) : Profile := allParams.foldl Profile.clampAt pr

/-- The number of values in which two profiles differ (R201). -/
def Profile.changes (pr pr' : Profile) : Nat := ((pr.values.zip pr'.values).filter fun x => x.1 != x.2).length

/-! ### Images (R198) -/

/-- The slot sum: the bytes added up, plus 1, modulo 65536 (R198). -/
def slotSum (bytes : List Byte) : Nat := ((bytes.map BitVec.toNat).sum + 1) % 65536

/-- The bytes of an image before its slot sum (R198). -/
def imageBody : Nat := 254

/-- The image of a profile: default-slot byte, parameters, zeros, slot sum (R198, R202). -/
def Profile.image (pr : Profile) : List Byte :=
  let body := u8 pr.defaultSlot ++ imageParams.flatMap fun x => le (paramWidth x.1) (pr.param x.1 x.2)
  let bytes := body ++ List.replicate (imageBody - body.length) 0
  bytes ++ u16 (slotSum bytes)

/-- Whether an image is good (R198). -/
def goodImage (bytes : List Byte) : Bool :=
  decide (bytes.length = 256) && fromLe (bytes.drop imageBody) == slotSum (bytes.take imageBody)

/-- The value a parameter's bytes spell: the 3-byte ones are signed counts, the others unsigned (R196, R198). -/
def paramOf (n : Nat) (bytes : List Byte) : Int := if paramWidth n = 3 then signed24 (fromLe bytes) else fromLe bytes

/-- Parameters read off the front of a byte list in turn. -/
def readParams : List (Nat × Nat) → List Byte → Profile → Profile
  | [], _, pr => pr
  | (n, i) :: rest, bytes, pr =>
    readParams rest (bytes.drop (paramWidth n)) (pr.withParam n i (paramOf n (bytes.take (paramWidth n))))

/-- The profile an image holds, before clamping (R198). -/
def rawProfile (bytes : List Byte) : Profile :=
  readParams imageParams (bytes.drop 1) { Profile.reset with defaultSlot := (bytes.getD 0 0).toNat }

/-! ### Changing one value (R203) -/

/-- The adjustments that keep a profile consistent: the reference head below the head count, travel high above travel low
(R203). -/
def Profile.adjust (pr : Profile) : Profile :=
  { pr with
    referenceHead := if pr.headCount < pr.referenceHead + 1 then pr.headCount - 1 else pr.referenceHead
    travelHigh := if pr.travelHigh ≤ pr.travelLow then pr.travelLow + 1 else pr.travelHigh }

/-- The profile after one value is set, with its adjustments (R203). -/
def Profile.setParam (pr : Profile) (n i : Nat) (v : Int) : Profile := (pr.withParam n i (pr.clampParam n v)).adjust

/-- Whether SET PARAMETER clamped the value or adjusted another parameter (R203). -/
def Profile.setClamps (pr : Profile) (n i : Nat) (v : Int) : Bool :=
  pr.clampParam n v != v || pr.setParam n i v != pr.withParam n i (pr.clampParam n v)

/-- A parameter number and index that name a value: 1..30, the index 0..11 for 28 and 29 and 0 for every other (R203). -/
def paramArg (number index : Byte) : Option (Nat × Nat) :=
  if 1 ≤ number.toNat ∧ number.toNat ≤ 30 ∧ index.toNat < paramCount number.toNat then some (number.toNat, index.toNat)
  else none

end Sys2Proof.Machine
end

