-- ==== Sys2Proof/Machine/Store.lean ====
section
/-! DEFINITION. The commands of the Profile Store: SELECT PROFILE, SAVE PROFILE, SET PARAMETER, READ PARAMETER, and the ends of a
load and of a save (R198 to R204). -/

namespace Sys2Proof.Machine

/-- The Profile Store of the state replaced. -/
def State.setStore (s : State) (st : ProfileStore) : State := { s with store := st }

/-- The BUSY checks (R200). -/
def State.storeBusy (s : State) : Bool :=
  (match s.store.state with
    | .loading _ => true
    | .saving _ => true
    | .ready => false
    | .noProfile => false)
  || s.engine.state != .idle || !s.jobs.queue.isEmpty || !s.stack.isEmpty

/-- A slot argument: 0..3 (R201, R202). -/
def slotArg (b : Byte) : Option Nat := if b.toNat ≤ 3 then some b.toNat else none

/-- The four requests of the store come from Port W, and their own rules take the place of NOT_READY and NO_PROFILE (R200). -/
def storeAccess : Access := { senders := [.workstation] }

/-! ### SELECT PROFILE and the load (R199, R201) -/

/-- SELECT PROFILE (R201): the store becomes LOADING, and the response waits for the load. -/
def execSelectProfile (p : Port) (tag slot : Byte) (s : State) : Host.Outcome State Fault Refusal :=
  .next (request (.selectProfile p tag slot) p storeAccess (fun s =>
    match slotArg slot with
    | none => refuse p tag .badArgument s
    | some n =>
      if s.storeBusy = true then refuse p tag .busy s
      else s.setStore { s.store with state := .loading (some n) }) s)

/-- The slot a load reads: the one SELECT PROFILE named, else the default-slot byte's if it is 0..3, else slot 0 (R199). -/
def loadSlot (selected : Option Nat) (defaultByte : Option Byte) : Nat :=
  match selected, defaultByte with
  | some n, _ => n
  | none, some b => (slotArg b).getD 0
  | none, none => 0

/-- The wedge counter becomes 0 and unaligned (R63). -/
def unalign (s : State) : State := { s with sample := { s.sample with wedge := 0, aligned := false } }

/-- What every completed load does beside the table (R199). -/
def loadEffects (s : State) : State := unalign (clearDrift (dropHome s))

/-- The wedge window starts, and with the servo LOST the loss timeout, when a profile comes into force after a period with none
(R64, R68). -/
def startSampleTimers (s : State) : State :=
  { s with sample := { s.sample with
      window := .running s.store.profile.wedgeWindow
      loss := if s.sample.locked = true then s.sample.loss else .running (s.store.profile.servoLossTimeout * 1000) } }

/-- The effects of a good load: the clamped profile is in force, F follows it, and the timers start if none was before; the travel
state is then re-evaluated (R199, R90). -/
def goodLoad (slot : Nat) (pr : Profile) (s : State) : State :=
  let before := s.store.inForce
  let s := s.setStore { state := .ready, profile := pr, slot := some slot, owedW := none, owedP := none }
  let s := { s with frame := { s.frame with filterLength := pr.filterLength } }
  testTravel (if before = true then s else startSampleTimers s)

/-- A FAULT notice of a failed load at one port: posted if it is ATTACHED, owed otherwise (R199). -/
def postOrOwe (p : Port) (slot : Nat) (s : State) : State :=
  if (s.port p).attached = true then post .fault (.profile slot) p s
  else match p with
    | .workstation => s.setStore { s.store with owedW := some slot }
    | .positioner => s.setStore { s.store with owedP := some slot }
    | .adapter => s

/-- The effects of a bad load: no profile is in force, the travel state is UNTESTED, the wedge window and the loss timeout stop,
and Port W and Port P are told (R199, R64, R68). -/
def badLoad (slot : Nat) (s : State) : State :=
  let s := s.setStore { s.store with state := .noProfile, slot := none }
  let s := { s with
    frame := { s.frame with travel := .untested }
    sample := { s.sample with window := .stopped, loss := .stopped } }
  postOrOwe .positioner slot (postOrOwe .workstation slot s)

/-- The profile a load brings into force, none where its image is bad or was not read (R199). -/
def loadedProfile (image : Option (List Byte)) : Option Profile :=
  match image with
  | some bytes => if goodImage bytes = true then some (rawProfile bytes).clampAll else none
  | none => none

/-- The number of values a good load's clamping changed (R201). -/
def loadChanges (image : Option (List Byte)) : Nat :=
  match image with
  | some bytes => (rawProfile bytes).changes (rawProfile bytes).clampAll
  | none => 0

/-- The load's effects but for the table, and the engine's conditions tested now that the store may be READY (R138, R199). -/
def completeLoad (slot : Nat) (loaded : Option Profile) (s : State) : State :=
  match loaded with
  | some pr => advance (goodLoad slot pr (loadEffects s))
  | none => badLoad slot (loadEffects s)

/-- The store state in the SELECT PROFILE payload: 0 READY, 1 NO_PROFILE, as R201 lists them (R196; log entry 8). -/
def loadCode (loaded : Option Profile) : Nat := if loaded.isSome = true then 0 else 1

/-- PROFILE_LOAD_COMPLETE (R199). At power-on the table is empty already; for SELECT PROFILE it is emptied under Port W's grant,
and the response follows (R26, R201). -/
def execProfileLoadComplete (defaultByte : Option Byte) (image : Option (List Byte)) (s : State) :
    Host.Outcome State Fault Refusal :=
  .next (match s.store.state with
    | .loading selected =>
      let slot := loadSlot selected defaultByte
      let loaded := loadedProfile image
      let changed := if loaded.isSome = true then loadChanges image else 0
      let s := completeLoad slot loaded s
      match selected with
      | none => emptyTable s
      | some _ => askGrant .w (.emptyTable (changed != 0) (u8 (loadCode loaded) ++ u8 slot ++ u8 changed)) s
    | .ready => s
    | .noProfile => s
    | .saving _ => s)

/-! ### SAVE PROFILE (R202) -/

/-- SAVE PROFILE (R202): the store becomes SAVING, and the response waits for the read-back. -/
def execSaveProfile (p : Port) (tag slot : Byte) (s : State) : Host.Outcome State Fault Refusal :=
  .next (request (.saveProfile p tag slot) p storeAccess (fun s =>
    match slotArg slot with
    | none => refuse p tag .badArgument s
    | some n =>
      if s.storeBusy = true then refuse p tag .busy s
      else if s.store.state = .noProfile then refuse p tag .noProfile s
      else s.setStore { s.store with state := .saving n }) s)

/-- Whether a save was written: the slot reads back as the image of profile RAM (R202). -/
def ProfileStore.written (st : ProfileStore) (readBack : Option (List Byte)) : Bool := readBack == some st.profile.image

/-- PROFILE_SAVE_COMPLETE (R202): the write result is 0 WRITTEN or 1 FAILED, and a failure is posted to Port W and Port P. -/
def execProfileSaveComplete (readBack : Option (List Byte)) (s : State) : Host.Outcome State Fault Refusal :=
  .next (match s.store.state with
    | .saving slot =>
      let written := s.store.written readBack
      let s := advance (s.setStore { s.store with state := .ready })
      answerPending .workstation { payload := u8 slot ++ flag !written }
        (if written = true then s else postFault (.profile slot) s)
    | .loading _ => s
    | .ready => s
    | .noProfile => s)

/-! ### SET PARAMETER and READ PARAMETER (R203, R204) -/

/-- Whether a parameter's change empties the table (R26, R203). -/
def emptiesTable (n : Nat) : Bool := n == 1 || n == 2 || n == 3 || n == 28 || n == 29

/-- What an accepted change does beside profile RAM and the table (R203). -/
def paramEffects (n : Nat) (s : State) : State :=
  if n = 4 then unalign s
  else if n = 23 then clearDrift s
  else if n = 27 then { s with frame := { s.frame with filterLength := s.store.profile.filterLength } }
  else if n = 24 ∨ n = 25 then testTravel s
  else s

/-- SET PARAMETER accepted: the value is stored, its effects follow, and the response carries the stored value, after the table
has been emptied where the parameter asks for it (R203). -/
def setParameter (p : Port) (tag : Byte) (n i : Nat) (v : Int) (s : State) : State :=
  let clamped := s.store.profile.setClamps n i v
  let payload := le 4 (s.store.profile.clampParam n v)
  let s := paramEffects n (s.setStore { s.store with profile := s.store.profile.setParam n i v })
  if emptiesTable n = true then askGrant (Port.client p) (.emptyTable clamped payload) s
  else answer p tag { clamped := clamped, payload := payload } s

/-- SET PARAMETER (R203). -/
def execSetParameter (p : Port) (tag number index : Byte) (value : ValueWord) (s : State) : Host.Outcome State Fault Refusal :=
  .next (request (.setParameter p tag number index value) p storeAccess (fun s =>
    match paramArg number index with
    | none => refuse p tag .badArgument s
    | some (n, i) =>
      if s.storeBusy = true then refuse p tag .busy s
      else if s.store.state = .noProfile then refuse p tag .noProfile s
      else setParameter p tag n i value.toInt s) s)

/-- READ PARAMETER (R204). -/
def execReadParameter (p : Port) (tag number index : Byte) (s : State) : Host.Outcome State Fault Refusal :=
  .next (request (.readParameter p tag number index) p storeAccess (fun s =>
    match paramArg number index with
    | none => refuse p tag .badArgument s
    | some (n, i) => match s.store.state with
      | .loading _ => refuse p tag .notReady s
      | .noProfile => refuse p tag .noProfile s
      | .ready => reply p tag (le 4 (s.store.profile.param n i)) s
      | .saving _ => reply p tag (le 4 (s.store.profile.param n i)) s) s)

end Sys2Proof.Machine
end

