-- ==== Sys2Proof/Machine/TableRequests.lean ====
section
/-! DEFINITION. The table requests of the ports, the reads, the arbiter's settings, and the events that end a port's operation under
the grant (R1, R12, R21 to R25, R156 to R170). A request that needs the grant asks for it and leaves its slot PENDING; its
operation's effect and its response come with TABLE_OPERATION_END or, for a block read, with BLOCK_READ_ASSEMBLY or a cut. -/

namespace Sys2Proof.Machine

/-- The checks of R1 on a request that names an entry. -/
def State.tableCheck (s : State) (p : Port) (head zone : Nat) : Option Status :=
  if s.store.profile.holds head zone = false then some .badArgument
  else if (s.port p).window.inside head = false then some .outOfWindow
  else none

/-- A request that names an entry asks for the grant once its checks pass (R1, R157). -/
def askForEntry (p : Port) (tag : Byte) (head zone : Nat) (op : TableOp) (s : State) : State :=
  match s.tableCheck p head zone with
  | some st => refuse p tag st s
  | none => askGrant (Port.client p) op s

/-! ### Port W's table requests (R12, R21 to R25) -/

/-- PUBLISH (R12). -/
def execPublish (p : Port) (tag : Byte) (s : State) : Host.Outcome State Fault Refusal :=
  .next (request (.publish p tag) p { senders := [.workstation], profile := true } (askGrant (Port.client p) .publish) s)

/-- DISCARD STAGED (R21): form 0 names one entry, form 1 is the all form, whose head and zone are not examined (R196). -/
def execDiscardStaged (p : Port) (tag form head zone : Byte) (s : State) : Host.Outcome State Fault Refusal :=
  .next (request (.discardStaged p tag form head zone) p { senders := [.workstation], profile := true } (fun s =>
    match flagArg form with
    | none => refuse p tag .badArgument s
    | some true => askGrant (Port.client p) .discardAll s
    | some false => askForEntry p tag head.toNat zone.toNat (.discardEntry head.toNat zone.toNat) s) s)

/-- SEED ENTRY (R22): form 0 sets the count, form 1 removes the seed (R196). -/
def execSeedEntry (p : Port) (tag head zone form : Byte) (count : CountWord) (s : State) :
    Host.Outcome State Fault Refusal :=
  .next (request (.seedEntry p tag head zone form count) p { senders := [.workstation], profile := true } (fun s =>
    match flagArg form with
    | none => refuse p tag .badArgument s
    | some true => askForEntry p tag head.toNat zone.toNat (.seed head.toNat zone.toNat none) s
    | some false => askForEntry p tag head.toNat zone.toNat (.seed head.toNat zone.toNat (some count.toInt)) s) s)

/-- CLEAR ENTRY (R23). The entry's status is examined when the grant is given. -/
def execClearEntry (p : Port) (tag head zone : Byte) (s : State) : Host.Outcome State Fault Refusal :=
  .next (request (.clearEntry p tag head zone) p { senders := [.workstation], profile := true } (fun s =>
    askForEntry p tag head.toNat zone.toNat (.clearEntry head.toNat zone.toNat false) s) s)

/-! ### CLEAR BENCH (R24, R25) -/

/-- The engine without a job: in FAULT_HOLD if a fault waited for the end of COMMIT or PUBLISH, else IDLE (R55). -/
def settleEngine (s : State) : State :=
  s.setEngine { s.engine with
    state := if s.engine.faultPending = true then .faultHold else .idle, faultPending := false, publishing := none }

/-- A job in COMMIT at CLEAR BENCH: under the grant the write is left to complete, otherwise its request is withdrawn (R11). -/
def clearCommit (s : State) : State :=
  if s.arbiter.engineHolds .commit = true then s.setEngine { s.engine with clearPending := true }
  else match s.engine.active with
    | some r => settleEngine (clearActive r (withdrawAsk .engine s))
    | none => settleEngine (withdrawAsk .engine s)

/-- A group-end publish at CLEAR BENCH: under the grant it is left to complete, its group gone; otherwise its request is withdrawn
(R19). -/
def clearPublish (s : State) : State :=
  if s.arbiter.engineHolds .groupPublish = true then s.setEngine { s.engine with publishing := none }
  else settleEngine (withdrawAsk .engine s)

/-- Step 1 of R24: the active job ends CLEARED. -/
def clearEngine (s : State) : State :=
  match s.engine.state with
  | .idle => s
  | .faultHold => s
  | .commit => clearCommit s
  | .publish => clearPublish s
  | .headWait => settleEngine (closeJob .cleared s)
  | .moveWait => settleEngine (closeJob .cleared s)
  | .settling => settleEngine (closeJob .cleared s)
  | .dwell => settleEngine (closeJob .cleared s)

/-- Steps 2 and 3 of R24: the stack, the queue and the group table are emptied, and the Job Queue returns to its power-on state,
the slots freed posting QUEUE_SPACE first (R128, R141). -/
def clearJobs (s : State) : State :=
  let freed := !s.jobs.queue.isEmpty
  let s := forQueued dropQueued s.jobs.queue (forStacked dropStacked s.stack s)
  let s := if freed = true then postSpace s else s
  { s with stack := [], jobs := .reset }

/-- One port's completion list is emptied, with its overflow count and the merge counts of JOB_DONE and JOB_FAILED (R24,
R183). -/
def clearList (p : Port) (s : State) : State :=
  let u := (s.port p).notices
  s.setPort p { s.port p with
    completions := [], overflow := 0
    notices := { u with merge := (u.merge.set .jobDone 0).set .jobFailed 0 } }

/-- Steps 1 to 4 of R24. -/
def clearWork (s : State) : State :=
  clearList .adapter (clearList .positioner (clearList .workstation (clearJobs (clearEngine s))))

/-- CLEAR BENCH (R24): the table is emptied under the grant, after the rest (R25). -/
def execClearBench (p : Port) (tag : Byte) (s : State) : Host.Outcome State Fault Refusal :=
  .next (request (.clearBench p tag) p { senders := [.workstation] } (fun s =>
    askGrant (Port.client p) .clearBench (clearWork s)) s)

/-! ### Reads (R166 to R169) -/

/-- READ ENTRY (R166). -/
def execReadEntry (p : Port) (tag head zone : Byte) (s : State) : Host.Outcome State Fault Refusal :=
  .next (request (.readEntry p tag head zone) p { senders := everyPort, profile := true } (fun s =>
    askForEntry p tag head.toNat zone.toNat (.readEntry head.toNat zone.toNat) s) s)

/-- READ TABLE (R168): the cursor is set, and the port asks for the grant. -/
def execReadTable (p : Port) (tag start count : Byte) (s : State) : Host.Outcome State Fault Refusal :=
  .next (request (.readTable p tag start count) p { senders := everyPort, profile := true } (fun s =>
    if 191 < start.toNat ∨ count = 0 ∨ 192 < count.toNat ∨ 192 < start.toNat + count.toNat then
      refuse p tag .badArgument s
    else
      let s := s.setCursor p (some ⟨start.toNat, start.toNat + count.toNat - 1⟩)
      askGrant (Port.client p) (.readTable (s.port p).assembly) s) s)

/-- READ NEXT (R169): EMPTY at once without a cursor. -/
def execReadNext (p : Port) (tag : Byte) (s : State) : Host.Outcome State Fault Refusal :=
  .next (request (.readNext p tag) p { senders := everyPort, profile := true } (fun s =>
    match (s.port p).cursor with
    | none => refuse p tag .empty s
    | some _ => askGrant (Port.client p) (.readNext (s.port p).assembly) s) s)

/-! ### Settings (R163, R164) -/

/-- The arbiter state byte: FREE, HELD, HELD-with-hold-timer-running (R164). -/
def Arbiter.stateCode (a : Arbiter) : Nat :=
  match a.holder with
  | none => 0
  | some _ => match a.hold with
    | .stopped => 1
    | .running _ => 2
    | .expired => 2

/-- A client and its operation as two bytes (R196). -/
def clientBytes (c : Client) (op : TableOp) : List Byte := u8 c.code ++ u8 op.code

/-- The hold timer remaining, present while it runs; at its expiry it stays at 0 (R162, R164). -/
def Arbiter.holdRemaining (a : Arbiter) : Option Nat :=
  match a.hold with
  | .stopped => none
  | .running t => some t
  | .expired => some 0

/-- The arbiter report (R164). DESIGN CHOICE: the waiting clients stand in the fixed order ENGINE, W, D, P of R158, because the
manual gives the list no order (log entry 8). -/
def Arbiter.report (a : Arbiter) : List Byte :=
  u8 a.priority.engine ++ u8 a.priority.w ++ u8 a.priority.d ++ u8 a.priority.p ++ flag a.preemption ++ u8 a.holdTime
    ++ u8 a.stateCode
    ++ optional 2 (a.holder.map fun h => clientBytes h.1 h.2)
    ++ listBytes (Client.order.filterMap fun c => (a.waiting.get c).map (clientBytes c))
    ++ optional 2 (a.holdRemaining.map u16)

/-- The hold timer re-examined against new settings (R163). DESIGN CHOICE: a timer at 0 stops as a running one does, and with it
the cut that waited for a first record (R162; log entry 28). -/
def reexamineHold (s : State) : State :=
  let wanted := s.arbiter.preemption && s.arbiter.pressed
  match s.arbiter.hold with
  | .stopped => if wanted = true then startHold s else s
  | .running _ => if wanted = true then s else s.setArbiter { s.arbiter with hold := .stopped }
  | .expired => if wanted = true then s else s.setArbiter { s.arbiter with hold := .stopped }

/-- The settings replaced and the timer re-examined (R163). -/
def setArbitration (priority : PerClient Nat) (preemption : Bool) (holdTime : Nat) (s : State) : State :=
  reexamineHold (s.setArbiter { s.arbiter with priority := priority, preemption := preemption, holdTime := holdTime })

/-- A priority argument: 0..3 (R163). -/
def priorityArg (b : Byte) : Option Nat := if b.toNat ≤ 3 then some b.toNat else none

/-- The four priority arguments, in the order ENGINE, W, D, P (R163). -/
def prioritiesArg (engine w d p : Byte) : Option (PerClient Nat) :=
  match priorityArg engine, priorityArg w, priorityArg d, priorityArg p with
  | some a, some b, some c, some e => some ⟨a, b, c, e⟩
  | _, _, _, _ => none

/-- SET ARBITRATION (R163). -/
def execSetArbitration (q : Port) (tag engine w d p preemption holdTime : Byte) (s : State) :
    Host.Outcome State Fault Refusal :=
  .next (request (.setArbitration q tag engine w d p preemption holdTime) q { senders := [.workstation] } (fun s =>
    match prioritiesArg engine w d p, flagArg preemption with
    | some ps, some on =>
      let s := setArbitration ps on holdTime.toNat s
      reply q tag s.arbiter.report s
    | _, _ => refuse q tag .badArgument s) s)

/-- READ ARBITRATION (R164). -/
def execReadArbitration (p : Port) (tag : Byte) (s : State) : Host.Outcome State Fault Refusal :=
  .next (request (.readArbitration p tag) p { senders := everyPort } (fun s => reply p tag s.arbiter.report s) s)

/-! ### The events of an operation under a port's grant (R159, R162, R170) -/

/-- HOLD_TIMER_EXPIRY: the running timer reaches 0, when an assembly has made so many visits more (R162; log entry 4). -/
def execHoldTimerExpiry (visited : Nat) (s : State) : Host.Outcome State Fault Refusal :=
  .next (match s.arbiter.hold with
    | .running _ => expireHold (proceed visited s)
    | .stopped => s
    | .expired => s)

/-- BLOCK_READ_ASSEMBLY: the assembly under a port's grant comes to its end (R162, R170). -/
def execBlockReadAssembly (s : State) : Host.Outcome State Fault Refusal := .next (completeAssembly s)

/-- The end of a PUBLISH: the table, the release, the notices, then the response (R12, R18). -/
def endPublish (p : Port) (s : State) : State :=
  answerPending p { payload := s.publishPayload } (postWD .published s.publishDetail (release (publishTable s)))

/-- The end of DISCARD STAGED in its entry form: the staged part goes, and the response counts it (R21). -/
def endDiscard (p : Port) (head zone : Nat) (s : State) : State :=
  answerPending p { payload := u8 (s.entry head zone).staged.isSome.toNat }
    (release (setEntry head zone (s.entry head zone).unstaged s))

/-- The end of DISCARD STAGED in its all form (R21). -/
def endDiscardAll (p : Port) (s : State) : State :=
  answerPending p { payload := u8 s.discardCount } (release (discardAllStaged s))

/-- The end of SEED ENTRY with a count: the clamped count becomes the seed and is returned (R22). -/
def endSeed (p : Port) (head zone : Nat) (count : Int) (s : State) : State :=
  let stored := s.store.profile.clampTravel count
  answerPending p { clamped := stored != count, payload := le 3 stored }
    (release (setEntry head zone { s.entry head zone with seed := some stored } s))

/-- The end of SEED ENTRY in its remove form (R22). -/
def endUnseed (p : Port) (head zone : Nat) (s : State) : State :=
  answerPending p {} (release (setEntry head zone { s.entry head zone with seed := none } s))

/-- The end of CLEAR ENTRY: refused ENTRY_BUSY where the entry was not IDLE at the grant (R23). -/
def endClearEntry (p : Port) (head zone : Nat) (idle : Bool) (s : State) : State :=
  if idle = true then answerPending p {} (release (clearEntryTable head zone s))
  else answerPending p { status := .entryBusy } (release s)

/-- The end of an emptying of the table, with the answer it was asked for (R25, R26). -/
def endEmpty (p : Port) (a : Answer) (s : State) : State := answerPending p a (release (emptyTable s))

/-- The end of READ ENTRY: one record (R166). -/
def endReadEntry (p : Port) (head zone : Nat) (s : State) : State :=
  answerPending p { records := 1, payload := s.recordAt (entryIndex head zone) } (release s)

/-- A port's operation under the grant comes to its end (R159); a block read ends by its own events, and the engine's operations
are not a port's. -/
def endOperation (p : Port) (op : TableOp) (s : State) : State :=
  match op with
  | .publish => endPublish p s
  | .discardEntry h z => endDiscard p h z s
  | .discardAll => endDiscardAll p s
  | .seed h z (some c) => endSeed p h z c s
  | .seed h z none => endUnseed p h z s
  | .clearEntry h z idle => endClearEntry p h z idle s
  | .clearBench => endEmpty p {} s
  | .emptyTable clamped payload => endEmpty p { clamped := clamped, payload := payload } s
  | .readEntry h z => endReadEntry p h z s
  | .readTable _ => s
  | .readNext _ => s
  | .e0LookUp => s
  | .commit => s
  | .groupPublish => s

/-- TABLE_OPERATION_END (R159). -/
def execTableOperationEnd (s : State) : Host.Outcome State Fault Refusal :=
  .next (match s.arbiter.holder with
    | some (c, op) => match c.port with
      | some p => endOperation p op s
      | none => s
    | none => s)

end Sys2Proof.Machine
end

