-- ==== Sys2Proof/Machine/Dispatch.lean ====
section
/-! DEFINITION. The dispatch of the commands: one arm for each row of spec/opcode_table.json. -/

namespace Sys2Proof.Machine

/-- The effect of a command on everything but the queue of waiting commands. -/
def exec (i : Instr) (s : State) : Host.Outcome State Fault Refusal :=
  match i with
  | .resetnRelease => Sys2Proof.Machine.execResetnRelease s
  | .attach port tag => Sys2Proof.Machine.execAttach port tag s
  | .detach port tag => Sys2Proof.Machine.execDetach port tag s
  | .identify port tag => Sys2Proof.Machine.execIdentify port tag s
  | .setWindow port tag target base size => Sys2Proof.Machine.execSetWindow port tag target base size s
  | .resetPort port tag target => Sys2Proof.Machine.execResetPort port tag target s
  | .takeNotice port tag => Sys2Proof.Machine.execTakeNotice port tag s
  | .endService port tag => Sys2Proof.Machine.execEndService port tag s
  | .setNoticeMask port tag sources => Sys2Proof.Machine.execSetNoticeMask port tag sources s
  | .setNoticeMode port tag mode tracking baseCode => Sys2Proof.Machine.execSetNoticeMode port tag mode tracking baseCode s
  | .takeCompletion port tag => Sys2Proof.Machine.execTakeCompletion port tag s
  | .submitMeasure port tag head zone cls limit => Sys2Proof.Machine.execSubmitMeasure port tag head zone cls limit s
  | .submitSweep port tag firstHead lastHead firstZone lastZone cls publishAtEnd => Sys2Proof.Machine.execSubmitSweep port tag firstHead lastHead firstZone lastZone cls publishAtEnd s
  | .submitReferenceCheck port tag zone => Sys2Proof.Machine.execSubmitReferenceCheck port tag zone s
  | .submitMove port tag target => Sys2Proof.Machine.execSubmitMove port tag target s
  | .cancel port tag id groupFlag => Sys2Proof.Machine.execCancel port tag id groupFlag s
  | .cancelGroup port tag id => Sys2Proof.Machine.execCancelGroup port tag id s
  | .readQueue port tag start => Sys2Proof.Machine.execReadQueue port tag start s
  | .resumeEngine port tag => Sys2Proof.Machine.execResumeEngine port tag s
  | .takeMove port tag => Sys2Proof.Machine.execTakeMove port tag s
  | .moveDone port tag sequence => Sys2Proof.Machine.execMoveDone port tag sequence s
  | .moveRefused port tag sequence reason => Sys2Proof.Machine.execMoveRefused port tag sequence reason s
  | .takeHeadRequest port tag => Sys2Proof.Machine.execTakeHeadRequest port tag s
  | .headSelected port tag sequence head => Sys2Proof.Machine.execHeadSelected port tag sequence head s
  | .headRefused port tag sequence reason => Sys2Proof.Machine.execHeadRefused port tag sequence reason s
  | .readHandshake port tag => Sys2Proof.Machine.execReadHandshake port tag s
  | .home port tag => Sys2Proof.Machine.execHome port tag s
  | .readPosition port tag clear => Sys2Proof.Machine.execReadPosition port tag clear s
  | .readServo port tag clear => Sys2Proof.Machine.execReadServo port tag clear s
  | .publish port tag => Sys2Proof.Machine.execPublish port tag s
  | .discardStaged port tag form head zone => Sys2Proof.Machine.execDiscardStaged port tag form head zone s
  | .seedEntry port tag head zone form count => Sys2Proof.Machine.execSeedEntry port tag head zone form count s
  | .clearEntry port tag head zone => Sys2Proof.Machine.execClearEntry port tag head zone s
  | .clearBench port tag => Sys2Proof.Machine.execClearBench port tag s
  | .readEntry port tag head zone => Sys2Proof.Machine.execReadEntry port tag head zone s
  | .readTable port tag start count => Sys2Proof.Machine.execReadTable port tag start count s
  | .readNext port tag => Sys2Proof.Machine.execReadNext port tag s
  | .setArbitration port tag engine w d p preemption holdTime => Sys2Proof.Machine.execSetArbitration port tag engine w d p preemption holdTime s
  | .readArbitration port tag => Sys2Proof.Machine.execReadArbitration port tag s
  | .selectProfile port tag slot => Sys2Proof.Machine.execSelectProfile port tag slot s
  | .saveProfile port tag slot => Sys2Proof.Machine.execSaveProfile port tag slot s
  | .setParameter port tag number index value => Sys2Proof.Machine.execSetParameter port tag number index value s
  | .readParameter port tag number index => Sys2Proof.Machine.execReadParameter port tag number index s
  | .responseRead port clocked => Sys2Proof.Machine.execResponseRead port clocked s
  | .droppedRequest port => Sys2Proof.Machine.execDroppedRequest port s
  | .frameError port clockedIn => Sys2Proof.Machine.execFrameError port clockedIn s
  | .profileLoadComplete defaultByte image => Sys2Proof.Machine.execProfileLoadComplete defaultByte image s
  | .profileSaveComplete readBack => Sys2Proof.Machine.execProfileSaveComplete readBack s
  | .wedgeRecord record => Sys2Proof.Machine.execWedgeRecord record s
  | .wedgeWindowExpiry => Sys2Proof.Machine.execWedgeWindowExpiry s
  | .indexPulse => Sys2Proof.Machine.execIndexPulse s
  | .servoLossTimeoutExpiry => Sys2Proof.Machine.execServoLossTimeoutExpiry s
  | .sampleTake => Sys2Proof.Machine.execSampleTake s
  | .filterSample a b z pf => Sys2Proof.Machine.execFilterSample a b z pf s
  | .settleTimerExpiry => Sys2Proof.Machine.execSettleTimerExpiry s
  | .moveTimeoutExpiry => Sys2Proof.Machine.execMoveTimeoutExpiry s
  | .headSelectTimeoutExpiry => Sys2Proof.Machine.execHeadSelectTimeoutExpiry s
  | .headSettleTimerExpiry => Sys2Proof.Machine.execHeadSettleTimerExpiry s
  | .holdTimerExpiry visited => Sys2Proof.Machine.execHoldTimerExpiry visited s
  | .attnPulseEnd port => Sys2Proof.Machine.execAttnPulseEnd port s
  | .e0Lookup => Sys2Proof.Machine.execE0Lookup s
  | .commit => Sys2Proof.Machine.execCommit s
  | .groupEndPublish => Sys2Proof.Machine.execGroupEndPublish s
  | .blockReadAssembly => Sys2Proof.Machine.execBlockReadAssembly s
  | .tableOperationEnd => Sys2Proof.Machine.execTableOperationEnd s
  | .attnSecondPulse port => Sys2Proof.Machine.execAttnSecondPulse port s

end Sys2Proof.Machine
end

