-- ==== Sys2Proof/Machine/Time.lean ====
section
/-! DEFINITION. Time. The opcode table has no row for the passing of time, so it is what a step does while no command waits: one
microsecond passes for every running timer, and a timer that has none left has its expiry put at the queue's front. DESIGN
CHOICE (log entry 3). -/

namespace Sys2Proof.Machine

/-- A running timer with no time left. -/
def Timer.isDue : Timer → Bool
  | .running t => t == 0
  | .paused _ => false
  | .stopped => false

/-- The loss timeout runs with no time left. -/
def LossTimer.isDue : LossTimer → Bool
  | .running t => t == 0
  | .stopped => false
  | .expired => false

/-- The hold timer runs with no time left. -/
def HoldTimer.isDue : HoldTimer → Bool
  | .running t => t == 0
  | .stopped => false
  | .expired => false

/-- The pulse event of a port whose pulse, or whose low before an owed repeat, has no time left (R176). -/
def pulseDue (p : Port) (u : NoticeUnit) : Option Instr :=
  match u.pulse with
  | .pulsing 0 _ => some (.attnPulseEnd p)
  | .low 0 => some (.attnSecondPulse p)
  | .pulsing _ _ => none
  | .low _ => none
  | .idle => none

/-- The first of two expiries that is due. -/
def dueOr (due : Bool) (i : Instr) (rest : Option Instr) : Option Instr := if due = true then some i else rest

/-- The expiry that is due, the first in a fixed order where there are several (log entry 3). -/
def State.due (s : State) : Option Instr :=
  dueOr s.sample.window.isDue .wedgeWindowExpiry <|
  dueOr s.sample.loss.isDue .servoLossTimeoutExpiry <|
  dueOr s.frame.settleTimer.isDue .settleTimerExpiry <|
  dueOr s.handshake.moveTimeout.isDue .moveTimeoutExpiry <|
  dueOr s.handshake.headTimeout.isDue .headSelectTimeoutExpiry <|
  dueOr s.handshake.headSettle.isDue .headSettleTimerExpiry <|
  dueOr s.arbiter.hold.isDue (.holdTimerExpiry 0) <|
  (pulseDue .workstation s.ports.w.notices).or
    ((pulseDue .positioner s.ports.p.notices).or (pulseDue .adapter s.ports.d.notices))

/-- One microsecond of a timer; a paused one keeps its time (R106). -/
def Timer.tick : Timer → Timer
  | .running t => .running (t - 1)
  | .paused t => .paused t
  | .stopped => .stopped

/-- One microsecond of the loss timeout. -/
def LossTimer.tick : LossTimer → LossTimer
  | .running t => .running (t - 1)
  | .stopped => .stopped
  | .expired => .expired

/-- One microsecond of the hold timer. -/
def HoldTimer.tick : HoldTimer → HoldTimer
  | .running t => .running (t - 1)
  | .stopped => .stopped
  | .expired => .expired

/-- One microsecond of a pulse. -/
def PulseState.tick : PulseState → PulseState
  | .pulsing t owed => .pulsing (t - 1) owed
  | .low t => .low (t - 1)
  | .idle => .idle

/-- One microsecond at a port. -/
def LinkPort.tick (l : LinkPort) : LinkPort := { l with notices := { l.notices with pulse := l.notices.pulse.tick } }

/-- One microsecond of every timer. -/
def tickTimers (s : State) : State :=
  { s with
    ports := ⟨s.ports.w.tick, s.ports.p.tick, s.ports.d.tick⟩
    sample := { s.sample with window := s.sample.window.tick, loss := s.sample.loss.tick }
    frame := { s.frame with settleTimer := s.frame.settleTimer.tick }
    handshake := { s.handshake with
      moveTimeout := s.handshake.moveTimeout.tick, headTimeout := s.handshake.headTimeout.tick
      headSettle := s.handshake.headSettle.tick }
    arbiter := { s.arbiter with hold := s.arbiter.hold.tick } }

/-- One microsecond: a block-read assembly goes on, and every timer counts. -/
def tick (s : State) : State := tickTimers (assemble s)

/-- What a step does while no command waits. -/
def idleStep (s : State) : State :=
  match s.due with
  | some i => { s with pending := [i] }
  | none => tick s

end Sys2Proof.Machine
end

