-- ==== Sys2Proof/Machine/Step.lean ====
section
/-! DEFINITION. The step of the part: the command at the front of the queue is carried out with the queue's rest, and while no
command waits, time passes. -/

namespace Sys2Proof.Machine

/-- One step. -/
def step (s : State) : Host.Outcome State Fault Refusal :=
  match s.pending with
  | i :: rest => exec i { s with pending := rest }
  | [] => .next (idleStep s)

/-- A command put at the front of the queue. -/
def State.push (i : Instr) (s : State) : State := { s with pending := i :: s.pending }

/-- The state with the command a table word spells at the front of its queue; unchanged where the word spells none. The table
gives no row of the HA-36 any bits, so no word spells a command (log entry 1). -/
def State.withFetchWord (s : State) (nbits w : Nat) : State :=
  match decodeTableWord nbits w with
  | some i => s.push i
  | none => s

end Sys2Proof.Machine
end

