-- ==== Sys2Proof/Safety.lean ====
section
/-! DEFINITION. What a sound state of the HA-36 is, rule by rule: the properties the manual says hold at all times. The part stops on
nothing, so a safe run is one that stays in sound states. The table of section 10.7 stands here a second time, as the claims
use it. -/

namespace Sys2Proof.Machine

/-! ### Capacities (R70, R121, R129, R143, R181) -/

/-- No store of records holds more than its slots: the sample FIFO four (R70), the Job Queue 24 (R121), the group table four
(R129), the Context Stack two (R143), a completion list eight (R181). -/
def State.bounded (s : State) : Prop :=
  s.sample.fifo.length ≤ 4 ∧ s.jobs.queue.length ≤ 24 ∧ s.jobs.groups.length ≤ 4 ∧ s.stack.length ≤ 2
    ∧ ∀ p, (s.port p).completions.length ≤ 8

/-! ### The arbiter (R156) -/

/-- In FREE no client waits and the hold timer is stopped (R156), and a block read still being assembled has placed fewer than ten
records (R170). -/
def Arbiter.sound (a : Arbiter) : Prop :=
  (a.holder = none → a.hold = .stopped ∧ ∀ c, a.waiting.get c = none)
    ∧ ∀ c op x, a.holder = some (c, op) → op.assembly = some x → x.placed.length < 10

/-- An operation names no entry outside the table of 16 heads and 12 zones (R1). -/
def TableOp.inTable : TableOp → Bool
  | .discardEntry h z => decide (h < 16) && decide (z < 12)
  | .seed h z _ => decide (h < 16) && decide (z < 12)
  | .clearEntry h z _ => decide (h < 16) && decide (z < 12)
  | .readEntry h z => decide (h < 16) && decide (z < 12)
  | .publish => true
  | .discardAll => true
  | .clearBench => true
  | .emptyTable _ _ => true
  | .readTable _ => true
  | .readNext _ => true
  | .e0LookUp => true
  | .commit => true
  | .groupPublish => true

/-- No operation that holds the grant or waits for it names an entry outside the table (R1). -/
def Arbiter.opsInTable (a : Arbiter) : Prop :=
  (∀ x, a.holder = some x → x.2.inTable = true) ∧ ∀ c op, a.waiting.get c = some op → op.inTable = true

/-- In t the block read under a port's grant in s has been cut after its last record (R162, R170): the port's response carries the
records placed, with PREEMPTED, and MORE and the cursor say whether a deliverable index remains, by the counts in profile RAM (log
entry 29). The table is as it was. -/
def State.cutTo (s t : State) (p : Port) (i : Instr) (a : Assembly) : Prop :=
  ∀ x, a.placed.getLast? = some x →
    let more := (List.range 192).any fun k => decide (x.1 < k) && decide (k ≤ a.last) && s.store.profile.holdsIndex k
      && a.window.inside (k / 12)
    (t.port p).slot = .ready
        ⟨.ok, i.tag, false, true, more, (s.port p).dropped, a.placed.length, (a.placed.map (·.2)).flatten⟩
      ∧ (t.port p).cursor = (if more = true then some ⟨x.1 + 1, a.last⟩ else none) ∧ t.table = s.table

/-- A waiter that a release grants: of the highest priority, and the first of those in the order ENGINE, W, D, P (R158). -/
def Arbiter.next (a : Arbiter) (c : Client) : Prop :=
  ∀ o, (a.waiting.get o).isSome = true →
    a.priority.get o < a.priority.get c ∨ (a.priority.get o = a.priority.get c ∧ c.code ≤ o.code)

/-! ### The response slots (R157, R186) -/

/-- How many operations are in hand for a port: under the grant, waiting for it, a load or a save that its request started, and
resets that wait for a commit (R157, R186, R194, R201, R202). -/
def State.inHand (s : State) (p : Port) : Nat :=
  (s.arbiter.holder.any fun h => h.1 == Port.client p).toNat
    + (s.arbiter.waiting.get (Port.client p)).isSome.toNat
    + (p == .workstation && match s.store.state with
        | .loading (some _) => true
        | .saving _ => true
        | _ => false).toNat
    + (s.engine.resetReplies.filter fun x => x.port == p).length

/-- A slot is PENDING exactly while one operation is in hand for its port, and never more than one is (R157, R186). -/
def State.slotsSound (s : State) : Prop :=
  ∀ p, s.inHand p = match (s.port p).slot with
    | .pending _ => 1
    | .empty => 0
    | .ready _ => 0

/-! ### Offsets (R16) -/

/-- An emptying of the table is asked for or being carried out (R26, R203). -/
def Arbiter.emptying (a : Arbiter) : Prop :=
  ∃ clamped payload, a.holder = some (.w, .emptyTable clamped payload) ∨ a.waiting.w = some (.emptyTable clamped payload)

/-- An entry holds an offset only while its zone's reference entry holds a published part (R16). A change of the reference head is
in force before the emptying it asks for has been carried out (R203). -/
def State.offsetsSound (s : State) : Prop :=
  s.arbiter.emptying ∨ ∀ i, i < 192 → ∀ x, (s.entryAt i).published = some x → x.offset.isSome = true →
    (s.entry s.store.profile.referenceHead (i % 12)).published.isSome = true

/-! ### The engine (R28, R107, R116) -/

/-- A job is active exactly in HEAD_WAIT, MOVE_WAIT, SETTLING, DWELL and COMMIT (R28), and outside the first four both
handshakes are NONE (R107, R116, R119). -/
def State.engineSound (s : State) : Prop :=
  (s.engine.active.isSome = true ↔ s.engine.state.working = true ∨ s.engine.state = .commit)
    ∧ (s.engine.state.working = false → s.handshake.move = none ∧ s.handshake.head = none)

/-! ### The Context Stack (R143) -/

/-- Every context's class is below the class of the context above it and of the active job (R143). -/
def State.stackSound (s : State) : Prop :=
  s.stack.Pairwise (fun above below => below.job.cls.rank < above.job.cls.rank)
    ∧ ∀ r, s.engine.active = some r → ∀ c ∈ s.stack, c.job.cls.rank < r.job.cls.rank

/-! ### Job ids (R121, R122) -/

/-- No job id appears twice among the queue, the active job and the Context Stack (R121), with the capacities and the id range
that let a free id always be found (R122). -/
def State.idsSound (s : State) : Prop :=
  s.heldIds.Nodup ∧ s.jobs.queue.length ≤ 24 ∧ s.stack.length ≤ 2 ∧ 1 ≤ s.jobs.nextJob ∧ s.jobs.nextJob ≤ 255

/-! ### Entry statuses (R2) -/

/-- The index of the entry a job names. -/
def JobWork.index (w : JobWork) : Option Nat := w.place.map fun x => entryIndex x.1 x.2

/-- Every job that stands in the queue, at the engine or on the stack. -/
def State.heldJobs (s : State) : List JobRecord :=
  s.jobs.queue ++ (s.engine.active.map SearchRecord.job).toList ++ s.stack.map SearchRecord.job

/-- An entry is QUEUED, MEASURING or SUSPENDED exactly while a job that names it is queued, active or stacked, and no entry is named
by two jobs (R2). -/
def State.statusesSound (s : State) : Prop :=
  (s.heldJobs.filterMap fun j => j.work.index).Nodup
    ∧ (∀ j ∈ s.heldJobs, ∀ h z, j.work.place = some (h, z) → h < 16 ∧ z < 12)
    ∧ (∀ z, s.jobs.pendingZone = some z → z < 12)
    ∧ ∀ i, i < 192 →
      ((s.statuses[i]?).getD .idle = .queued ↔ ∃ j ∈ s.jobs.queue, j.work.index = some i)
      ∧ ((s.statuses[i]?).getD .idle = .measuring ↔ ∃ r, s.engine.active = some r ∧ r.job.work.index = some i)
      ∧ ((s.statuses[i]?).getD .idle = .suspended ↔ ∃ r ∈ s.stack, r.job.work.index = some i)

/-! ### The handshakes and the settle test (R94, R97, R106, R114, R115) -/

/-- The settle test and the move timeout a move handshake goes with: NONE with the timeout stopped, REQUESTED and TAKEN with no
test and the timeout running, DONE with the test OUTSIDE or TIMING, SETTLED with the test MET and the timeout paused
(R94, R106). -/
def moveSound (m : Option MoveRequest) (t : Timer) (test : SettleTest) : Prop :=
  match m with
  | none => t = .stopped ∧ test = .none
  | some m => match m.phase with
    | .requested => (∃ x, t = .running x) ∧ test = .none
    | .taken => (∃ x, t = .running x) ∧ test = .none
    | .done => (∃ x, t = .running x) ∧ (test = .outside ∨ test = .timing)
    | .settled => (∃ x, t = .paused x) ∧ test = .met

/-- The settle timer runs exactly in TIMING (R94, R95). -/
def PositionFrame.timerSound (f : PositionFrame) : Prop := (∃ x, f.settleTimer = .running x) ↔ f.settle = .timing

/-- The timers a head handshake goes with: the head select timeout in REQUESTED and TAKEN (R114), the head settle timer in DELAY
(R115), none in NONE and READY. -/
def headSound (r : Option HeadRequest) (select settle : Timer) : Prop :=
  match r with
  | none => select = .stopped ∧ settle = .stopped
  | some r => match r.phase with
    | .requested => (∃ x, select = .running x) ∧ settle = .stopped
    | .taken => (∃ x, select = .running x) ∧ settle = .stopped
    | .delay => select = .stopped ∧ ∃ x, settle = .running x
    | .ready => select = .stopped ∧ settle = .stopped

/-- The handshakes agree with their timers and with the settle test. -/
def State.handshakeSound (s : State) : Prop :=
  moveSound s.handshake.move s.handshake.moveTimeout s.frame.settle ∧ s.frame.timerSound
    ∧ headSound s.handshake.head s.handshake.headTimeout s.handshake.headSettle

/-! ### Ranges (R17, R61, R65, R80, R100, R122, R129, R136, R156, R167, R172, R184, R198) -/

/-- Every parameter of a profile lies in its range, and W is a multiple of 8 (R198). -/
def Profile.sound (pr : Profile) : Prop :=
  (∀ x ∈ allParams, (pr.range x.1).1 ≤ pr.param x.1 x.2 ∧ pr.param x.1 x.2 ≤ (pr.range x.1).2) ∧ pr.wedges % 8 = 0

/-- The Position Frame's values lie in their ranges (R80, R81). -/
def PositionFrame.sound (f : PositionFrame) : Prop :=
  -8388608 ≤ f.count ∧ f.count ≤ 8388607 ∧ f.errors ≤ 255 ∧ 1 ≤ f.filterLength ∧ f.filterLength ≤ 8
    ∧ f.encA.run ≤ 8 ∧ f.encB.run ≤ 8 ∧ f.encZ.run ≤ 8 ∧ f.pfault.run ≤ 8

/-- The Handshake Unit's sequences and selected head lie in their ranges (R100, R101). -/
def HandshakeUnit.sound (h : HandshakeUnit) : Prop :=
  h.moveSequence ≤ 255 ∧ h.headSequence ≤ 255 ∧ (∀ n, h.selected = some n → n ≤ 15)
    ∧ (∀ m, h.move = some m → 1 ≤ m.sequence ∧ m.sequence ≤ 255)
    ∧ ∀ r, h.head = some r → 1 ≤ r.sequence ∧ r.sequence ≤ 255

/-- The Job Queue's counters lie in their ranges (R122, R129, R136). -/
def JobQueue.sound (q : JobQueue) : Prop :=
  1 ≤ q.nextJob ∧ q.nextJob ≤ 255 ∧ 1 ≤ q.nextGroup ∧ q.nextGroup ≤ 15 ∧ q.drift ≤ 255

/-- The arbiter's settings and the end index of an assembly lie in their ranges (R156, R167). -/
def Arbiter.inRange (a : Arbiter) : Prop :=
  (∀ c, a.priority.get c ≤ 3) ∧ a.holdTime ≤ 255 ∧ (∀ x, a.hold = .running x → x ≤ 2550)
    ∧ ∀ c op x, a.holder = some (c, op) → op.assembly = some x → x.last ≤ 191

/-- The Sample Path's values lie in their ranges (R61, R63, R65, R78). -/
def SamplePath.sound (sp : SamplePath) : Prop :=
  sp.wedge ≤ 511 ∧ sp.revolutions < 4294967296 ∧ sp.missedRun ≤ 8 ∧ sp.goodRun ≤ 4 ∧ sp.slips ≤ 65535
    ∧ sp.overruns ≤ 65535 ∧ sp.noSync ≤ 65535 ∧ sp.dropout ≤ 65535 ∧ sp.noTid ≤ 65535 ∧ sp.far ≤ 65535

/-- A port's counts, its window and its cursor lie in their ranges (R167, R172, R181, R184). -/
def LinkPort.sound (l : LinkPort) : Prop :=
  l.dropped ≤ 255 ∧ l.overflow ≤ 255 ∧ l.notices.baseCode ≤ 15 ∧ (∀ src, l.notices.merge.get src ≤ 255)
    ∧ l.window.size ∈ [1, 2, 4, 8, 16] ∧ l.window.base % l.window.size = 0 ∧ l.window.base + l.window.size ≤ 16
    ∧ ∀ c, l.cursor = some c → c.next ≤ c.last ∧ c.last ≤ 191

/-- The values of the state lie in the ranges the manual gives them. -/
def State.ranged (s : State) : Prop :=
  s.store.profile.sound ∧ s.frame.sound ∧ s.sample.sound ∧ s.handshake.sound ∧ s.jobs.sound ∧ s.arbiter.inRange
    ∧ s.table.generation < 65536 ∧ ∀ p, (s.port p).sound

/-! ### The requests by port (section 10.7) -/

/-- The ports Port W's requests are accepted from. -/
def fromW : List Port := [.workstation]

/-- The row of section 10.7 for a request: the port that sends it, the ports it is accepted from, whether it is
profile-dependent, and whether a DETACHED port may send it (R191); an event has none. -/
def Instr.row : Instr → Option (Port × Access)
  | .attach p _ => some (p, { senders := everyPort, detached := true })
  | .detach p _ => some (p, { senders := everyPort, detached := true })
  | .identify p _ => some (p, { senders := everyPort, detached := true })
  | .setWindow p _ _ _ _ => some (p, { senders := fromW })
  | .resetPort p _ _ => some (p, { senders := everyPort })
  | .takeNotice p _ => some (p, { senders := everyPort })
  | .endService p _ => some (p, { senders := everyPort })
  | .setNoticeMask p _ _ => some (p, { senders := everyPort })
  | .setNoticeMode p _ _ _ _ => some (p, { senders := everyPort })
  | .takeCompletion p _ => some (p, { senders := everyPort })
  | .submitMeasure p _ _ _ _ _ => some (p, { senders := fromW, profile := true })
  | .submitSweep p _ _ _ _ _ _ _ => some (p, { senders := fromW, profile := true })
  | .submitReferenceCheck p _ _ => some (p, { senders := [.workstation, .positioner], profile := true })
  | .submitMove p _ _ => some (p, { senders := fromW, profile := true })
  | .cancel p _ _ _ => some (p, { senders := [.workstation, .positioner] })
  | .cancelGroup p _ _ => some (p, { senders := [.workstation, .positioner] })
  | .readQueue p _ _ => some (p, { senders := everyPort })
  | .resumeEngine p _ => some (p, { senders := fromW })
  | .takeMove p _ => some (p, { senders := [.positioner] })
  | .moveDone p _ _ => some (p, { senders := [.positioner] })
  | .moveRefused p _ _ _ => some (p, { senders := [.positioner] })
  | .takeHeadRequest p _ => some (p, { senders := [.adapter] })
  | .headSelected p _ _ _ => some (p, { senders := [.adapter] })
  | .headRefused p _ _ _ => some (p, { senders := [.adapter] })
  | .readHandshake p _ => some (p, { senders := everyPort })
  | .home p _ => some (p, { senders := [.positioner], profile := true })
  | .readPosition p _ _ => some (p, { senders := everyPort })
  | .readServo p _ _ => some (p, { senders := everyPort })
  | .publish p _ => some (p, { senders := fromW, profile := true })
  | .discardStaged p _ _ _ _ => some (p, { senders := fromW, profile := true })
  | .seedEntry p _ _ _ _ _ => some (p, { senders := fromW, profile := true })
  | .clearEntry p _ _ _ => some (p, { senders := fromW, profile := true })
  | .clearBench p _ => some (p, { senders := fromW })
  | .readEntry p _ _ _ => some (p, { senders := everyPort, profile := true })
  | .readTable p _ _ _ => some (p, { senders := everyPort, profile := true })
  | .readNext p _ => some (p, { senders := everyPort, profile := true })
  | .setArbitration p _ _ _ _ _ _ _ => some (p, { senders := fromW })
  | .readArbitration p _ => some (p, { senders := everyPort })
  | .selectProfile p _ _ => some (p, { senders := fromW })
  | .saveProfile p _ _ => some (p, { senders := fromW })
  | .setParameter p _ _ _ _ => some (p, { senders := fromW })
  | .readParameter p _ _ _ => some (p, { senders := fromW })
  | .resetnRelease => none
  | .responseRead _ _ => none
  | .droppedRequest _ => none
  | .frameError _ _ => none
  | .profileLoadComplete _ _ => none
  | .profileSaveComplete _ => none
  | .wedgeRecord _ => none
  | .wedgeWindowExpiry => none
  | .indexPulse => none
  | .servoLossTimeoutExpiry => none
  | .sampleTake => none
  | .filterSample _ _ _ _ => none
  | .settleTimerExpiry => none
  | .moveTimeoutExpiry => none
  | .headSelectTimeoutExpiry => none
  | .headSettleTimerExpiry => none
  | .holdTimerExpiry _ => none
  | .attnPulseEnd _ => none
  | .e0Lookup => none
  | .commit => none
  | .groupEndPublish => none
  | .blockReadAssembly => none
  | .tableOperationEnd => none
  | .attnSecondPulse _ => none

/-- A port that can have a request carried out: ATTACHED with its slot EMPTY (R186, R191). -/
def State.canSend (s : State) (p : Port) : Prop := (s.port p).slot = .empty ∧ (s.port p).attached = true

/-- The bench with which profile-dependent requests are carried out from a port: the port can send, and the store is READY
(R191). -/
def State.canSendReady (s : State) (p : Port) : Prop := s.canSend p ∧ s.store.state = .ready

end Sys2Proof.Machine
end

