-- ==== Sys2Proof/WellFormed.lean ====
section
/-! DEFINITION. Well-formed commands. Every request frame that passes the frame check is a command, whatever its argument bytes,
because out-of-range arguments are the request's own to refuse (R188). What is checked is the rest: that CANCEL is not
the group form under the other row's name, that a frame error is one, and that an image is a slot's 256 bytes. -/

namespace Sys2Proof

/-- The bytes of one EEPROM slot (R198). -/
def slotBytes : Nat := 256

/-- Whether a command can be sent to the part as it stands. -/
def Instr.wellFormed : Instr → Bool
  | .cancel _ _ _ groupFlag => groupFlag != 1
  | .frameError _ bytes => deliversRequest bytes && !frameWellFormed bytes
  | .profileLoadComplete _ image => match image with
    | some bytes => decide (bytes.length = slotBytes)
    | none => true
  | .profileSaveComplete readBack => match readBack with
    | some bytes => decide (bytes.length = slotBytes)
    | none => true
  | .holdTimerExpiry _ => true
  | .resetnRelease => true
  | .attach _ _ => true
  | .detach _ _ => true
  | .identify _ _ => true
  | .setWindow _ _ _ _ _ => true
  | .resetPort _ _ _ => true
  | .takeNotice _ _ => true
  | .endService _ _ => true
  | .setNoticeMask _ _ _ => true
  | .setNoticeMode _ _ _ _ _ => true
  | .takeCompletion _ _ => true
  | .submitMeasure _ _ _ _ _ _ => true
  | .submitSweep _ _ _ _ _ _ _ _ => true
  | .submitReferenceCheck _ _ _ => true
  | .submitMove _ _ _ => true
  | .cancelGroup _ _ _ => true
  | .readQueue _ _ _ => true
  | .resumeEngine _ _ => true
  | .takeMove _ _ => true
  | .moveDone _ _ _ => true
  | .moveRefused _ _ _ _ => true
  | .takeHeadRequest _ _ => true
  | .headSelected _ _ _ _ => true
  | .headRefused _ _ _ _ => true
  | .readHandshake _ _ => true
  | .home _ _ => true
  | .readPosition _ _ _ => true
  | .readServo _ _ _ => true
  | .publish _ _ => true
  | .discardStaged _ _ _ _ _ => true
  | .seedEntry _ _ _ _ _ _ => true
  | .clearEntry _ _ _ _ => true
  | .clearBench _ _ => true
  | .readEntry _ _ _ _ => true
  | .readTable _ _ _ _ => true
  | .readNext _ _ => true
  | .setArbitration _ _ _ _ _ _ _ _ => true
  | .readArbitration _ _ => true
  | .selectProfile _ _ _ => true
  | .saveProfile _ _ _ => true
  | .setParameter _ _ _ _ _ => true
  | .readParameter _ _ _ _ => true
  | .responseRead _ _ => true
  | .droppedRequest _ => true
  | .wedgeRecord _ => true
  | .wedgeWindowExpiry => true
  | .indexPulse => true
  | .servoLossTimeoutExpiry => true
  | .sampleTake => true
  | .filterSample _ _ _ _ => true
  | .settleTimerExpiry => true
  | .moveTimeoutExpiry => true
  | .headSelectTimeoutExpiry => true
  | .headSettleTimerExpiry => true
  | .attnPulseEnd _ => true
  | .e0Lookup => true
  | .commit => true
  | .groupEndPublish => true
  | .blockReadAssembly => true
  | .tableOperationEnd => true
  | .attnSecondPulse _ => true

end Sys2Proof
end

