-- ==== Sys2Proof/Certificates/Slice0/Obligations.lean ====
section
/-! DEFINITION. The statements about the HA-36, for the provers. Where a next state is written with answer, setPort or another
named update, that update is all that changes; where it is given by its parts, CommandsKeepTheirFrame says what else stays. -/

open Sys2Proof Sys2Proof.Machine

/-! ### The step -/

/-- A step with a command in front carries out exactly that command on the state with the queue's rest. -/
def Obligations.StepRunsFrontCommand : Prop :=
  ∀ (i : Instr) (s : State), step (s.push i) = exec i s

/-- While no command waits, a step lets 1 µs pass, or puts the expiry that is due at the queue's front (the model's choice, log
entry 3). -/
def Obligations.IdleStepPassesTime : Prop :=
  ∀ s : State, s.pending = [] →
    (s.due = none → step s = .next (tick s))
    ∧ ∀ i, s.due = some i → step s = .next { s with pending := [i] }

/-- Every command answers a next state, in every state (R191, R202; log entries 7 and 26 for an event whose premise fails), and
reaches only what the manual lets it reach: each part of the state named here is left as it is by every command but those listed
with it. The table requests are not among those that change the table, because the model gives their effect to the end of their
operation (log entry 10). -/
def Obligations.CommandsKeepTheirFrame : Prop :=
  ∀ (i : Instr) (s : State), ∃ t, exec i s = .next t ∧ t.pending = s.pending
    ∧ (t.table = s.table ∨ i = .resetnRelease ∨ i = .commit ∨ i = .groupEndPublish ∨ i = .tableOperationEnd
      ∨ ∃ b image, i = .profileLoadComplete b image)
    ∧ (t.store = s.store ∨ i = .resetnRelease ∨ (∃ b image, i = .profileLoadComplete b image)
      ∨ (∃ image, i = .profileSaveComplete image) ∨ (∃ p tag, i = .attach p tag) ∨ (∃ p tag n, i = .selectProfile p tag n)
      ∨ (∃ p tag n, i = .saveProfile p tag n) ∨ ∃ p tag n k v, i = .setParameter p tag n k v)
    ∧ ((t.arbiter.priority = s.arbiter.priority ∧ t.arbiter.preemption = s.arbiter.preemption
        ∧ t.arbiter.holdTime = s.arbiter.holdTime)
      ∨ i = .resetnRelease ∨ ∃ q tag e w d p on hold, i = .setArbitration q tag e w d p on hold)
    ∧ (t.frame.count = s.frame.count ∨ i = .resetnRelease ∨ ∃ a b z pf, i = .filterSample a b z pf)
    ∧ ((t.sample.revolutions = s.sample.revolutions ∧ t.sample.locked = s.sample.locked)
      ∨ i = .resetnRelease ∨ (∃ w, i = .wedgeRecord w) ∨ i = .wedgeWindowExpiry ∨ i = .indexPulse)
    ∧ (t.handshake.selected = s.handshake.selected ∨ i = .resetnRelease ∨ ∃ p tag n h, i = .headSelected p tag n h)
    ∧ ∀ q, ((t.port q).attached = (s.port q).attached ∨ i = .resetnRelease
          ∨ (∃ tag, i = .attach q tag ∨ i = .detach q tag)
          ∨ ∃ p tag target, i = .resetPort p tag target ∧ portArg target = some q)
        ∧ ((t.port q).window = (s.port q).window ∨ i = .resetnRelease
          ∨ (∃ p tag target base size, i = .setWindow p tag target base size ∧ portArg target = some q)
          ∨ ∃ p tag target, i = .resetPort p tag target ∧ portArg target = some q)
        ∧ ((t.port q).notices.mask = (s.port q).notices.mask ∨ i = .resetnRelease
          ∨ (∃ tag m, i = .setNoticeMask q tag m)
          ∨ ∃ p tag target, i = .resetPort p tag target ∧ portArg target = some q)

/-- RESETN_RELEASE gives every block its power-on state, whatever came before (R27, R28, R99, R100, R141, R143, R156, R172, R184,
R198). The values the manual leaves open are not named here. -/
def Obligations.ResetnRelease : Prop :=
  ∀ s : State, ∃ t, exec .resetnRelease s = .next t
    ∧ (∀ p, t.port p = ⟨false, .empty, 0, ⟨0, 16⟩, none,
        ⟨.all none, .all 0, .all true, .all false, .level, false, 0, .idle⟩, [], 0⟩)
    ∧ (∀ h z, t.entry h z = ⟨none, none, none⟩ ∧ t.status h z = .idle) ∧ t.table.generation = 0
    ∧ t.engine.state = .idle ∧ t.engine.active = none ∧ t.stack = []
    ∧ t.jobs = ⟨[], [], 1, 1, 0, none, false, false⟩
    ∧ t.handshake = ⟨none, .stopped, none, 0, none, .stopped, .stopped, none, 0, none⟩
    ∧ t.sample = ⟨0, false, 0, false, 0, 0, .stopped, .stopped, [], 0, 0, 0, 0, 0, 0⟩
    ∧ t.frame.count = 0 ∧ t.frame.errors = 0 ∧ t.frame.home = .idle ∧ t.frame.travel = .untested
    ∧ t.frame.settle = .none ∧ t.frame.filterLength = 4 ∧ t.frame.sampled = false
    ∧ t.arbiter = ⟨none, ⟨none, none, none, none⟩, .stopped, ⟨3, 2, 1, 0⟩, false, 20⟩
    ∧ t.store.state = .loading none ∧ t.store.slot = none ∧ t.store.owedW = none ∧ t.store.owedP = none

/-! ### Frames, refusals and the response slot -/

/-- The frame of a well-formed request, with any padding of 0x00 bytes, is decoded to that request at its port (R185, R188, R196,
section 10.7): no argument bit is lost. A period that carries it delivers exactly that request, after the read of the response
where one was READY at the period's fall. -/
def Obligations.FrameRoundTrip : Prop :=
  ∀ (i : Instr) (p : Port) (bytes : List Byte) (padding : Nat), i.wellFormed = true → i.sender = some p →
    encodeFrame i = some bytes →
    let sdi := bytes ++ List.replicate padding 0
    decodeFrame p sdi = some i
    ∧ ∀ s : State, ((s.port p).slot = .empty → s.periodCommands p sdi = [i])
      ∧ ∀ r, (s.port p).slot = .ready r → s.periodCommands p sdi = [.responseRead p sdi.length, i]

/-- The response slot (R185 to R188). In a period whose fall finds it READY the port sends the response frame, cut short where the
period is, and then 0x00; otherwise it sends 0x00 throughout. A request that finds it PENDING or READY, well-formed or not, has no
effect but on the port's dropped-request count, which rises by 1 up to 255. A malformed frame taken into an EMPTY slot is answered
FRAME_ERROR with its third byte as tag, in both port states. A complete read of a response empties the slot and takes the reported
drops off the count; a shorter one leaves the response READY and unchanged. -/
def Obligations.ResponseSlot : Prop :=
  ∀ (p : Port) (s : State),
    let dropped : State := s.setPort p
      { s.port p with dropped := if (s.port p).dropped < 255 then (s.port p).dropped + 1 else (s.port p).dropped }
    ((s.port p).slot ≠ .empty →
      (∀ i a, Instr.row i = some (p, a) → exec i s = .next dropped)
      ∧ exec (.droppedRequest p) s = .next dropped
      ∧ ∀ bytes, deliversRequest bytes = true → frameWellFormed bytes = false → exec (.frameError p bytes) s = .next dropped)
    ∧ ((s.port p).slot = .empty → ∀ bytes, deliversRequest bytes = true → frameWellFormed bytes = false →
      exec (.frameError p bytes) s = .next (s.setSlot p
        (.ready ⟨.frameError, (bytes[2]?).getD 0, false, false, false, (s.port p).dropped, 0, []⟩)))
    ∧ (∀ n k : Nat, k < n → (s.sdo p n)[k]? = some (match (s.port p).slot with
        | .ready r => (r.frame[k]?).getD 0
        | .empty => 0
        | .pending _ => 0))
    ∧ (∀ n, (s.sdo p n).length = n)
    ∧ ∀ r clocked, (s.port p).slot = .ready r →
      (6 + r.payload.length ≤ clocked → exec (.responseRead p clocked) s = .next (s.setPort p
        { s.port p with slot := .empty, dropped := (s.port p).dropped - r.dropped }))
      ∧ (clocked < 6 + r.payload.length → exec (.responseRead p clocked) s = .next s)

/-- The common refusals, in their order, for every request (R191, section 10.7): the response has the status, flags clear, record
count 0 and no payload, and nothing else changes. -/
def Obligations.CommonRefusals : Prop :=
  ∀ (i : Instr) (p : Port) (a : Access) (s : State), Instr.row i = some (p, a) → (s.port p).slot = .empty →
    let refused : Status → Prop := fun st =>
      exec i s = .next (s.setSlot p (.ready ⟨st, i.tag, false, false, false, (s.port p).dropped, 0, []⟩))
    let closed := (s.port p).attached = false ∧ a.detached = false
    (closed → refused .detached)
    ∧ (¬closed → p ∉ a.senders → refused .wrongPort)
    ∧ (¬closed → p ∈ a.senders → a.profile = true →
      (((∃ x, s.store.state = .loading x) ∨ ∃ x, s.store.state = .saving x) → refused .notReady)
      ∧ (s.store.state = .noProfile → refused .noProfile))

/-! ### Link ports -/

/-- ATTACH and DETACH answer OK with the port's identity and its state before. A DETACHED port becomes ATTACHED, and an owed FAULT
PROFILE notice becomes pending with its mark cleared, here told with the engine held; DETACH ends a pulse with its owed repeat;
ATTACH of an ATTACHED and DETACH of a DETACHED port change nothing (R176, R189, R199). -/
def Obligations.AttachDetach : Prop :=
  ∀ (p : Port) (tag : Byte) (s : State), (s.port p).slot = .empty →
    ((s.port p).attached = false →
      (∃ t, exec (.attach p tag) s = .next t ∧ (t.port p).attached = true
        ∧ (t.port p).slot = .ready ⟨.ok, tag, false, false, false, (s.port p).dropped, 0, u8 (Port.code p) ++ u8 0⟩
        ∧ (s.engine.state = .faultHold → t.jobs = s.jobs ∧ t.engine = s.engine ∧ ∀ slot, s.store.owed p = some slot →
          t.store.owed p = none ∧ (t.port p).notices.details.fault = some (.profile slot) ∧ t.isPending p .fault = true))
      ∧ exec (.detach p tag) s = .next (answer p tag { payload := u8 (Port.code p) ++ u8 0 } s))
    ∧ ((s.port p).attached = true →
      exec (.attach p tag) s = .next (answer p tag { payload := u8 (Port.code p) ++ u8 1 } s)
      ∧ exec (.detach p tag) s = .next (answer p tag { payload := u8 (Port.code p) ++ u8 1 }
        (s.setPort p { s.port p with attached := false, notices := { (s.port p).notices with pulse := .idle } })))

/-- IDENTIFY reports part 36 revision 1, the port, its state, the store, the slot in force and the engine, from a port in either
state, and changes nothing (R190). -/
def Obligations.Identify : Prop :=
  ∀ (p : Port) (tag : Byte) (s : State), (s.port p).slot = .empty →
    let report := [36, 1] ++ u8 (Port.code p) ++ flag (s.port p).attached ++ u8 s.store.state.code
      ++ (match s.store.slot with | some n => 1 :: u8 n | none => [0, 0]) ++ u8 s.engine.state.code
    exec (.identify p tag) s = .next (answer p tag { payload := report } s)

/-- SET WINDOW stores the base rounded down to a multiple of the size at the target, whatever its port state, and refuses a target
outside the three, a base above 15 and a size that is not 1, 2, 4, 8 or 16 (R193). -/
def Obligations.SetWindow : Prop :=
  ∀ (tag target base size : Byte) (s : State), s.canSend .workstation →
    let good := target.toNat ≤ 2 ∧ base.toNat ≤ 15 ∧ size.toNat ∈ [1, 2, 4, 8, 16]
    let stored := base.toNat / size.toNat * size.toNat
    (good → ∃ t, Port.code t = target.toNat ∧ exec (.setWindow .workstation tag target base size) s = .next
      (answer .workstation tag { payload := u8 stored ++ u8 size.toNat }
        (s.setPort t { s.port t with window := ⟨stored, size.toNat⟩ })))
    ∧ (¬good → exec (.setWindow .workstation tag target base size) s
      = .next (answer .workstation tag { status := .badArgument } s))

/-- RESET PORT leaves its target as R195 gives: DETACHED, with the full window, its Notice Unit as at power-on, an empty
completion list and no job of its own queued or stacked, and for Port W no OPEN group. The answer gives the numbers removed and
the outcome of the active job, if it ended. From Port P or Port D another target is refused WRONG_PORT, and a code outside the
three BAD_ARGUMENT, in that order as log entry 15 has it (R194). A commit that holds the grant is waited for: the slot stays
PENDING and the answer is kept beside those of other ports, and Commit says that it is given (R11, log entry 15). A port that
resets itself is answered with a dropped-request count of 0. The payload's optional byte is read as log entry 8 has it. Told for
slots that are PENDING exactly while an operation is in hand, which SlotsAndOffsetsKept says every step keeps. -/
def Obligations.ResetPort : Prop :=
  ∀ (p t : Port) (tag target : Byte) (s : State), s.canSend p → s.slotsSound →
    let i := Instr.resetPort p tag target
    let removed := u8 (s.queuedOf t).length ++ u8 (s.stackedOf t).length
    (2 < target.toNat → exec i s = .next (answer p tag { status := .badArgument } s))
    ∧ (portArg target = some t → p ≠ .workstation → t ≠ p → exec i s = .next (answer p tag { status := .wrongPort } s))
    ∧ (portArg target = some t → (p = .workstation ∨ t = p) → ∃ u, exec i s = .next u
      ∧ (s.resetCase t = .waits → (u.port p).slot = .pending i ∧ u.engine.clearPending = true
        ∧ (∀ x ∈ u.engine.resetReplies, x.port = p → x = ⟨p, t, (s.queuedOf t).length, (s.stackedOf t).length⟩)
        ∧ (∃ x ∈ u.engine.resetReplies, x.port = p)
        ∧ ∀ x ∈ s.engine.resetReplies, x.port ≠ p → x.port ≠ t → x ∈ u.engine.resetReplies)
      ∧ (s.resetCase t ≠ .waits → ∃ r, (u.port p).slot = .ready r ∧ r.status = .ok ∧ r.tag = tag
        ∧ r.dropped = (if t = p then 0 else (s.port p).dropped)
        ∧ r.payload = removed ++ match s.resetCase t with
          | .ends o => [1] ++ u8 o.code
          | .withdrawsCommit => [1, 14]
          | .waits => [0, 0]
          | .leaves => [0, 0])
      ∧ (u.port t).attached = false ∧ (u.port t).window = ⟨0, 16⟩ ∧ (u.port t).dropped = 0 ∧ (u.port t).cursor = none
      ∧ (t ≠ p → (u.port t).slot = .empty) ∧ (u.port t).completions = [] ∧ (u.port t).overflow = 0
      ∧ (u.port t).notices = ⟨.all none, .all 0, .all true, .all false, .level, false, 0, .idle⟩
      ∧ u.queuedOf t = [] ∧ u.stackedOf t = [] ∧ (t = .workstation → ∀ g ∈ u.jobs.groups, g.due = true))

/-! ### Notices -/

/-- A post to a DETACHED port is dropped; at an ATTACHED one it stores the detail, raises the merge count up to 255 and leaves the
source pending. No other port's record changes (R173). -/
def Obligations.PostIsRecorded : Prop :=
  ∀ (src : Source) (d : Detail) (p : Port) (s : State),
    (∀ q, q ≠ p → (post src d p s).port q = s.port q)
    ∧ ((s.port p).attached = false → (post src d p s).port p = s.port p)
    ∧ ((s.port p).attached = true →
      ((post src d p s).port p).notices.details.get src = some d
      ∧ ((post src d p s).port p).notices.merge.get src
        = (if (s.port p).notices.merge.get src < 255 then (s.port p).notices.merge.get src + 1
          else (s.port p).notices.merge.get src)
      ∧ (post src d p s).isPending p src = true)

/-- TAKE NOTICE with nothing eligible answers EMPTY; otherwise it takes the eligible source of the greatest number: its code, its
detail, its merge count and the number of sources still eligible are answered, its merge count becomes 0, an event-like source
leaves the pending set with its detail, and with tracking on it enters service (R177). END SERVICE with no source in service
answers EMPTY; otherwise the source of the greatest number leaves the in-service set and is answered, and in PULSE mode a pulse
follows where a source is eligible after it (R176, R178). TAKE COMPLETION removes and returns the oldest record, EMPTY where there
is none, with the overflow count and the number of records left, and sets the overflow count to 0 (R182). -/
def Obligations.NoticesAndCompletionsTaken : Prop :=
  (∀ (p : Port) (tag : Byte) (s : State), s.canSend p →
    ((∀ src, s.isEligible p src = false) →
      exec (.takeNotice p tag) s = .next (answer p tag { status := .empty } s))
    ∧ ∀ src, s.isEligible p src = true → (∀ o, s.isEligible p o = true → o.num ≤ src.num) →
      let u := (s.port p).notices
      let t := s.setNotices p { u with
        details := if src.isLevel = true then u.details else u.details.set src none
        merge := u.merge.set src 0
        inService := if u.tracking = true then u.inService.set src true else u.inService }
      exec (.takeNotice p tag) s = .next (answer p tag
        { payload := u8 (u.baseCode * 16 + src.num) ++ detailBytes (s.noticeDetail p src) ++ u8 (u.merge.get src)
            ++ u8 (Source.descending.filter fun o => t.isEligible p o).length } t))
  ∧ ∀ (p : Port) (tag : Byte) (s : State), s.canSend p →
    ((∀ src, (s.port p).notices.inService.get src = false) →
      exec (.endService p tag) s = .next (answer p tag { status := .empty } s))
    ∧ ∀ src, (s.port p).notices.inService.get src = true →
      (∀ o, (s.port p).notices.inService.get o = true → o.num ≤ src.num) →
      let u := { (s.port p).notices with inService := (s.port p).notices.inService.set src false }
      let t := s.setNotices p u
      exec (.endService p tag) s = .next (answer p tag { payload := u8 src.num }
        (if u.mode = .pulse ∧ t.hasEligible p = true then pulseCause p t else t))
  ∧ ∀ (p : Port) (tag : Byte) (s : State), s.canSend p →
    ((s.port p).completions = [] → exec (.takeCompletion p tag) s = .next
      (answer p tag { status := .empty, payload := u8 (s.port p).overflow ++ u8 0 } (s.setPort p { s.port p with overflow := 0 })))
    ∧ ∀ r rest, (s.port p).completions = r :: rest → exec (.takeCompletion p tag) s = .next
      (answer p tag { records := 1, payload := u8 (s.port p).overflow ++ u8 rest.length ++ r.bytes }
        (s.setPort p { s.port p with completions := rest, overflow := 0 }))

/-- SET NOTICE MASK replaces the mask set, bits 10 to 15 of its argument ignored (log entry 14), and SET NOTICE MODE the three
settings: tracking off empties the in-service set, tracking kept on keeps it and tracking turned on starts with it empty (log
entry 23), and LEVEL ends a pulse. A pulse follows in PULSE mode where a source is eligible, and both answer the notice report
after the change, whose bytes are read as log entry 8 has them. A base code above 15 or an unknown mode or setting is refused
(R176, R179, R180). A pulse ends, and one that owes a repeat is followed by 2 µs of low and a second pulse (R176). -/
def Obligations.NoticeSettingsAndPulses : Prop :=
  (∀ (p : Port) (tag : Byte) (s : State), s.canSend p →
    let finish : State → State := fun t =>
      let t := if (t.port p).notices.mode = .pulse ∧ t.hasEligible p = true then pulseCause p t else t
      answer p tag { payload := t.noticeReport p } t
    (∀ set, exec (.setNoticeMask p tag set) s
      = .next (finish (s.setNotices p { (s.port p).notices with mask := maskArg set })))
    ∧ ∀ mode tracking base,
      (∀ m on, modeArg mode = some m → flagArg tracking = some on → base.toNat ≤ 15 →
        exec (.setNoticeMode p tag mode tracking base) s = .next (finish (s.setNotices p
          { (s.port p).notices with
            mode := m, tracking := on, baseCode := base.toNat
            inService := if on = true ∧ (s.port p).notices.tracking = true then (s.port p).notices.inService else .all false
            pulse := if m = .level then .idle else (s.port p).notices.pulse })))
      ∧ ((1 < mode.toNat ∨ 1 < tracking.toNat ∨ 15 < base.toNat) →
        exec (.setNoticeMode p tag mode tracking base) s = .next (answer p tag { status := .badArgument } s)))
  ∧ ∀ (p : Port) (left : Nat) (s : State),
    ((s.port p).notices.pulse = .pulsing left false → exec (.attnPulseEnd p) s
      = .next (s.setNotices p { (s.port p).notices with pulse := .idle }))
    ∧ ((s.port p).notices.pulse = .pulsing left true → exec (.attnPulseEnd p) s
      = .next (s.setNotices p { (s.port p).notices with pulse := .low 2 }))
    ∧ ((s.port p).notices.pulse = .low left → exec (.attnSecondPulse p) s
      = .next (s.setNotices p { (s.port p).notices with pulse := .pulsing 2 false }))

/-! ### The Job Queue -/

/-- The queue's order and its ids. In a queue in class order a submitted job stands behind every queued job of its own class and
above and ahead of every one of a lower class, and an automatic check stands ahead of its own class too (R123). While at most 27
ids are held, the new job id is the first from the next job id upward, wrapping from 255 to 1, that is not held (R122). -/
def Obligations.QueueOrderAndIds : Prop :=
  (∀ (j : JobRecord) (q : List JobRecord), q.Pairwise (fun a b => b.cls.rank ≤ a.cls.rank) →
    enqueue j q = (q.filter fun k => decide (j.cls.rank ≤ k.cls.rank)) ++ j :: q.filter fun k => decide (k.cls.rank < j.cls.rank)
    ∧ enqueueAutomatic j q
      = (q.filter fun k => decide (j.cls.rank < k.cls.rank)) ++ j :: q.filter fun k => decide (k.cls.rank ≤ j.cls.rank))
  ∧ ∀ s : State, s.heldIds.length ≤ 27 → 1 ≤ s.jobs.nextJob → s.jobs.nextJob ≤ 255 →
    ∃ n < 255, s.newJobId = (s.jobs.nextJob - 1 + n) % 255 + 1 ∧ s.newJobId ∉ s.heldIds
      ∧ ∀ m < n, (s.jobs.nextJob - 1 + m) % 255 + 1 ∈ s.heldIds

/-- SUBMIT MEASURE, SUBMIT REFERENCE CHECK and SUBMIT MOVE that pass their checks answer OK with the new id and the number of jobs
ahead, and the job is then held. With the engine in FAULT_HOLD it waits at its place in the queue, its entry QUEUED (R124 to
R127). The checks of a submission are made in their order, and QUEUE_FULL arms the port: the response is the first failing
check's, and only QUEUE_FULL changes anything else, the port's QUEUE_SPACE mark (R124, R128). -/
def Obligations.Submissions : Prop :=
  (∀ (p : Port) (tag : Byte) (s : State), s.canSendReady p → s.jobs.queue.length < 24 →
    let queued : Instr → JobWork → JobClass → Submitter → Option Nat → Answer → Prop := fun i w c b l a =>
      (∃ t, exec i s = .next t ∧ s.newJobId ∈ t.heldIds
        ∧ (t.port p).slot = .ready ⟨.ok, tag, a.clamped, false, false, (s.port p).dropped, 0, a.payload⟩)
      ∧ (s.engine.state = .faultHold → exec i s = .next (answer p tag a (setStatus w .queued { s with jobs := { s.jobs with
          queue := enqueue ⟨s.newJobId, w, c, b, none, l⟩ s.jobs.queue
          nextJob := if s.newJobId < 255 then s.newJobId + 1 else 1 } })))
    let ahead : JobClass → Nat := fun c => (s.jobs.queue.takeWhile fun k => decide (c.rank ≤ k.cls.rank)).length
    (∀ head zone cls limit c l, p = .workstation → sweepClassArg cls = some c → limitArg limit = some l →
      s.entryCheck p head.toNat zone.toNat = none →
      queued (.submitMeasure p tag head zone cls limit) (.measure head.toNat zone.toNat) c .w l
        { payload := u8 s.newJobId ++ u8 (ahead c) })
    ∧ (∀ zone : Byte, p ≠ .adapter → s.entryCheck p s.store.profile.referenceHead zone.toNat = none →
      queued (.submitReferenceCheck p tag zone) (.referenceCheck s.store.profile.referenceHead zone.toNat)
        (if p = .positioner then .urgent else .priority) (if p = .positioner then .p else .w) none
        { payload := u8 s.newJobId ++ u8 (ahead (if p = .positioner then .urgent else .priority)) })
    ∧ (∀ target : CountWord, p = .workstation →
      let kept := s.store.profile.clampTravel target.toInt
      queued (.submitMove p tag target) (.moveTo kept) .normal .w none
        { clamped := kept != target.toInt, payload := u8 s.newJobId ++ le 3 kept ++ u8 (ahead .normal) }))
  ∧ ∀ (tag head zone cls limit : Byte) (s : State), s.canSendReady .workstation →
    let i := Instr.submitMeasure .workstation tag head zone cls limit
    let pr := s.store.profile
    if 1 < cls.toNat ∨ 8 < limit.toNat ∨ pr.headCount ≤ head.toNat ∨ pr.zoneCount ≤ zone.toNat then
      exec i s = .next (answer .workstation tag { status := .badArgument } s)
    else if (s.port .workstation).window.inside head.toNat = false then
      exec i s = .next (answer .workstation tag { status := .outOfWindow } s)
    else if s.status head.toNat zone.toNat ≠ .idle then exec i s = .next (answer .workstation tag { status := .entryBusy } s)
    else if 24 ≤ s.jobs.queue.length then
      exec i s = .next (answer .workstation tag { status := .queueFull } { s with jobs := { s.jobs with spaceW := true } })
    else ∃ t r, exec i s = .next t ∧ (t.port .workstation).slot = .ready r ∧ r.status = .ok

/-- A MEASURE accepted into an empty queue with the engine IDLE, nothing stacked or due, both handshake ports ATTACHED and the
arbiter FREE becomes the active job at once: its entry is MEASURING and the engine, in HEAD_WAIT, holds the grant for its E0
look-up (R30, R124, R138, R157). -/
def Obligations.SubmittedJobStarts : Prop :=
  ∀ (tag head zone cls limit : Byte) (s : State), s.canSendReady .workstation →
    cls.toNat ≤ 1 → limit.toNat ≤ 8 → s.entryCheck .workstation head.toNat zone.toNat = none →
    entryIndex head.toNat zone.toNat < 192 → s.engine.state = .idle → s.engine.active = none →
    s.jobs.queue = [] → s.stack = [] → s.jobs.groups = [] →
    (s.port .positioner).attached = true → (s.port .adapter).attached = true → s.arbiter.holder = none →
    ∃ t r, exec (.submitMeasure .workstation tag head zone cls limit) s = .next t
      ∧ t.engine.state = .headWait ∧ t.engine.active = some r ∧ r.job.id = s.newJobId
      ∧ r.limit = (if limit = 0 then s.store.profile.maxIterations else limit.toNat)
      ∧ r.stage = .first ∧ r.e0 = none ∧ r.iterations = 0 ∧ t.jobs.queue = []
      ∧ t.status head.toNat zone.toNat = .measuring ∧ t.arbiter.holder = some (.engine, .e0LookUp)

/-- Preemption and resume (R145, R146, R150, R151). A reference check that Port P submits while a job of a lower class is active,
with room on the stack, displaces it: the record stands on the stack as it was, its entry SUSPENDED, both requests withdrawn with
cause PREEMPTED and their notices, without a completion record or any accounting, and the new job is active in HEAD_WAIT and asks
for its E0 look-up. RESUME ENGINE resumes the top context: a search that holds E0 goes on with the record as saved, its stage,
targets and E0 kept, and a new head request; one without E0 asks for its look-up; a MOVE TO places its move again. -/
def Obligations.PreemptionAndResume : Prop :=
  (∀ (tag zone : Byte) (r : SearchRecord) (s : State), s.canSendReady .positioner → s.engine.active = some r →
    s.engine.state.working = true → r.job.cls ≠ .urgent → s.stack.length < 2 → (∀ j ∈ s.jobs.queue, j.cls ≠ .urgent) →
    (∀ g ∈ s.jobs.groups, g.due = false) → (s.port .adapter).attached = true → s.arbiter.holder = none →
    s.entryCheck .positioner s.store.profile.referenceHead zone.toNat = none →
    entryIndex s.store.profile.referenceHead zone.toNat < 192 →
    (∀ h z, r.job.work.place = some (h, z) → h < 16 ∧ z < 12 ∧ s.status h z = .measuring) →
    ∃ t x, exec (.submitReferenceCheck .positioner tag zone) s = .next t ∧ t.stack = r :: s.stack
      ∧ (∀ h z, r.job.work.place = some (h, z) → t.status h z = .suspended)
      ∧ t.engine.state = .headWait ∧ t.engine.active = some x ∧ x.job.id = s.newJobId ∧ x.job.cls = .urgent
      ∧ x.job.work = .referenceCheck s.store.profile.referenceHead zone.toNat ∧ x.stage = .first ∧ x.e0 = none
      ∧ t.status s.store.profile.referenceHead zone.toNat = .measuring ∧ t.arbiter.holder = some (.engine, .e0LookUp)
      ∧ t.handshake.move = none ∧ t.handshake.head = none ∧ t.engine.dwell.n = 0
      ∧ (s.engine.state = .dwell → t.sample.fifo = [])
      ∧ (∀ m, s.handshake.move = some m → t.handshake.lastMoveEnd = some (.withdrawn .preempted, m.sequence)
        ∧ (t.port .positioner).notices.details.withdrawn = some (.withdrawn m.sequence .preempted))
      ∧ (∀ h, s.handshake.head = some h → t.handshake.lastHeadEnd = some (.withdrawn .preempted, h.sequence)
        ∧ (t.port .adapter).notices.details.withdrawn = some (.withdrawn h.sequence .preempted))
      ∧ (∀ p, (t.port p).completions = (s.port p).completions) ∧ t.jobs.queue = s.jobs.queue ∧ t.jobs.groups = s.jobs.groups
      ∧ t.jobs.drift = s.jobs.drift ∧ t.jobs.pendingZone = s.jobs.pendingZone)
  ∧ ∀ (tag : Byte) (r : SearchRecord) (rest : List SearchRecord) (s : State), s.canSend .workstation →
    s.engine.state = .faultHold → s.conditionPresent = false → s.store.state = .ready → s.stack = r :: rest →
    (∀ j ∈ s.jobs.queue, j.cls.rank ≤ r.job.cls.rank) → (∀ g ∈ s.jobs.groups, g.due = false) →
    (s.port .positioner).attached = true → (s.port .adapter).attached = true →
    ∃ t, exec (.resumeEngine .workstation tag) s = .next t ∧ t.stack = rest
      ∧ (∀ h z, h < 16 → z < 12 → r.job.work.place = some (h, z) → t.status h z = .measuring)
      ∧ (∀ h z, r.job.work.place = some (h, z) →
        t.engine.state = .headWait ∧ t.engine.active = some r
        ∧ (r.e0.isSome = true →
          t.handshake.head = some ⟨.requested, nextSequence s.handshake.headSequence, h, r.job.id⟩
          ∧ t.handshake.headTimeout = .running (s.store.profile.headSelectTimeout * 1000) ∧ t.arbiter = s.arbiter)
        ∧ (r.e0 = none → s.arbiter.holder = none → t.arbiter.holder = some (.engine, .e0LookUp)))
      ∧ ∀ target, r.job.work = .moveTo target →
        let aim := s.store.profile.clampTravel (r.target.getD 0)
        t.engine.state = .moveWait ∧ t.engine.active = some { r with target := some aim }
        ∧ t.handshake.move = some ⟨.requested, nextSequence s.handshake.moveSequence, aim, r.job.id⟩
        ∧ t.handshake.moveTimeout = .running (s.store.profile.moveTimeout * 1000)

/-- SUBMIT SWEEP that passes its checks: every IDLE entry of the rectangle, in head-major order, becomes a NORMAL or PRIORITY
MEASURE of one new OPEN group, here with the engine held. The jobs stand together in that order behind every queued job of their
class and above, each with the first free id after the one before it, their entries QUEUED, and the answer gives the group, the
first and the last id and the two counts. A rectangle without an IDLE entry queues nothing, and too many members or a full group
table refuse it (R122, R123, R129, R130). The optional bytes of the answer are read as log entry 8 has them. -/
def Obligations.SweepQueues : Prop :=
  ∀ (tag fh lh fz lz cls publish : Byte) (c : JobClass) (f : Bool) (s : State), s.canSendReady .workstation →
    sweepClassArg cls = some c → flagArg publish = some f →
    s.sweepCheck .workstation fh.toNat lh.toNat fz.toNat lz.toNat = none →
    let i := Instr.submitSweep .workstation tag fh lh fz lz cls publish
    let places := (List.range' fh.toNat (lh.toNat + 1 - fh.toNat)).flatMap fun h =>
      (List.range' fz.toNat (lz.toNat + 1 - fz.toNat)).map fun z => (h, z)
    let members := places.filter fun hz => s.status hz.1 hz.2 == .idle
    (members = [] → exec i s = .next (answer .workstation tag
      { payload := [0, 0, 0, 0, 0, 0] ++ u8 0 ++ u8 places.length } s))
    ∧ (members ≠ [] → 24 - s.jobs.queue.length < members.length → exec i s = .next
      (answer .workstation tag { status := .queueFull } { s with jobs := { s.jobs with spaceW := true } }))
    ∧ (members ≠ [] → members.length ≤ 24 - s.jobs.queue.length → 4 ≤ s.jobs.groups.length → exec i s = .next
      (answer .workstation tag { status := .groupsFull } s))
    ∧ (members ≠ [] → members.length ≤ 24 - s.jobs.queue.length → s.jobs.groups.length < 4 → s.engine.state = .faultHold →
      s.idsSound → s.store.profile.headCount ≤ 16 → s.store.profile.zoneCount ≤ 12 →
      ∃ t ids, exec i s = .next t
        ∧ t.jobs.groups = s.jobs.groups ++ [⟨s.newGroupId, .w, members.length, f, false, false⟩]
        ∧ ids.length = members.length ∧ ids.head? = some s.newJobId ∧ (s.heldIds ++ ids).Nodup
        ∧ (∀ k x y, ids[k]? = some x → ids[k + 1]? = some y → ∃ n, y = (x + n) % 255 + 1
          ∧ ∀ m, m < n → (x + m) % 255 + 1 ∈ s.heldIds ++ ids.take (k + 1))
        ∧ t.jobs.queue = (s.jobs.queue.takeWhile fun j => decide (c.rank ≤ j.cls.rank))
          ++ (ids.zip members).map (fun x => ⟨x.1, .measure x.2.1 x.2.2, c, .w, some s.newGroupId, none⟩)
          ++ s.jobs.queue.dropWhile fun j => decide (c.rank ≤ j.cls.rank)
        ∧ (∀ hz ∈ members, t.status hz.1 hz.2 = .queued)
        ∧ ∃ last, ids.getLast? = some last
          ∧ (t.port .workstation).slot = .ready ⟨.ok, tag, false, false, false, (s.port .workstation).dropped, 0,
            [1] ++ u8 s.newGroupId ++ [1] ++ u8 s.newJobId ++ [1] ++ u8 last ++ u8 members.length
              ++ u8 (places.length - members.length)⟩)

/-- CANCEL by where the job stands (R133): an id of 0 is BAD_ARGUMENT, an unheld id UNKNOWN_JOB, another submitter's job
WRONG_PORT from Port P, and a job in COMMIT TOO_LATE, with no other change. A queued job leaves the queue, a stacked one the
stack, and an active one in HEAD_WAIT, MOVE_WAIT, SETTLING or DWELL ends: its id is held no more, here where its end inserts no
automatic check, its record CANCELLED joins its submitter's list where there is room, and where no further work waits the engine
is IDLE with both handshakes NONE. The byte that names the place is read as log entry 8 has it. -/
def Obligations.CancelJob : Prop :=
  ∀ (p : Port) (tag id : Byte) (s : State), s.canSend p → p ≠ .adapter →
    let i := Instr.cancel p tag id 0
    (id = 0 → exec i s = .next (answer p tag { status := .badArgument } s))
    ∧ (id ≠ 0 → id.toNat ∉ s.heldIds → exec i s = .next (answer p tag { status := .unknownJob } s))
    ∧ ∀ found, id ≠ 0 → s.heldIds.Nodup → s.findJob id.toNat = some found →
      let ends : Nat → Nat → Prop := fun place iterations =>
        let q := Submitter.port found.job.submitter
        ∃ t, exec i s = .next t
          ∧ (t.port p).slot = .ready ⟨.ok, tag, false, false, false, (s.port p).dropped, 0, u8 place⟩
          ∧ (s.store.profile.driftInterval = 0 → s.jobs.pendingZone = none → id.toNat ∉ t.heldIds)
          ∧ ((s.port q).completions.length < 8 → (t.port q).completions
            = (s.port q).completions ++ [plainRecord found.job .cancelled iterations s.sample.revolutions])
          ∧ (s.engine.state = .faultHold → t.engine = s.engine ∧ t.jobs.queue = s.jobs.queue.filter (fun j => j.id != id.toNat)
            ∧ t.stack = s.stack.filter (fun r => r.job.id != id.toNat)
            ∧ ∀ h z, h < 16 → z < 12 → found.job.work.place = some (h, z) → t.status h z = .idle)
      if p = .positioner ∧ found.job.submitter ≠ .p then exec i s = .next (answer p tag { status := .wrongPort } s)
      else match found with
        | .queued _ => ends 0 0
        | .active r =>
          if s.engine.state.working = true then ends 1 r.iterations
            ∧ (s.jobs.queue = [] → s.stack = [] → s.jobs.groups = [] → s.store.profile.driftInterval = 0 →
              s.jobs.pendingZone = none → s.engine.faultPending = false → ∃ t, exec i s = .next t ∧ t.engine.state = .idle
                ∧ t.engine.active = none ∧ t.handshake.move = none ∧ t.handshake.head = none
                ∧ ∀ h z, h < 16 → z < 12 → r.job.work.place = some (h, z) → t.status h z = .idle)
          else exec i s = .next (answer p tag { status := .tooLate } s)
        | .stacked r => ends 2 r.iterations

/-- CANCEL of a group: refused from Port P ahead of the check of its id (log entry 16), for an id outside 1..15, for an unheld id
and for a group that is PUBLISH_DUE; otherwise, told here with the engine held and no active job, no queued or stacked member
remains and it answers the numbers cancelled and left (R134), one byte each as log entry 8 has them. -/
def Obligations.CancelGroup : Prop :=
  ∀ (tag id : Byte) (s : State), s.canSend .workstation →
    let i := Instr.cancelGroup .workstation tag id
    ((id = 0 ∨ 15 < id.toNat) → exec i s = .next (answer .workstation tag { status := .badArgument } s))
    ∧ (1 ≤ id.toNat → id.toNat ≤ 15 →
      ((∀ g ∈ s.jobs.groups, g.id ≠ id.toNat) → exec i s = .next (answer .workstation tag { status := .unknownJob } s))
      ∧ ∀ g, s.jobs.groups.find? (fun g => g.id == id.toNat) = some g →
        (g.due = true → exec i s = .next (answer .workstation tag { status := .tooLate } s))
        ∧ (g.due = false → s.engine.state = .faultHold → s.engine.active = none → ∃ t, exec i s = .next t
          ∧ (∀ j ∈ t.jobs.queue, j.group ≠ some id.toNat) ∧ (∀ r ∈ t.stack, r.job.group ≠ some id.toNat)
          ∧ (t.port .workstation).slot = .ready ⟨.ok, tag, false, false, false, (s.port .workstation).dropped, 0,
            u8 ((s.jobs.queue.filter fun j => j.inGroup id.toNat).length
              + (s.stack.filter fun r => r.job.inGroup id.toNat).length) ++ u8 0⟩))
    ∧ (s.canSend .positioner → exec (.cancelGroup .positioner tag id) s
      = .next (answer .positioner tag { status := .wrongPort } s))

/-- RESUME ENGINE in FAULT_HOLD is refused while PFAULT is high or the count lies outside the travel limits in force, and
otherwise releases the engine, here with no work waiting; in another state it changes nothing (R58). -/
def Obligations.ResumeEngine : Prop :=
  ∀ (tag : Byte) (s : State), s.canSend .workstation →
    let i := Instr.resumeEngine .workstation tag
    let outside := s.store.slot.isSome = true
      ∧ (s.frame.count < s.store.profile.travelLow ∨ s.store.profile.travelHigh < s.frame.count)
    (s.engine.state ≠ .faultHold →
      exec i s = .next (answer .workstation tag { payload := u8 s.engine.state.code } s))
    ∧ (s.engine.state = .faultHold → (s.frame.pfault.level = true ∨ outside) →
      exec i s = .next (answer .workstation tag { status := .conditionPresent } s))
    ∧ (s.engine.state = .faultHold → s.frame.pfault.level = false → ¬outside →
      s.jobs.queue = [] → s.stack = [] → s.jobs.groups = [] →
      exec i s = .next (answer .workstation tag { payload := u8 0 } { s with engine := { s.engine with state := .idle } }))

/-- What the end of an active job is counted for, told for the move timeout's expiry with Port P DETACHED, so that no further job
starts. A MEASURE raises the drift counter while it is below the drift interval, and the one that reaches it makes its zone
pending (R136). A pending zone puts a PRIORITY reference check of INTERNAL ahead of the queued PRIORITY jobs where there is room
and its entry is IDLE, and waits otherwise (R137). The job's group has one member less, and the last one closes it: a group to be
published and not cancelled becomes PUBLISH_DUE, behind those that are (log entry 17), and the engine enters PUBLISH, and any
other leaves the table (R131, R132). -/
def Obligations.EndAccounting : Prop :=
  ∀ (m : MoveRequest) (left : Nat) (r : SearchRecord) (s : State), s.engine.active = some r → s.engine.state.working = true →
    s.handshake.move = some m → s.handshake.moveTimeout = .running left → s.engine.faultPending = false →
    (s.port .positioner).attached = false → s.idsSound → s.store.profile.referenceHead < 16 → s.store.profile.zoneCount ≤ 12 →
    (∀ h z, r.job.work.place = some (h, z) → h < 16 ∧ z < 12) →
    let pr := s.store.profile
    let counts := match r.job.work with
      | .measure _ _ => decide (s.jobs.drift < pr.driftInterval)
      | _ => false
    let drift := if counts = true then s.jobs.drift + 1 else s.jobs.drift
    let zone := match r.job.work with
      | .measure _ z => if counts = true ∧ drift = pr.driftInterval then some z else s.jobs.pendingZone
      | _ => s.jobs.pendingZone
    ∃ t, exec .moveTimeoutExpiry s = .next t ∧ t.engine.active = none
      ∧ (zone = none → t.jobs.drift = drift ∧ t.jobs.pendingZone = none ∧ t.jobs.queue = s.jobs.queue
        ∧ ∀ h z, r.job.work.place = some (h, z) → t.status h z = .idle)
      ∧ (∀ z, zone = some z →
        let room := s.jobs.queue.length < 24 ∧ z < pr.zoneCount
          ∧ (s.status pr.referenceHead z = .idle ∨ r.job.work.place = some (pr.referenceHead, z))
        (¬room → t.jobs.drift = drift ∧ t.jobs.pendingZone = some z ∧ t.jobs.queue = s.jobs.queue)
        ∧ (room → t.jobs.drift = 0 ∧ t.jobs.pendingZone = none ∧ t.status pr.referenceHead z = .queued
          ∧ ∃ id, id ∉ s.jobs.queue.map JobRecord.id ∧ (∀ x ∈ s.stack, x.job.id ≠ id)
            ∧ t.jobs.queue = (s.jobs.queue.takeWhile fun k => decide (JobClass.priority.rank < k.cls.rank))
              ++ ⟨id, .referenceCheck pr.referenceHead z, .priority, .internal, none, none⟩
              :: s.jobs.queue.dropWhile fun k => decide (JobClass.priority.rank < k.cls.rank)))
      ∧ ((∀ g ∈ s.jobs.groups, g.due = false) →
        (r.job.group = none → t.jobs.groups = s.jobs.groups ∧ t.engine.state = .idle)
        ∧ ∀ g, r.job.group = some g.id → s.jobs.groups.find? (fun k => k.id == g.id) = some g →
          let others := s.jobs.groups.filter fun k => k.id != g.id
          (1 < g.members → t.engine.state = .idle
            ∧ t.jobs.groups = s.jobs.groups.map fun k => if k.id = g.id then { k with members := k.members - 1 } else k)
          ∧ (g.members ≤ 1 → g.publishAtEnd = true → g.cancelled = false →
            t.jobs.groups = others ++ [{ g with members := 0, due := true }]
            ∧ t.engine.state = .publish ∧ t.engine.publishing = some g.id)
          ∧ (g.members ≤ 1 → (g.publishAtEnd = false ∨ g.cancelled = true) → t.jobs.groups = others ∧ t.engine.state = .idle))

/-! ### The handshakes -/

/-- TAKE MOVE (R103) and TAKE HEAD REQUEST (R110): REQUESTED becomes TAKEN and the record is returned, TAKEN returns it again,
every other state is EMPTY; nothing else changes, the timeouts included. -/
def Obligations.TakeRequests : Prop :=
  (∀ (tag : Byte) (s : State), s.canSend .positioner →
    (∀ m, s.handshake.move = some m → (m.phase = .requested ∨ m.phase = .taken) →
      exec (.takeMove .positioner tag) s = .next (answer .positioner tag
        { payload := u8 m.sequence ++ le 3 m.target ++ u8 m.job }
        { s with handshake := { s.handshake with move := some { m with phase := .taken } } }))
    ∧ ((∀ m, s.handshake.move = some m → m.phase = .done ∨ m.phase = .settled) →
      exec (.takeMove .positioner tag) s = .next (answer .positioner tag { status := .empty } s)))
  ∧ ∀ (tag : Byte) (s : State), s.canSend .adapter →
    (∀ r, s.handshake.head = some r → (r.phase = .requested ∨ r.phase = .taken) →
      exec (.takeHeadRequest .adapter tag) s = .next (answer .adapter tag
        { payload := u8 r.sequence ++ u8 r.head ++ u8 r.job }
        { s with handshake := { s.handshake with head := some { r with phase := .taken } } }))
    ∧ ((∀ r, s.handshake.head = some r → r.phase = .delay ∨ r.phase = .ready) →
      exec (.takeHeadRequest .adapter tag) s = .next (answer .adapter tag { status := .empty } s))

/-- MOVE DONE (R33, R94, R104): a matching sequence in REQUESTED or TAKEN makes the move DONE, or SETTLED at once with a settle
time of 0 and the count in the window. An engine in MOVE_WAIT, its servo not lost for the whole loss timeout, enters SETTLING, and
a measuring job goes on to its dwell where the test is met at once; an engine in HEAD_WAIT stays there. In DONE or SETTLED nothing
changes, and an unmatched sequence is STALE_SEQUENCE. That 0 matches nothing is log entry 23. -/
def Obligations.MoveDone : Prop :=
  ∀ (tag sequence : Byte) (s : State), s.canSend .positioner →
    let i := Instr.moveDone .positioner tag sequence
    ((sequence = 0 ∨ ∀ m, s.handshake.move = some m → m.sequence ≠ sequence.toNat) →
      exec i s = .next (answer .positioner tag { status := .staleSequence } s))
    ∧ ∀ m, sequence ≠ 0 → s.handshake.move = some m → m.sequence = sequence.toNat →
      (m.phase = .done → exec i s = .next (answer .positioner tag { payload := u8 3 } s))
      ∧ (m.phase = .settled → exec i s = .next (answer .positioner tag { payload := u8 4 } s))
      ∧ ((m.phase = .requested ∨ m.phase = .taken) → s.engine.state = .moveWait → s.sample.lossExpired = false →
        let within := decide ((s.frame.count - m.target).natAbs ≤ s.store.profile.settleWindow)
        let met := within && s.store.profile.settleTime == 0
        (met = false → ∃ t, exec i s = .next t ∧ t.engine = { s.engine with state := .settling }
          ∧ t.handshake.move = some { m with phase := .done } ∧ t.handshake.moveTimeout = s.handshake.moveTimeout
          ∧ t.frame.settle = (if within = true then .timing else .outside)
          ∧ (within = true → t.frame.settleTimer = .running (s.store.profile.settleTime * 1000))
          ∧ (t.port .positioner).slot = .ready ⟨.ok, tag, false, false, false, (s.port .positioner).dropped, 0, u8 3⟩)
        ∧ (met = true → ∀ r, s.engine.active = some r → r.job.work.needsHead = true → ∃ t, exec i s = .next t
          ∧ t.engine.state = .dwell ∧ t.engine.active = some r ∧ t.engine.dwell.n = 0 ∧ t.sample.fifo = []
          ∧ t.handshake.move = some { m with phase := .settled } ∧ t.frame.settle = .met
          ∧ (t.port .positioner).slot = .ready ⟨.ok, tag, false, false, false, (s.port .positioner).dropped, 0, u8 4⟩))
      ∧ ((m.phase = .requested ∨ m.phase = .taken) → s.engine.state = .headWait →
        let within := decide ((s.frame.count - m.target).natAbs ≤ s.store.profile.settleWindow)
        let met := within && s.store.profile.settleTime == 0
        ∃ t, exec i s = .next t
          ∧ t.handshake.move = some { m with phase := if met = true then .settled else .done }
          ∧ t.frame.settle = (if met = true then .met else if within = true then .timing else .outside)
          ∧ t.engine = s.engine ∧ t.jobs = s.jobs ∧ t.stack = s.stack ∧ t.handshake.head = s.handshake.head
          ∧ t.levelHolds .positioner .moveRequest = false
          ∧ (t.port .positioner).slot = .ready ⟨.ok, tag, false, false, false, (s.port .positioner).dropped, 0,
            u8 (if met = true then 4 else 3)⟩)

/-- What ends the active job beside its search and its faults (R44, R52, R105, R106, R113, R114): MOVE REFUSED, the move timeout,
HEAD REFUSED, the head select timeout, and the servo loss timeout in SETTLING, in DWELL, and in HEAD_WAIT with the head request in
DELAY leave both handshakes NONE with the end that is given, and the job with its outcome in its submitter's list, here where no
further work waits. In every other case the servo loss timeout's expiry ends no job. -/
def Obligations.JobEndings : Prop :=
  (∀ (tag sequence reason : Byte) (r : SearchRecord) (s : State), s.engine.active = some r → s.engine.state.working = true →
    s.jobs.queue = [] → s.stack = [] → s.jobs.groups = [] → s.jobs.pendingZone = none → s.store.profile.driftInterval = 0 →
    s.engine.faultPending = false → (s.port (Submitter.port r.job.submitter)).completions = [] →
    let ends : Instr → JobOutcome → (HandshakeUnit → Prop) → Prop := fun i o how => ∃ t, exec i s = .next t
      ∧ t.handshake.move = none ∧ t.handshake.head = none ∧ how t.handshake ∧ t.engine.state = .idle ∧ t.engine.active = none
      ∧ (t.port (Submitter.port r.job.submitter)).completions = [plainRecord r.job o r.iterations s.sample.revolutions]
    (∀ m, s.canSend .positioner → sequence ≠ 0 → s.handshake.move = some m → m.sequence = sequence.toNat →
      (m.phase = .requested ∨ m.phase = .taken) → ends (.moveRefused .positioner tag sequence reason) .moveTimeout
        fun h => h.lastMoveEnd = some (.refused reason.toNat, m.sequence))
    ∧ (∀ x, s.canSend .adapter → sequence ≠ 0 → s.handshake.head = some x → x.sequence = sequence.toNat →
      (x.phase = .requested ∨ x.phase = .taken) → ends (.headRefused .adapter tag sequence reason) .headFault
        fun h => h.lastHeadEnd = some (.refused reason.toNat, x.sequence))
    ∧ (∀ m left, s.handshake.move = some m → s.handshake.moveTimeout = .running left →
      ends .moveTimeoutExpiry .moveTimeout fun h => h.lastMoveEnd = some (.timedOut, m.sequence))
    ∧ (∀ x left, s.handshake.head = some x → s.handshake.headTimeout = .running left →
      ends .headSelectTimeoutExpiry .headFault fun h => h.lastHeadEnd = some (.timedOut, x.sequence))
    ∧ (∀ left, s.sample.loss = .running left → r.job.work.needsHead = true →
      (s.engine.state = .settling ∨ s.engine.state = .dwell
        ∨ (s.engine.state = .headWait ∧ ∃ x, s.handshake.head = some x ∧ x.phase = .delay)) →
      ends .servoLossTimeoutExpiry .servoLost fun _ => True))
  ∧ ∀ (left : Nat) (s : State), s.sample.loss = .running left →
    (s.measuring = false ∨ s.engine.state ∈ [.idle, .moveWait, .commit, .publish, .faultHold]
      ∨ (s.engine.state = .headWait ∧ ∀ x, s.handshake.head = some x → x.phase ≠ .delay)) →
    exec .servoLossTimeoutExpiry s = .next { s with sample := { s.sample with loss := .expired } }

/-- HEAD SELECTED (R111, R112, R117): a head above 15 is refused with no effect; any other report sets the selected head and
flushes the FIFO at a change. An answer naming the requested head starts the head settle delay, here one of at least 1 ms with the
servo LOCKED; one naming another head ends the request MISMATCH. A report while DELAY or READY that names another head reissues
the request with the next sequence; any other leaves the request. -/
def Obligations.HeadSelected : Prop :=
  ∀ (tag sequence head : Byte) (s : State), s.canSend .adapter →
    let i := Instr.headSelected .adapter tag sequence head
    let flushed := if s.handshake.selected = some head.toNat then s.sample.fifo else []
    let matching : HeadRequest → Prop := fun r => sequence ≠ 0 ∧ r.sequence = sequence.toNat
    (15 < head.toNat → exec i s = .next (answer .adapter tag { status := .badArgument } s))
    ∧ (head.toNat ≤ 15 → s.handshake.head = none → exec i s = .next (answer .adapter tag
      { status := if sequence = 0 then .ok else .staleSequence }
      { s with handshake := { s.handshake with selected := some head.toNat }, sample := { s.sample with fifo := flushed } }))
    ∧ ∀ r, head.toNat ≤ 15 → s.handshake.head = some r →
      ((r.phase = .requested ∨ r.phase = .taken) → ¬matching r → exec i s = .next (answer .adapter tag
        { status := if sequence = 0 then .ok else .staleSequence }
        { s with handshake := { s.handshake with selected := some head.toNat }, sample := { s.sample with fifo := flushed } }))
      ∧ ((r.phase = .requested ∨ r.phase = .taken) → matching r → head.toNat = r.head →
        s.store.profile.headSettleDelay ≠ 0 → s.sample.locked = true → exec i s = .next (answer .adapter tag {}
          { s with
            handshake := { s.handshake with
              selected := some head.toNat, head := some { r with phase := .delay }, headTimeout := .stopped
              headSettle := .running (s.store.profile.headSettleDelay * 1000) }
            sample := { s.sample with fifo := flushed } }))
      ∧ ((r.phase = .requested ∨ r.phase = .taken) → matching r → head.toNat ≠ r.head → s.stack = [] →
        ∃ t, exec i s = .next t ∧ t.handshake.selected = some head.toNat
          ∧ t.handshake.lastHeadEnd = some (.mismatch head.toNat, r.sequence))
      ∧ ((r.phase = .delay ∨ r.phase = .ready) → head.toNat = r.head → ∃ t, exec i s = .next t
        ∧ t.handshake = { s.handshake with selected := some head.toNat } ∧ t.engine = s.engine)
      ∧ ((r.phase = .delay ∨ r.phase = .ready) → head.toNat ≠ r.head → ∃ t, exec i s = .next t
        ∧ t.handshake.selected = some head.toNat
        ∧ t.handshake.head = some ⟨.requested, nextSequence s.handshake.headSequence, r.head, r.job⟩
        ∧ t.handshake.lastHeadEnd = some (.reissued, r.sequence) ∧ t.handshake.move = s.handshake.move
        ∧ t.engine.active = s.engine.active
        ∧ t.engine.state = (if s.engine.state = .moveWait ∨ s.engine.state = .settling ∨ s.engine.state = .dwell
          then .headWait else s.engine.state))

/-- The reports: READ HANDSHAKE, READ QUEUE, READ ARBITRATION, READ SERVO and READ POSITION answer OK with their report and leave
everything else; READ QUEUE refuses a start above 23 and sets MORE where queued jobs remain. The clear forms of READ POSITION and
READ SERVO set the counts to 0 after reporting them from Port W, are refused WRONG_PORT from the others, and another form byte is
refused (R78, R98, R120, R142, R164). The reports' bytes are read as log entry 8 has them. -/
def Obligations.Reports : Prop :=
  ∀ (p : Port) (tag : Byte) (s : State), s.canSend p →
    exec (.readHandshake p tag) s = .next (answer p tag { payload := s.handshake.report } s)
    ∧ exec (.readArbitration p tag) s = .next (answer p tag { payload := s.arbiter.report } s)
    ∧ exec (.readServo p tag 0) s = .next (answer p tag { payload := s.sample.report } s)
    ∧ exec (.readPosition p tag 0) s = .next (answer p tag { payload := s.positionReport } s)
    ∧ (∀ start : Byte,
      (23 < start.toNat → exec (.readQueue p tag start) s = .next (answer p tag { status := .badArgument } s))
      ∧ (start.toNat ≤ 23 → exec (.readQueue p tag start) s = .next (answer p tag
        { more := decide (start.toNat + 15 < s.jobs.queue.length), payload := s.queueReport start.toNat } s)))
    ∧ (∀ form : Byte, 1 < form.toNat →
      exec (.readPosition p tag form) s = .next (answer p tag { status := .badArgument } s)
      ∧ exec (.readServo p tag form) s = .next (answer p tag { status := .badArgument } s))
    ∧ (p = .workstation →
      exec (.readPosition p tag 1) s = .next
        (answer p tag { payload := s.positionReport } { s with frame := { s.frame with errors := 0 } })
      ∧ exec (.readServo p tag 1) s = .next (answer p tag { payload := s.sample.report } { s with sample :=
        { s.sample with slips := 0, overruns := 0, noSync := 0, dropout := 0, noTid := 0, far := 0 } }))
    ∧ (p ≠ .workstation →
      exec (.readPosition p tag 1) s = .next (answer p tag { status := .wrongPort } s)
      ∧ exec (.readServo p tag 1) s = .next (answer p tag { status := .wrongPort } s))

/-! ### The Position Frame -/

/-- HOME is refused DETACHED from a detached port, WRONG_PORT from Port W and Port D, NOT_READY while the store loads or saves,
NO_PROFILE without a profile and BUSY while a job is active, and changes nothing then; otherwise the capture is WAITING, whatever
it was, and the count stays (R87, R191). -/
def Obligations.Home : Prop :=
  ∀ (p : Port) (tag : Byte) (s : State), (s.port p).slot = .empty →
    let answers : Answer → State → Prop := fun a t => exec (.home p tag) s = .next (answer p tag a t)
    let may := (s.port p).attached = true ∧ p = .positioner
    ((s.port p).attached = false → answers { status := .detached } s)
    ∧ ((s.port p).attached = true → p ≠ .positioner → answers { status := .wrongPort } s)
    ∧ (may → ((∃ x, s.store.state = .loading x) ∨ ∃ x, s.store.state = .saving x) → answers { status := .notReady } s)
    ∧ (may → s.store.state = .noProfile → answers { status := .noProfile } s)
    ∧ (may → s.store.state = .ready → s.engine.active.isSome = true → answers { status := .busy } s)
    ∧ (may → s.store.state = .ready → s.engine.active = none →
      answers { payload := u8 1 } { s with frame := { s.frame with home := .waiting } })

/-- A filter sample (R81, R83, R84, R85, R88). The first sets the accepted levels and counts nothing, and a high PFAULT in it
posts FAULT as a rising one does. A later one advances each filter: a run of F samples against the accepted level changes it, and
agreement ends the run. The count moves by the accepted edge of one channel, stays where both or neither have one, wraps at 24
bits, and becomes the home value at a rising ENC_Z while the capture is WAITING. -/
def Obligations.FilterSample : Prop :=
  ∀ (a b z pf : Bool) (s : State), -8388608 ≤ s.frame.count → s.frame.count ≤ 8388607 →
    let run : InputFilter → Bool → InputFilter := fun f x =>
      if x = f.level then ⟨f.level, 0⟩ else if f.run + 1 < s.frame.filterLength then ⟨f.level, f.run + 1⟩ else ⟨x, 0⟩
    let moved : Int → Int := fun c => if c = 8388608 then -8388608 else if c = -8388609 then 8388607 else c
    ∃ t, exec (.filterSample a b z pf) s = .next t
    ∧ (s.frame.sampled = false →
      t.frame.encA = ⟨a, 0⟩ ∧ t.frame.encB = ⟨b, 0⟩ ∧ t.frame.encZ = ⟨z, 0⟩ ∧ t.frame.pfault = ⟨pf, 0⟩
      ∧ t.frame.count = s.frame.count ∧ t.frame.errors = s.frame.errors ∧ t.frame.sampled = true
      ∧ (pf = true → ∀ p, p ≠ .adapter → (s.port p).attached = true →
        (t.port p).notices.details.fault = some (.pfault s.frame.count)))
    ∧ (s.frame.sampled = true →
      t.frame.encA = run s.frame.encA a ∧ t.frame.encB = run s.frame.encB b
      ∧ t.frame.encZ = run s.frame.encZ z ∧ t.frame.pfault = run s.frame.pfault pf
      ∧ t.frame.count =
        (if s.frame.encZ.level = false ∧ t.frame.encZ.level = true ∧ s.frame.home = .waiting then s.store.profile.homeValue
        else if t.frame.encA.level = s.frame.encA.level ∧ t.frame.encB.level = s.frame.encB.level then s.frame.count
        else if t.frame.encB.level = s.frame.encB.level then
          moved (s.frame.count + if t.frame.encA.level = s.frame.encB.level then -1 else 1)
        else if t.frame.encA.level = s.frame.encA.level then
          moved (s.frame.count + if t.frame.encB.level = s.frame.encA.level then 1 else -1)
        else s.frame.count)
      ∧ t.frame.errors =
        (if t.frame.encA.level ≠ s.frame.encA.level ∧ t.frame.encB.level ≠ s.frame.encB.level ∧ s.frame.errors < 255
        then s.frame.errors + 1 else s.frame.errors))

/-- What a filter sample brings about beside its levels and its count (R85, R88, R90 to R93, R95, R96). A capture is DONE. The
travel state follows a changed count while a profile is in force. An illegal transition, a travel fault and a rising PFAULT each
post FAULT to the ATTACHED ones of Port W and Port P, the last one's detail standing, and the first one ends a working job with
its outcome and takes the engine to FAULT_HOLD, here where no group is open; an engine in COMMIT or PUBLISH keeps it in mind.
Without a fault the settle test follows the count: it times within the window, stops outside it, and is lost where it was met,
which takes the move back to DONE, its timeout running on, and a dwell back to SETTLING. -/
def Obligations.FilterSampleEffects : Prop :=
  ∀ (a b z pf : Bool) (s : State), s.frame.sampled = true →
    let level : InputFilter → Bool → Bool := fun f x =>
      if x ≠ f.level ∧ s.frame.filterLength ≤ f.run + 1 then x else f.level
    let illegal := level s.frame.encA a ≠ s.frame.encA.level ∧ level s.frame.encB b ≠ s.frame.encB.level
    let rises := s.frame.pfault.level = false ∧ level s.frame.pfault pf = true
    let pr := s.store.profile
    ∃ t, exec (.filterSample a b z pf) s = .next t
      ∧ (s.frame.encZ.level = false → level s.frame.encZ z = true → s.frame.home = .waiting →
        t.frame.home = .done ∧ t.frame.count = pr.homeValue)
      ∧ let moves := t.frame.count ≠ s.frame.count
        let side : TravelState := if t.frame.count < pr.travelLow then .below else if pr.travelHigh < t.frame.count then .above
          else .inside
        let off := s.store.slot.isSome = true ∧ moves ∧ (s.frame.travel = .inside ∨ s.frame.travel = .untested) ∧ side ≠ .inside
        (s.store.slot.isSome = true → moves → t.frame.travel = side)
        ∧ ((s.store.slot = none ∨ ¬moves) → t.frame.travel = s.frame.travel)
        ∧ (∀ p, p ≠ .adapter → (s.port p).attached = true →
          (rises → (t.port p).notices.details.fault = some (.pfault t.frame.count))
          ∧ (¬rises → off → (t.port p).notices.details.fault = some (.travel (side == .above) t.frame.count))
          ∧ (¬rises → ¬off → illegal → (t.port p).notices.details.fault = some (.encoder s.frame.count))
          ∧ (¬rises → ¬off → ¬illegal → (t.port p).notices.details.fault = (s.port p).notices.details.fault))
        ∧ (let ends : JobOutcome → Prop := fun o => ∀ r, s.engine.active = some r → s.engine.state.working = true →
            s.jobs.groups = [] → t.engine.state = .faultHold ∧ t.engine.active = none ∧ t.handshake.move = none
              ∧ t.handshake.head = none
              ∧ ((s.port (Submitter.port r.job.submitter)).completions.length < 8 →
                (t.port (Submitter.port r.job.submitter)).completions
                  = (s.port (Submitter.port r.job.submitter)).completions
                    ++ [plainRecord r.job o r.iterations s.sample.revolutions])
          (illegal → ends .encoderFault) ∧ (¬illegal → off → ends .travelLimit)
          ∧ (¬illegal → ¬off → rises → ends .positionerFault))
        ∧ ((illegal ∨ off ∨ rises) →
          ((s.engine.state = .idle ∨ s.engine.state = .faultHold) → t.engine.state = .faultHold)
          ∧ ((s.engine.state = .commit ∨ s.engine.state = .publish) → t.engine = { s.engine with faultPending := true }))
        ∧ (¬illegal → ¬off → ¬rises →
          let stays := t.handshake = s.handshake ∧ t.engine = s.engine
          let rests := t.frame.settle = s.frame.settle ∧ t.frame.settleTimer = s.frame.settleTimer ∧ stays
          (¬moves → rests)
          ∧ (s.frame.settle = .none → rests)
          ∧ ∀ m, moves → s.handshake.move = some m →
            let within := (t.frame.count - m.target).natAbs ≤ pr.settleWindow
            (within → (s.frame.settle = .timing ∨ s.frame.settle = .met) → rests)
            ∧ (¬within → s.frame.settle = .outside → rests)
            ∧ (within → s.frame.settle = .outside → pr.settleTime ≠ 0 →
              t.frame.settle = .timing ∧ t.frame.settleTimer = .running (pr.settleTime * 1000) ∧ stays)
            ∧ (within → s.frame.settle = .outside → pr.settleTime = 0 → s.engine.state ≠ .settling →
              t.frame.settle = .met ∧ t.handshake.move = some { m with phase := .settled } ∧ t.engine = s.engine)
            ∧ (¬within → s.frame.settle = .timing → t.frame.settle = .outside ∧ t.frame.settleTimer = .stopped ∧ stays)
            ∧ (¬within → s.frame.settle = .met → s.sample.lossExpired = false → ∀ left, s.handshake.moveTimeout = .paused left →
              t.frame.settle = .outside ∧ t.handshake.move = some { m with phase := .done }
              ∧ t.handshake.moveTimeout = .running left
              ∧ (s.engine.state = .dwell → t.engine.state = .settling ∧ t.engine.active = s.engine.active
                ∧ t.engine.dwell.n = 0 ∧ t.sample.fifo = [])
              ∧ (s.engine.state ≠ .dwell → t.engine = s.engine)))

/-- The settle timer's expiry in TIMING settles the move and pauses its timeout; a measuring job in SETTLING, its servo not lost
for the whole loss timeout, starts its dwell with an empty accumulator, stride floor(W / K) or 1, and an empty FIFO (R37, R95,
R106, R107). With the servo lost for the whole loss timeout it ends SERVO_LOST instead (R44), and a MOVE TO ends ARRIVED with the
count and the revolution count of this moment, its move released (R35), both told where no further work waits. -/
def Obligations.SettleTimerExpiry : Prop :=
  ∀ (m : MoveRequest) (left : Nat) (r : SearchRecord) (s : State), s.frame.settle = .timing → s.handshake.move = some m →
    s.handshake.moveTimeout = .running left → s.engine.state = .settling → s.engine.active = some r →
    let q := Submitter.port r.job.submitter
    (r.job.work.needsHead = true → s.sample.lossExpired = false →
      ∃ t, exec .settleTimerExpiry s = .next t ∧ t.frame.settle = .met ∧ t.frame.settleTimer = .stopped
        ∧ t.handshake.move = some { m with phase := .settled } ∧ t.handshake.moveTimeout = .paused left
        ∧ t.engine.state = .dwell ∧ t.engine.active = some r ∧ t.sample.fifo = []
        ∧ t.engine.dwell = ⟨0, 0, none, 0,
          if s.store.profile.wedges / 2 ^ s.store.profile.sampleExponent = 0 then 1
          else s.store.profile.wedges / 2 ^ s.store.profile.sampleExponent⟩)
    ∧ (s.jobs.queue = [] → s.stack = [] → s.jobs.groups = [] → s.jobs.pendingZone = none → s.store.profile.driftInterval = 0 →
      s.engine.faultPending = false → (s.port q).completions = [] →
      let ends : MoveEnd → CompletionRecord → Prop := fun e c => ∃ t, exec .settleTimerExpiry s = .next t
        ∧ t.engine.state = .idle ∧ t.engine.active = none ∧ t.handshake.move = none ∧ t.handshake.head = none
        ∧ t.handshake.lastMoveEnd = some (e, m.sequence) ∧ t.frame.settle = .none ∧ (t.port q).completions = [c]
      (r.job.work.needsHead = true → s.sample.lossExpired = true →
        ends (.withdrawn (.ended .servoLost)) (plainRecord r.job .servoLost r.iterations s.sample.revolutions))
      ∧ (r.job.work.needsHead = false → ends .released
        ⟨r.job.id, .moveTo, none, .arrived, 0, some s.frame.count, none, none, false, s.sample.revolutions⟩))

/-! ### The Sample Path -/

/-- A wedge arrival, by record or by window expiry, is numbered, judged and admitted whole (R60, R61, R64 to R71). The counter
wraps at W, and the revolution count rises at the wrap. While LOCKED a good record clears the missed run and any other arrival
raises it, and the eighth loses the servo: the FIFO is flushed, the loss timeout starts and Port W is told. While LOST a good
record raises the good run and any other arrival clears it, and the fourth regains the servo: the timeout stops and Port W is
told. An arrival the gate admits joins the FIFO, a window expiry as a record without sync (log entry 21), and one that finds it
full is an overrun and a reject of the dwell, which ends the job TOO_NOISY beyond the reject limit. -/
def Obligations.WedgeArrival : Prop :=
  ∀ (w : WedgeRecord) (left : Nat) (s : State), s.store.slot.isSome = true → s.sample.window = .running left →
    s.sample.wedge < s.store.profile.wedges → ∀ i good rec,
    ((i = .wedgeRecord w ∧ good = w.sync ∧ rec = w)
      ∨ (i = .wedgeWindowExpiry ∧ good = false ∧ rec = ⟨false, false, 0, 0, 0, 0, 0⟩)) →
    let loses := s.sample.locked && !good && decide (8 ≤ s.sample.missedRun + 1)
    let regains := !s.sample.locked && good && decide (4 ≤ s.sample.goodRun + 1)
    let locked := (s.sample.locked && !loses) || regains
    let opens := locked = true ∧ s.engine.state = .dwell ∧ (∃ m, s.handshake.move = some m ∧ m.phase = .settled)
      ∧ (∃ r, s.handshake.head = some r ∧ r.phase = .ready) ∧ s.sample.wedge % s.engine.dwell.stride = 0
    ∃ t, exec i s = .next t
      ∧ t.sample.wedge = (s.sample.wedge + 1) % s.store.profile.wedges
      ∧ t.sample.revolutions
        = (if s.sample.wedge + 1 = s.store.profile.wedges then (s.sample.revolutions + 1) % 4294967296 else s.sample.revolutions)
      ∧ t.sample.window = .running s.store.profile.wedgeWindow
      ∧ t.sample.locked = locked
      ∧ t.sample.missedRun = (if s.sample.locked = true then
          if good = true ∨ loses = true then 0 else s.sample.missedRun + 1
        else if regains = true then 0 else s.sample.missedRun)
      ∧ t.sample.goodRun = (if s.sample.locked = true then if loses = true then 0 else s.sample.goodRun
        else if good = true ∧ regains = false then s.sample.goodRun + 1 else 0)
      ∧ t.sample.loss = (if loses = true then .running (s.store.profile.servoLossTimeout * 1000)
        else if regains = true then .stopped else s.sample.loss)
      ∧ ((s.port .workstation).attached = true →
        (loses = true → (t.port .workstation).notices.details.servo = some (.servoLost t.sample.revolutions))
        ∧ (regains = true → (t.port .workstation).notices.details.servo = some (.servoRegained t.sample.revolutions)))
      ∧ (¬opens → t.engine = s.engine ∧ t.sample.fifo = (if loses = true then [] else s.sample.fifo)
        ∧ t.sample.overruns = s.sample.overruns)
      ∧ (opens → s.sample.fifo.length < 4 → t.engine = s.engine ∧ t.sample.fifo = s.sample.fifo ++ [rec]
        ∧ t.sample.overruns = s.sample.overruns)
      ∧ (opens → 4 ≤ s.sample.fifo.length → ∀ r, s.engine.active = some r →
        let rejects := if r.rejects < 255 then r.rejects + 1 else r.rejects
        t.sample.overruns = (if s.sample.overruns < 65535 then s.sample.overruns + 1 else s.sample.overruns)
        ∧ (s.engine.dwell.rejects + 1 ≤ s.store.profile.rejectLimit → t.sample.fifo = s.sample.fifo
          ∧ t.engine = { s.engine with
            active := some { r with rejects := rejects }
            dwell := { s.engine.dwell with rejects := s.engine.dwell.rejects + 1 } })
        ∧ (s.store.profile.rejectLimit < s.engine.dwell.rejects + 1 → t.engine.state = .commit ∧ t.sample.fifo = []
          ∧ t.handshake.move = none ∧ t.handshake.head = none
          ∧ t.engine.staging = some (.tooNoisy, .suspect .tooNoisy (if r.stage = .verify then r.target else none)
            (if r.stage = .verify then r.gain else none) (r.lastMean.map Int.natAbs) r.iterations rejects)))

/-- An index pulse (R62, R63): nothing at 0; elsewhere, with the counter aligned, a slip, which sets the counter to 0, raises the
revolution and slip counts, flushes the FIFO, empties a dwell in progress and posts SLIP to an ATTACHED Port W; and with the
counter unaligned or no profile in force an alignment, which takes only with a profile in force. -/
def Obligations.IndexPulse : Prop :=
  ∀ s : State,
    (s.sample.aligned = true → s.store.slot.isSome = true → s.sample.wedge = 0 → exec .indexPulse s = .next s)
    ∧ (s.sample.aligned = true → s.store.slot.isSome = true → s.sample.wedge ≠ 0 → ∃ t, exec .indexPulse s = .next t
      ∧ t.sample = { s.sample with
        wedge := 0, revolutions := (s.sample.revolutions + 1) % 4294967296, fifo := []
        slips := if s.sample.slips < 65535 then s.sample.slips + 1 else s.sample.slips }
      ∧ t.engine = (if s.engine.state = .dwell then { s.engine with dwell :=
          { s.engine.dwell with n := 0, sum := 0, extremes := none, rejects := 0 } } else s.engine)
      ∧ ((s.port .workstation).attached = true →
        (t.port .workstation).notices.details.servo = some (.slip s.sample.wedge)))
    ∧ ((s.sample.aligned = false ∨ s.store.slot = none) → exec .indexPulse s = .next { s with sample := { s.sample with
        wedge := 0, revolutions := (s.sample.revolutions + 1) % 4294967296, aligned := s.store.slot.isSome } })

/-- SAMPLE_TAKE in DWELL takes the oldest record (R38, R77): an accepted sample short of K joins the dwell, and a reject within
the limit raises the dwell's count, the job's total up to 255 and the count of its kind; nothing else changes. A reject beyond the
limit ends the job TOO_NOISY at once, with the part R51 gives to be staged and both handshakes NONE. -/
def Obligations.SampleTake : Prop :=
  ∀ (w : WedgeRecord) (rest : List WedgeRecord) (r : SearchRecord) (s : State), s.engine.state = .dwell →
    s.engine.active = some r → s.sample.fifo = w :: rest →
    let c := classify s.store.profile.burstFloor s.targetTrack w
    (∀ ptot, c = .accepted ptot → s.engine.dwell.n + 1 < 2 ^ s.store.profile.sampleExponent →
      exec .sampleTake s = .next { s with
        sample := { s.sample with fifo := rest }, engine := { s.engine with dwell := s.engine.dwell.add ptot } })
    ∧ ((∀ ptot, c ≠ .accepted ptot) → s.store.profile.rejectLimit < s.engine.dwell.rejects + 1 →
      ∃ t, exec .sampleTake s = .next t ∧ t.engine.state = .commit ∧ t.sample.fifo = [] ∧ t.handshake.move = none
        ∧ t.handshake.head = none
        ∧ t.engine.staging = some (.tooNoisy, .suspect .tooNoisy (if r.stage = .verify then r.target else none)
          (if r.stage = .verify then r.gain else none) (r.lastMean.map Int.natAbs) r.iterations
          (if r.rejects < 255 then r.rejects + 1 else r.rejects)))
    ∧ ((∀ ptot, c ≠ .accepted ptot) → s.engine.dwell.rejects + 1 ≤ s.store.profile.rejectLimit →
      exec .sampleTake s = .next { s with
        sample := { s.sample with
          fifo := rest
          noSync := if c = .noSync ∧ s.sample.noSync < 65535 then s.sample.noSync + 1 else s.sample.noSync
          dropout := if c = .dropout ∧ s.sample.dropout < 65535 then s.sample.dropout + 1 else s.sample.dropout
          noTid := if c = .noTid ∧ s.sample.noTid < 65535 then s.sample.noTid + 1 else s.sample.noTid
          far := if c = .far ∧ s.sample.far < 65535 then s.sample.far + 1 else s.sample.far }
        engine := { s.engine with
          active := some { r with rejects := if r.rejects < 255 then r.rejects + 1 else r.rejects }
          dwell := { s.engine.dwell with rejects := s.engine.dwell.rejects + 1 } } })

/-- The dwell whose K-th sample has a spread within the limit is applied by its stage (R40, R43, R45 to R49): FIRST goes on to the
step position, STEP computes the gain and goes on to the first estimate or ends GAIN_LOW, VERIFY ends CONVERGED, NOT_CONVERGED or
NULL_OUT_OF_RANGE or goes on to a new estimate. To go on is MOVE_WAIT with a new move request for the target; to end is COMMIT
with the part to stage and both handshakes NONE. A spread above the limit restarts the dwell once, and then ends TOO_NOISY with
the part R51 gives. -/
def Obligations.DwellsAdvanceTheSearch : Prop :=
  ∀ (w : WedgeRecord) (rest : List WedgeRecord) (r : SearchRecord) (ptot e0 e1 p0 here gain : Int) (s : State),
    s.engine.state = .dwell → s.engine.active = some r → s.sample.fifo = w :: rest →
    s.store.profile.travelLow ≤ s.store.profile.travelHigh →
    classify s.store.profile.burstFloor s.targetTrack w = .accepted ptot →
    let pr := s.store.profile
    let d := s.engine.dwell.add ptot
    let mean := dwellMean d.sum d.n
    let q : SearchRecord := { r with spreadRepeat := false, lastMean := some mean, lastStamp := some s.sample.revolutions }
    let goes : SearchRecord → Prop := fun x => ∃ t m, exec .sampleTake s = .next t ∧ t.engine.state = .moveWait
      ∧ t.engine.active = some x ∧ t.handshake.move = some m ∧ m.phase = .requested ∧ some m.target = x.target
      ∧ m.sequence = nextSequence s.handshake.moveSequence ∧ t.sample.fifo = []
    let stages : JobOutcome → StagedPart → Prop := fun o part => ∃ t, exec .sampleTake s = .next t ∧ t.engine.state = .commit
      ∧ t.engine.staging = some (o, part) ∧ t.handshake.move = none ∧ t.handshake.head = none ∧ t.sample.fifo = []
    2 ^ pr.sampleExponent ≤ d.n →
    (pr.spreadLimit < d.spread →
      if r.spreadRepeat = true then stages .tooNoisy (.suspect .tooNoisy (if r.stage = .verify then r.target else none)
        (if r.stage = .verify then r.gain else none) (r.lastMean.map Int.natAbs) r.iterations r.rejects)
      else ∃ t, exec .sampleTake s = .next t ∧ t.engine.state = .dwell ∧ t.engine.active = some { r with spreadRepeat := true }
        ∧ t.engine.dwell.n = 0 ∧ t.engine.dwell.rejects = 0 ∧ t.sample.fifo = [])
    ∧ (d.spread ≤ pr.spreadLimit →
      (r.stage = .first → r.e0 = some e0 →
        goes { q with p0 := some mean, e1 := some (pr.stepPosition e0), target := some (pr.stepPosition e0), stage := .step })
      ∧ (r.stage = .step → r.e0 = some e0 → r.e1 = some e1 → r.p0 = some p0 →
        let g := gain256 p0 mean e0 e1
        let next := pr.estimate e0 e1 mean g
        if g.natAbs < pr.gainFloor then
          stages .gainLow (.suspect .gainLow none (if g = 0 then none else some g) (some mean.natAbs) 0 r.rejects)
        else goes { q with p1 := some mean, gain := some g, target := some next.1, lastClamp := next.2, stage := .verify })
      ∧ (r.stage = .verify → r.e0 = some e0 → r.target = some here → r.gain = some gain →
        let next := pr.estimate e0 here mean gain
        if mean.natAbs ≤ pr.nullTolerance then
          stages .converged (.converged (here - correction mean gain) gain mean.natAbs (r.iterations + 1) r.rejects)
        else if r.limit ≤ r.iterations + 1 then
          stages .notConverged (.suspect .notConverged (some here) (some gain) (some mean.natAbs) r.limit r.rejects)
        else if next.2 ≠ none ∧ next.2 = r.lastClamp then
          stages .nullOutOfRange
            (.suspect .nullOutOfRange (some next.1) (some gain) (some mean.natAbs) (r.iterations + 1) r.rejects)
        else goes { q with iterations := r.iterations + 1, target := some next.1, lastClamp := next.2 }))

/-- The arithmetic of the search and of the table. An accepted Ptot lies within −30720..+30720 (R76), a mean is the sum over n
rounded to nearest, halves up (R40), a gain lies within −32767..+32767 (R46), the step position lies within travel and differs
from E0 (R45), a correction is the quotient rounded to nearest, halves away from zero, and an estimate lies within travel and
within the search window of an E0 within travel (R47). -/
def Obligations.SearchArithmetic : Prop :=
  (∀ (floor target : Nat) (r : WedgeRecord) (ptot : Int), 1 ≤ floor → classify floor target r = .accepted ptot →
    -30720 ≤ ptot ∧ ptot ≤ 30720)
  ∧ (∀ (sum : Int) (n : Nat), 1 ≤ n → 2 * sum - n < 2 * (n * dwellMean sum n) ∧ 2 * (n * dwellMean sum n) ≤ 2 * sum + n)
  ∧ (∀ p0 p1 e0 e1 : Int, -32767 ≤ gain256 p0 p1 e0 e1 ∧ gain256 p0 p1 e0 e1 ≤ 32767)
  ∧ (∀ mean gain : Int, gain ≠ 0 →
    2 * (mean * 256 - correction mean gain * gain).natAbs ≤ gain.natAbs
    ∧ (2 * (mean * 256 - correction mean gain * gain).natAbs = gain.natAbs →
      (mean * 256).natAbs < (correction mean gain * gain).natAbs))
  ∧ ∀ (pr : Profile) (e0 : Int), pr.travelLow < pr.travelHigh → pr.travelLow ≤ e0 → e0 ≤ pr.travelHigh → 1 ≤ pr.step →
    pr.stepPosition e0 ≠ e0 ∧ pr.travelLow ≤ pr.stepPosition e0 ∧ pr.stepPosition e0 ≤ pr.travelHigh
    ∧ ∀ here mean gain : Int, let e := (pr.estimate e0 here mean gain).1
      pr.travelLow ≤ e ∧ e ≤ pr.travelHigh ∧ e0 - pr.searchRange ≤ e ∧ e ≤ e0 + pr.searchRange

/-! ### The table and the arbiter -/

/-- An offset (R15): (Nh − Nr) × 4096 / counts per track, rounded to nearest with halves away from zero and saturated to
−32767..+32767; the reference head's own is 0, and the sign is that of Nh − Nr where the offset is not 0. -/
def Obligations.Offsets : Prop :=
  ∀ (n r : Int) (c : Nat), 1 ≤ c →
    (∃ q : Int, 2 * ((n - r) * 4096 - q * c).natAbs ≤ c
      ∧ (2 * ((n - r) * 4096 - q * c).natAbs = c → ((n - r) * 4096).natAbs < (q * c).natAbs)
      ∧ offsetOf n r c = if q < -32767 then -32767 else if 32767 < q then 32767 else q)
    ∧ -32767 ≤ offsetOf n r c ∧ offsetOf n r c ≤ 32767 ∧ offsetOf n n c = 0
    ∧ (0 < offsetOf n r c → r < n) ∧ (offsetOf n r c < 0 → n < r)

/-- A table request that passes its checks finds the arbiter FREE: its client is granted at once, with its operation, and the slot
stays PENDING until the operation ends; nothing else changes but the cursor READ TABLE sets (R12, R21, R22, R23, R157, R166 to
R169). A block read starts its assembly with the port's window and its cursor's range, and no record placed (R167, R170, R193).
What a table request is refused, it is refused without asking for the grant (R1, R21, R22, R168, R169). -/
def Obligations.TableRequests : Prop :=
  (∀ (p : Port) (tag : Byte) (s : State), s.canSendReady p → s.arbiter.holder = none →
    let granted : Instr → TableOp → State → Prop := fun i op t => exec i s = .next
      { t.setSlot p (.pending i) with arbiter := { s.arbiter with
        holder := some (Port.client p, op), waiting := s.arbiter.waiting.set (Port.client p) none, hold := .stopped } }
    (p = .workstation → granted (.publish p tag) .publish s
      ∧ (∀ h z, granted (.discardStaged p tag 1 h z) .discardAll s)
      ∧ ∀ (h z : Byte) (c : CountWord), s.tableCheck p h.toNat z.toNat = none →
        granted (.discardStaged p tag 0 h z) (.discardEntry h.toNat z.toNat) s
        ∧ granted (.seedEntry p tag h z 0 c) (.seed h.toNat z.toNat (some c.toInt)) s
        ∧ granted (.seedEntry p tag h z 1 c) (.seed h.toNat z.toNat none) s
        ∧ granted (.clearEntry p tag h z) (.clearEntry h.toNat z.toNat (s.status h.toNat z.toNat == .idle)) s)
    ∧ (∀ h z : Byte, s.tableCheck p h.toNat z.toNat = none →
      granted (.readEntry p tag h z) (.readEntry h.toNat z.toNat) s)
    ∧ (∀ start count : Byte, 1 ≤ count.toNat → start.toNat + count.toNat ≤ 192 →
      granted (.readTable p tag start count) (.readTable ⟨(s.port p).window, start.toNat, start.toNat + count.toNat - 1, []⟩)
        (s.setCursor p (some ⟨start.toNat, start.toNat + count.toNat - 1⟩)))
    ∧ ∀ c, (s.port p).cursor = some c → granted (.readNext p tag) (.readNext ⟨(s.port p).window, c.next, c.last, []⟩) s)
  ∧ ∀ (p : Port) (tag : Byte) (s : State), s.canSendReady p →
    let refused : Instr → Status → Prop := fun i st => exec i s = .next (answer p tag { status := st } s)
    (∀ h z : Byte, (s.store.profile.headCount ≤ h.toNat ∨ s.store.profile.zoneCount ≤ z.toNat) →
      refused (.readEntry p tag h z) .badArgument ∧ (p = .workstation → refused (.clearEntry p tag h z) .badArgument))
    ∧ (∀ h z : Byte, h.toNat < s.store.profile.headCount → z.toNat < s.store.profile.zoneCount →
      (s.port p).window.inside h.toNat = false →
      refused (.readEntry p tag h z) .outOfWindow ∧ (p = .workstation → refused (.clearEntry p tag h z) .outOfWindow))
    ∧ (∀ h z form : Byte, ∀ c : CountWord, 1 < form.toNat → p = .workstation →
      refused (.discardStaged p tag form h z) .badArgument ∧ refused (.seedEntry p tag h z form c) .badArgument)
    ∧ (∀ start count : Byte, (count = 0 ∨ 192 < start.toNat + count.toNat) →
      refused (.readTable p tag start count) .badArgument)
    ∧ ((s.port p).cursor = none → refused (.readNext p tag) .empty)

/-- CLEAR BENCH leaves no job, group or completion record, whatever the engine was doing, outside a commit under the grant; it
keeps FAULT_HOLD, the publish generation and the profile, and asks for the grant to empty the table (R24). -/
def Obligations.ClearBench : Prop :=
  ∀ (tag : Byte) (s : State), s.canSend .workstation → s.engineSound → s.arbiter.engineHolds .commit = false →
    ∃ t, exec (.clearBench .workstation tag) s = .next t
      ∧ t.jobs = ⟨[], [], 1, 1, 0, none, false, false⟩ ∧ t.stack = [] ∧ t.engine.active = none
      ∧ (∀ p, (t.port p).completions = [] ∧ (t.port p).overflow = 0 ∧ (t.port p).notices.merge.jobDone = 0
        ∧ (t.port p).notices.merge.jobFailed = 0 ∧ (t.port p).attached = (s.port p).attached
        ∧ (t.port p).window = (s.port p).window)
      ∧ (s.engine.state = .faultHold → t.engine.state = .faultHold)
      ∧ t.table = s.table ∧ t.store = s.store ∧ t.handshake.move = none ∧ t.handshake.head = none
      ∧ (t.arbiter.holder = some (.w, .clearBench) ∨ t.arbiter.waiting.w = some .clearBench)

/-- The end of a port's operation under the grant, with nobody waiting (R12 to R17, R21 to R23, R25, R26, R159, R166): the table
changes as the operation says, the request is answered, and the arbiter is FREE again. What a publish, DISCARD STAGED in its all
form and CLEAR ENTRY leave in each entry is said by TableByEntry. A publish tells the ATTACHED ones of Port W and Port D (R18). That
READ ENTRY answers the record, and with it the status, of this end and not of the grant is log entry 10. -/
def Obligations.TableOperationEnds : Prop :=
  ∀ (p : Port) (i : Instr) (s : State), (∀ c, s.arbiter.waiting.get c = none) → (s.port p).slot = .pending i →
    let ended : TableOp → HeadMap → Answer → Prop := fun op table a => s.arbiter.holder = some (Port.client p, op) →
      ∃ t, exec .tableOperationEnd s = .next t ∧ t.table = table ∧ t.arbiter.holder = none
        ∧ (t.port p).slot = .ready (s.responseOf p i.tag a) ∧ t.jobs = s.jobs ∧ t.engine = s.engine
    let put : Nat → Nat → Entry → HeadMap := fun h z e =>
      { s.table with entries := s.table.entries.setIfInBounds (entryIndex h z) e }
    let empty : HeadMap := { s.table with entries := Vector.replicate 192 ⟨none, none, none⟩ }
    ended .publish (publishTable s).table { payload := s.publishDetail.bytes }
    ∧ (s.arbiter.holder = some (Port.client p, .publish) → ∃ t, exec .tableOperationEnd s = .next t
      ∧ ∀ q, q ≠ .positioner → (s.port q).attached = true →
        (t.port q).notices.details.published = some s.publishDetail ∧ t.isPending q .published = true)
    ∧ (∀ h z, ended (.discardEntry h z) (put h z { s.entry h z with staged := none })
      { payload := u8 (if (s.entry h z).staged.isSome = true then 1 else 0) })
    ∧ ended .discardAll (discardAllStaged s).table { payload := u8 s.discardCount }
    ∧ (∀ h z c, let stored := s.store.profile.clampTravel c
      ended (.seed h z (some c)) (put h z { s.entry h z with seed := some stored })
        { clamped := stored != c, payload := le 3 stored })
    ∧ (∀ h z, ended (.seed h z none) (put h z { s.entry h z with seed := none }) {})
    ∧ (∀ h z, ended (.clearEntry h z false) s.table { status := .entryBusy })
    ∧ (∀ h z, ended (.clearEntry h z true) (clearEntryTable h z s).table {})
    ∧ ended .clearBench empty {}
    ∧ (∀ c l, ended (.emptyTable c l) empty { clamped := c, payload := l })
    ∧ ∀ h z, ended (.readEntry h z) s.table { records := 1, payload := s.recordAt (entryIndex h z) }

/-- What the table's operations leave, entry by entry. A publish (R13, R14, R17, R18): in the profile a CONVERGED staged part
becomes the published part with the new generation and quality VALID, a SUSPECT one goes, and every published part gets the offset
of its zone's reference null or none; entries outside the profile stay, the generation rises by 1 modulo 65536, and the notice
counts the parts published and discarded and the zones left without a reference. DISCARD STAGED in its all form (R21) takes the
staged part, and nothing else, from every entry of the profile inside Port W's window, and counts them. CLEAR ENTRY (R16, R23)
empties its entry and, where it is the zone's reference, takes the zone's offsets. -/
def Obligations.TableByEntry : Prop :=
  ∀ s : State,
    let holds : Nat → Bool := fun i => decide (i / 12 < s.store.profile.headCount) && decide (i % 12 < s.store.profile.zoneCount)
    (∀ i, i < 192 →
      let t := publishTable s
      let g := (s.table.generation + 1) % 65536
      let made : Option PublishedPart := match (s.entryAt i).staged with
        | some (.converged n k r it rj) => some ⟨n, k, r, it, rj, g, none, false⟩
        | _ => (s.entryAt i).published
      t.table.generation = g
      ∧ (holds i = false → t.entryAt i = s.entryAt i)
      ∧ (holds i = true →
        (t.entryAt i).staged = none ∧ (t.entryAt i).seed = (s.entryAt i).seed
        ∧ (t.entryAt i).published.map (fun x => { x with offset := none }) = made.map (fun x => { x with offset := none })
        ∧ ∀ x, (t.entryAt i).published = some x → x.offset =
          ((t.entry s.store.profile.referenceHead (i % 12)).published.map fun y =>
            offsetOf x.null y.null s.store.profile.countsPerTrack)))
    ∧ (let parts : (StagedPart → Bool) → Nat := fun f =>
        ((List.range 192).filter fun i => holds i && (s.entryAt i).staged.any f).length
      let converged : StagedPart → Bool := fun x => match x with
        | .converged _ _ _ _ _ => true
        | .suspect _ _ _ _ _ _ => false
      s.publishDetail = .published ((s.table.generation + 1) % 65536) (parts converged) (parts fun x => !converged x)
        ((List.range s.store.profile.zoneCount).filter fun z =>
          ((publishTable s).entry s.store.profile.referenceHead z).published.isNone).length)
    ∧ (let reached : Nat → Bool := fun i => holds i && decide ((s.port .workstation).window.base ≤ i / 12)
        && decide (i / 12 < (s.port .workstation).window.base + (s.port .workstation).window.size)
      (∀ i, i < 192 → (discardAllStaged s).entryAt i
        = if reached i = true then { s.entryAt i with staged := none } else s.entryAt i)
      ∧ (discardAllStaged s).table.generation = s.table.generation
      ∧ s.discardCount = ((List.range 192).filter fun i => reached i && (s.entryAt i).staged.isSome).length)
    ∧ ∀ h z i, i < 192 →
      (clearEntryTable h z s).table.generation = s.table.generation
      ∧ (clearEntryTable h z s).entryAt i = (if i = h * 12 + z then ⟨none, none, none⟩
        else if h = s.store.profile.referenceHead ∧ i % 12 = z then
          { s.entryAt i with published := (s.entryAt i).published.map fun x => { x with offset := none } }
        else s.entryAt i)

/-- The grant (R157, R158, R161, R162): asked for when the arbiter is HELD, it is waited for, and a client of strictly higher
priority than the holder starts the stopped hold timer with the full hold time while preemption is on; a timer that runs is not
restarted. A hold time of 0 expires as the timer starts: a block read with a record placed is cut there, and its grant passes on;
otherwise the timer stays at 0. At a release the grant goes to a waiter of the highest priority, and among equals to the first in
the order ENGINE, W, D, P, the others still waiting; a release with nobody waiting leaves the arbiter FREE. MORE and the cursor of
the read that is cut go by the counts in profile RAM, a profile in force or not (log entry 29). -/
def Obligations.GrantGoesToTheHighest : Prop :=
  ∀ (s : State) (c : Client) (op : TableOp),
    (∀ x, s.arbiter.holder = some x →
      let waits := { s.arbiter with waiting := s.arbiter.waiting.set c (some op) }
      let starts := s.arbiter.preemption = true ∧ s.arbiter.hold = .stopped
        ∧ s.arbiter.priority.get x.1 < s.arbiter.priority.get c
      (¬starts → askGrant c op s = { s with arbiter := waits })
      ∧ (starts → s.arbiter.holdTime ≠ 0 →
        askGrant c op s = { s with arbiter := { waits with hold := .running (s.arbiter.holdTime * 10) } })
      ∧ (starts → s.arbiter.holdTime = 0 → (∀ a, x.2.assembly = some a → a.placed = []) →
        askGrant c op s = { s with arbiter := { waits with hold := .expired } })
      ∧ ∀ p a i, starts → s.arbiter.holdTime = 0 → x.1 = Port.client p → x.2.assembly = some a → a.placed ≠ [] →
        (s.port p).slot = .pending i →
        s.cutTo (askGrant c op s) p i a
        ∧ ∀ o opo, waits.waiting.get o = some opo → o ≠ x.1 → waits.next o →
          (askGrant c op s).arbiter
            = { waits with holder := some (o, s.settleOp o opo), waiting := waits.waiting.set o none })
    ∧ ((∀ o, s.arbiter.waiting.get o = none) →
      release s = { s with arbiter := { s.arbiter with holder := none, hold := .stopped } })
    ∧ (s.arbiter.waiting.get c = some op → s.arbiter.next c →
      release s = { s with arbiter := { s.arbiter with
        holder := some (c, s.settleOp c op), waiting := s.arbiter.waiting.set c none, hold := .stopped } })

/-- The assembly of a block-read response (R162, R165, R167, R170). It goes on while time passes: each deliverable index it passes
has its record placed as the entry stands then, fewer than ten records, and the end index is not passed. At its end it holds the
first ten of those records and the rest of the range, MORE and the cursor saying whether a deliverable index remains. The hold
timer's expiry cuts it after the last record placed, with PREEMPTED; with none placed the timer stays at 0, and the assembly's end
then delivers its first record alone with PREEMPTED, or none where there is none. On any other operation the expiry has no effect
but that the timer stays at 0. How far an assembly is at an expiry is a free value or the sender's (log entry 4), and deliverable is what
the counts in profile RAM say, a profile in force or not (log entry 29). -/
def Obligations.BlockReadResponses : Prop :=
  (∀ (p : Port) (op : TableOp) (a : Assembly) (i : Instr) (s : State),
    s.arbiter.holder = some (Port.client p, op) → op.assembly = some a → (s.port p).slot = .pending i → a.last ≤ 191 →
    a.placed.length < 10 → (∀ x ∈ a.placed, x.1 < a.next) →
    let deliverable : Nat → Bool := fun k => s.store.profile.holdsIndex k && a.window.inside (k / 12)
    let ahead := (List.range 192).filter fun k => decide (a.next ≤ k) && decide (k ≤ a.last) && deliverable k
    let records : List Nat → List (Nat × List Byte) := fun l => a.placed ++ l.map fun k => (k, s.recordAt k)
    let responds : State → List (Nat × List Byte) → Bool → Option Nat → Prop := fun t l cut next =>
      (t.port p).slot = .ready ⟨.ok, i.tag, false, cut, next.isSome, (s.port p).dropped, l.length, (l.map (·.2)).flatten⟩
      ∧ (t.port p).cursor = next.map (fun n => ⟨n, a.last⟩) ∧ t.table = s.table
    (∃ t, exec .blockReadAssembly s = .next t
      ∧ (s.arbiter.hold ≠ .expired →
        let taken := ahead.take (10 - a.placed.length)
        responds t (records taken) false
          (if taken.length < ahead.length then taken.getLast?.map (· + 1) else none))
      ∧ (s.arbiter.hold = .expired → a.placed = [] →
        responds t (records (ahead.take 1)) (!ahead.isEmpty)
          (if 1 < ahead.length then ahead.head?.map (· + 1) else none)))
    ∧ (∀ left visited, s.arbiter.hold = .running left → ∃ stop, a.next ≤ stop ∧ stop ≤ a.next + visited
      ∧ (stop = a.next ∨ stop ≤ a.last) ∧
      let placed := records (ahead.filter fun k => decide (k < stop))
      placed.length < 10
      ∧ (∀ x, placed.getLast? = some x → ∃ t, exec (.holdTimerExpiry visited) s = .next t ∧ responds t placed true
        (if ((List.range 192).any fun k => decide (x.1 < k) && decide (k ≤ a.last) && deliverable k) = true
          then some (x.1 + 1) else none))
      ∧ (placed = [] → exec (.holdTimerExpiry visited) s = .next { s with arbiter := { s.arbiter with
        holder := some (Port.client p, op.withAssembly ⟨a.window, stop, a.last, []⟩), hold := .expired } }))
    ∧ ∃ added b op', (tick s).arbiter.holder = some (Port.client p, op') ∧ op'.assembly = some b
      ∧ b.window = a.window ∧ b.last = a.last ∧ a.next ≤ b.next ∧ (b.next = a.next ∨ b.next ≤ a.last)
      ∧ added = (ahead.filter fun k => decide (k < b.next)) ∧ b.placed = records added ∧ b.placed.length < 10
      ∧ (s.arbiter.hold = .expired → b.placed = a.placed) ∧ ((tick s).port p).slot = (s.port p).slot
      ∧ (tick s).table = s.table)
  ∧ ∀ (c : Client) (op : TableOp) (left visited : Nat) (s : State), s.arbiter.holder = some (c, op) → op.assembly = none →
    s.arbiter.hold = .running left →
    exec (.holdTimerExpiry visited) s = .next { s with arbiter := { s.arbiter with hold := .expired } }

/-- SET ARBITRATION refuses a priority above 3 or an unknown preemption setting with nothing changed; accepted, it takes effect at
once, and the hold timer stops where preemption is off or no waiter stands above the holder, starts where one does and it was
stopped, and runs on otherwise (R163). A hold time of 0 expires as the timer starts: a block read with a record placed is cut
there, and its grant passes on; otherwise the timer stays at 0 (R162). The report's bytes are read as log entry 8 has them, and
that a timer at 0 stops like a running one, with the cut that waited, is log entry 28. MORE and the cursor of the read that is cut
go by the counts in profile RAM, a profile in force or not (log entry 29). -/
def Obligations.SetArbitration : Prop :=
  ∀ (tag e w d p on hold : Byte) (s : State), s.canSend .workstation →
    let i := Instr.setArbitration .workstation tag e w d p on hold
    let bad := 3 < e.toNat ∨ 3 < w.toNat ∨ 3 < d.toNat ∨ 3 < p.toNat ∨ 1 < on.toNat
    (bad → exec i s = .next (answer .workstation tag { status := .badArgument } s))
    ∧ (¬bad →
      let a : Arbiter := { s.arbiter with
        priority := ⟨e.toNat, w.toNat, d.toNat, p.toNat⟩, preemption := on == 1, holdTime := hold.toNat }
      let starts := on ≠ 0 ∧ a.pressed = true ∧ a.hold = .stopped
      ((hold ≠ 0 ∨ ¬starts ∨ ∀ x l, s.arbiter.holder = some x → x.2.assembly = some l → l.placed = []) →
        let b : Arbiter := { a with hold :=
          if on = 0 ∨ a.pressed = false then .stopped
          else if a.hold = .stopped then (if hold = 0 then .expired else .running (hold.toNat * 10)) else a.hold }
        exec i s = .next (answer .workstation tag { payload := b.report } { s with arbiter := b }))
      ∧ ∀ q op l j, hold = 0 → starts → q ≠ .workstation → s.arbiter.holder = some (Port.client q, op) →
        op.assembly = some l → l.placed ≠ [] → (s.port q).slot = .pending j → ∃ t, exec i s = .next t
          ∧ s.cutTo t q j l
          ∧ (t.port .workstation).slot
            = .ready ⟨.ok, tag, false, false, false, (s.port .workstation).dropped, 0, t.arbiter.report⟩
          ∧ ∀ o opo, a.waiting.get o = some opo → o ≠ Port.client q → a.next o →
            t.arbiter = { a with holder := some (o, s.settleOp o opo), waiting := a.waiting.set o none })

/-! ### The engine under the grant -/

/-- The start of a search. The E0 look-up (R31): the seed, else the published null, else the zone centre, clamped to travel,
becomes E0 and the current target; a head request with the next sequence is placed, and the grant is released. The head settle
timer's expiry makes the handshake READY, and a job in HEAD_WAIT with no move places one for its current target and enters
MOVE_WAIT (R32, R102, R115). With a move outstanding it goes on from that: to MOVE_WAIT where it is REQUESTED or TAKEN, to
SETTLING where it is DONE, and to a new dwell where it is SETTLED (R32, R37), the last two with the servo not lost for the whole
loss timeout. -/
def Obligations.SearchStarts : Prop :=
  (∀ (r : SearchRecord) (h z : Nat) (s : State), s.arbiter.holder = some (.engine, .e0LookUp) →
    (∀ c, s.arbiter.waiting.get c = none) → s.engine.state = .headWait → s.engine.active = some r → r.e0 = none →
    (r.job.work = .measure h z ∨ r.job.work = .referenceCheck h z) →
    let e0 := clampInt s.store.profile.travelLow s.store.profile.travelHigh
      (match (s.entry h z).seed, (s.entry h z).published with
        | some c, _ => c
        | none, some p => p.null
        | none, none => (s.store.profile.zoneCentre[z]?).getD 0)
    ∃ t, exec .e0Lookup s = .next t ∧ t.engine.state = .headWait
      ∧ t.engine.active = some { r with e0 := some e0, target := some e0 }
      ∧ t.handshake.head = some ⟨.requested, nextSequence s.handshake.headSequence, h, r.job.id⟩
      ∧ t.handshake.headTimeout = .running (s.store.profile.headSelectTimeout * 1000)
      ∧ t.arbiter.holder = none ∧ t.table = s.table)
  ∧ (∀ (h : HeadRequest) (m : MoveRequest) (s : State), s.handshake.head = some h → h.phase = .delay →
    s.engine.state = .headWait → s.handshake.move = some m →
    let ready : HandshakeUnit := { s.handshake with head := some { h with phase := .ready }, headSettle := .stopped }
    ((m.phase = .requested ∨ m.phase = .taken) → exec .headSettleTimerExpiry s = .next { s with
      handshake := ready, engine := { s.engine with state := .moveWait } })
    ∧ (s.sample.lossExpired = false → m.phase = .done → exec .headSettleTimerExpiry s = .next { s with
      handshake := ready, engine := { s.engine with state := .settling } })
    ∧ (s.sample.lossExpired = false → m.phase = .settled → exec .headSettleTimerExpiry s = .next { s with
      handshake := ready, sample := { s.sample with fifo := [] }
      engine := { s.engine with
        state := .dwell
        dwell := ⟨0, 0, none, 0, max 1 (s.store.profile.wedges / 2 ^ s.store.profile.sampleExponent)⟩ } }))
  ∧ ∀ (h : HeadRequest) (r : SearchRecord) (target : Int) (s : State), s.handshake.head = some h → h.phase = .delay →
    s.engine.state = .headWait → s.engine.active = some r → r.target = some target → s.handshake.move = none →
    s.store.profile.travelLow ≤ target → target ≤ s.store.profile.travelHigh →
    ∃ t, exec .headSettleTimerExpiry s = .next t ∧ t.engine.state = .moveWait
      ∧ t.handshake.head = some { h with phase := .ready } ∧ t.handshake.headSettle = .stopped
      ∧ t.handshake.move = some ⟨.requested, nextSequence s.handshake.moveSequence, target, r.job.id⟩
      ∧ t.handshake.moveSequence = nextSequence s.handshake.moveSequence
      ∧ t.handshake.moveTimeout = .running (s.store.profile.moveTimeout * 1000)

/-- COMMIT (R8, R10, R54): the staged part is written into the job's entry and no other entry's; a CONVERGED reference check over
a VALID baseline whose drift exceeds the limit makes every VALID entry of the zone STALE and tells the ATTACHED ones of Port W and
Port D; the published values stay; and a job not CLEARED leaves its completion record, where its list has room. A job that was
CLEARED meanwhile leaves none, and every port whose RESET PORT waited for the commit is answered, a port that reset itself with a
dropped-request count of 0 (R11, R194; log entries 8 and 15). -/
def Obligations.Commit : Prop :=
  ∀ (r : SearchRecord) (o : JobOutcome) (part : StagedPart) (h z : Nat) (s : State), h < 16 → z < 12 →
    s.engine.state = .commit → s.arbiter.holder = some (.engine, .commit) → s.engine.active = some r →
    s.engine.staging = some (o, part) → (r.job.work = .measure h z ∨ r.job.work = .referenceCheck h z) →
    let drift : Option Int := match r.job.work, part, (s.entry h z).published with
      | .referenceCheck _ _, .converged n _ _ _ _, some x => if x.stale = true then none else some (n - x.null)
      | _, _, _ => none
    let exceeds := match drift with
      | some x => decide (s.store.profile.driftLimit < x.natAbs)
      | none => false
    let q := Submitter.port r.job.submitter
    ∃ t, exec .commit s = .next t ∧ t.table.generation = s.table.generation
      ∧ (∀ k, k < 192 →
        (t.entryAt k).seed = (s.entryAt k).seed
        ∧ (t.entryAt k).staged = (if k = entryIndex h z then some part else (s.entryAt k).staged)
        ∧ (t.entryAt k).published = (s.entryAt k).published.map fun x =>
            { x with stale := x.stale || (exceeds && k % 12 == z) })
      ∧ (s.engine.clearPending = false → (s.port q).completions.length < 8 →
        (t.port q).completions = (s.port q).completions ++ [stagedRecord r o part drift exceeds s.sample.revolutions])
      ∧ (∀ d, drift = some d → exceeds = true → ∀ p, p ≠ .positioner → (s.port p).attached = true →
        (t.port p).notices.details.drift = some (.drift z d) ∧ t.isPending p .drift = true)
      ∧ (s.engine.clearPending = true → (t.port q).completions = (s.port q).completions
        ∧ t.engine.resetReplies = []
        ∧ ∀ x ∈ s.engine.resetReplies, (∀ y ∈ s.engine.resetReplies, y.port = x.port → y = x) →
          let dropped := if x.target = x.port then 0 else (s.port x.port).dropped
          ∀ i, (s.port x.port).slot = .pending i → (t.port x.port).dropped = dropped
            ∧ (t.port x.port).slot = .ready ⟨.ok, i.tag, false, false, false, dropped, 0,
              u8 x.queued ++ u8 x.stacked ++ [1, 14]⟩)

/-- GROUP_END_PUBLISH (R18, R19, R132): the table is published as PUBLISH does it, the ATTACHED ones of Port W and Port D are
told, the group record leaves, and an engine with a fault waiting enters FAULT_HOLD. -/
def Obligations.GroupEndPublish : Prop :=
  ∀ (id : Nat) (s : State), s.engine.state = .publish → s.arbiter.holder = some (.engine, .groupPublish) →
    s.engine.publishing = some id →
    ∃ t, exec .groupEndPublish s = .next t ∧ t.table = (publishTable s).table
      ∧ t.jobs.groups = s.jobs.groups.filter (fun g => g.id != id)
      ∧ (∀ p, p ≠ .positioner → (s.port p).attached = true →
        (t.port p).notices.details.published = some s.publishDetail ∧ t.isPending p .published = true)
      ∧ (s.engine.faultPending = true → t.engine.state = .faultHold)

/-! ### The Profile Store -/

/-- SELECT PROFILE, SAVE PROFILE and SET PARAMETER share their refusals (R200 to R203): BAD_ARGUMENT, then BUSY while the store
loads or saves, the engine is not IDLE or work waits, then NO_PROFILE for the last two; accepted, SELECT makes the store LOADING
and SAVE SAVING, with the slot PENDING. -/
def Obligations.StoreRequests : Prop :=
  ∀ (tag n i : Byte) (v : ValueWord) (s : State), s.canSend .workstation →
    let busy := (∃ x, s.store.state = .loading x) ∨ (∃ x, s.store.state = .saving x) ∨ s.engine.state ≠ .idle
      ∨ s.jobs.queue ≠ [] ∨ s.stack ≠ []
    let refused : Instr → Status → Prop := fun c st => exec c s = .next (answer .workstation tag { status := st } s)
    let select := Instr.selectProfile .workstation tag n
    let save := Instr.saveProfile .workstation tag n
    let set := Instr.setParameter .workstation tag n i v
    (3 < n.toNat → refused select .badArgument ∧ refused save .badArgument)
    ∧ (n.toNat ≤ 3 → busy → refused select .busy ∧ refused save .busy)
    ∧ (n.toNat ≤ 3 → ¬busy → exec select s = .next { s.setSlot .workstation (.pending select) with
        store := { s.store with state := .loading (some n.toNat) } })
    ∧ (n.toNat ≤ 3 → ¬busy → s.store.state = .noProfile → refused save .noProfile)
    ∧ (n.toNat ≤ 3 → ¬busy → s.store.state = .ready → exec save s = .next { s.setSlot .workstation (.pending save) with
        store := { s.store with state := .saving n.toNat } })
    ∧ (paramArg n i = none → refused set .badArgument)
    ∧ ((paramArg n i).isSome = true → busy → refused set .busy)
    ∧ ((paramArg n i).isSome = true → ¬busy → s.store.state = .noProfile → refused set .noProfile)

/-- SET PARAMETER accepted (R26, R203): the clamped value is stored with the adjustments it asks for, over a profile whose values lie
in their ranges, and answered, CLAMPED where it differs or another value was adjusted. W leaves the wedge counter unaligned, the
drift interval clears the drift counter and the pending zone, the filter length is in force, and a travel limit re-evaluates the
travel state, where a travel fault is posted and holds the engine (R90, R91); the other numbers change nothing else. A head count
takes the reference head below it. The head count, the zone count, the reference head, a zone centre and a target track ask for
the grant to empty the table, even for an unchanged value, and their slot stays PENDING. The value is answered in four bytes, as
log entry 8 has it, and a negative default slot is stored as 0, as log entry 6 has it. -/
def Obligations.SetParameter : Prop :=
  ∀ (tag n i : Byte) (k j : Nat) (v : ValueWord) (s : State), s.canSend .workstation → paramArg n i = some (k, j) →
    s.store.state = .ready → s.engine.state = .idle → s.jobs.queue = [] → s.stack = [] →
    let c := Instr.setParameter .workstation tag n i v
    let value := clampInt (s.store.profile.range k).1 (s.store.profile.range k).2 v.toInt
    (∃ t, exec c s = .next t ∧ t.store.profile = s.store.profile.setParam k j v.toInt ∧ t.table = s.table)
    ∧ (s.store.profile.sound → (∀ m ∈ [1, 2, 3, 24, 25, 28, 29], k ≠ m) →
      let stored := if k = 4 then value / 8 * 8 else if k = 30 then (if value = v.toInt then value else 0) else value
      let set : State := { s with store := { s.store with profile := s.store.profile.withParam k j stored } }
      exec c s = .next (answer .workstation tag { clamped := stored != v.toInt, payload := le 4 stored }
        (if k = 4 then { set with sample := { s.sample with wedge := 0, aligned := false } }
        else if k = 23 then { set with jobs := { s.jobs with drift := 0, pendingZone := none } }
        else if k = 27 then { set with frame := { s.frame with filterLength := stored.toNat } }
        else set)))
    ∧ (s.store.profile.sound → (k = 24 ∨ k = 25) → s.store.slot.isSome = true →
      let low := if k = 24 then value else s.store.profile.travelLow
      let high := if k = 25 then value else if s.store.profile.travelHigh ≤ low then low + 1 else s.store.profile.travelHigh
      let side : TravelState := if s.frame.count < low then .below else if high < s.frame.count then .above else .inside
      let off := (s.frame.travel = .inside ∨ s.frame.travel = .untested) ∧ side ≠ .inside
      let a : Answer :=
        { clamped := value != v.toInt || (k == 24 && high != s.store.profile.travelHigh), payload := le 4 value }
      let set : State := { s with
        store := { s.store with profile := { s.store.profile with travelLow := low, travelHigh := high } }
        frame := { s.frame with travel := side } }
      (¬off → exec c s = .next (answer .workstation tag a set))
      ∧ (off → ∃ t, exec c s = .next t ∧ t.store = set.store ∧ t.frame = set.frame ∧ t.jobs = s.jobs
        ∧ t.engine = { s.engine with state := .faultHold }
        ∧ (t.port .workstation).slot
          = .ready ⟨.ok, tag, a.clamped, false, false, (s.port .workstation).dropped, 0, a.payload⟩
        ∧ ∀ p, p ≠ .adapter → (s.port p).attached = true →
          (t.port p).notices.details.fault = some (.travel (side == .above) s.frame.count) ∧ t.isPending p .fault = true))
    ∧ (k = 1 → ∃ t, exec c s = .next t ∧ t.store.profile.headCount = value.toNat
      ∧ t.store.profile.referenceHead = min s.store.profile.referenceHead (value.toNat - 1))
    ∧ (s.arbiter.holder = none → k ∈ [1, 2, 3, 28, 29] → ∃ t x l, exec c s = .next t
      ∧ t.arbiter.holder = some (.w, .emptyTable x l) ∧ (t.port .workstation).slot = .pending c)

/-- READ PARAMETER (R204): the parameter number is 1 to 30 and the index 0 to 11 for 28 and 29 and 0 for every other, and anything
else is refused BAD_ARGUMENT; NOT_READY while LOADING, NO_PROFILE while NO_PROFILE; in READY and SAVING the value in force.
Nothing changes. The value is answered in four bytes, as log entry 8 has it. -/
def Obligations.ReadParameter : Prop :=
  ∀ (tag n i : Byte) (s : State), s.canSend .workstation →
    let good := 1 ≤ n.toNat ∧ n.toNat ≤ 30 ∧ i.toNat < if n.toNat = 28 ∨ n.toNat = 29 then 12 else 1
    let answers : Answer → Prop := fun a => exec (.readParameter .workstation tag n i) s = .next (answer .workstation tag a s)
    (¬good → answers { status := .badArgument })
    ∧ (good → (∃ x, s.store.state = .loading x) → answers { status := .notReady })
    ∧ (good → s.store.state = .noProfile → answers { status := .noProfile })
    ∧ (good → (s.store.state = .ready ∨ ∃ x, s.store.state = .saving x) →
      answers { payload := le 4 (s.store.profile.param n.toNat i.toNat) })

/-- A load or a save completes. A load of the slot SELECT PROFILE named, or at power-on of the slot the default-slot byte names,
slot 0 where it names none (R199): a good image brings its clamped profile into force with its slot and clears the owed marks, and
after a period with no profile the wedge window starts, and with the servo LOST the loss timeout. A bad or unread one leaves no
profile in force and the travel state UNTESTED, and posts FAULT PROFILE to the ATTACHED ones of Port W and Port P and owes it to
the others, with the slot of this load whatever was owed before (log entry 19). Either way the wedge counter is 0 and unaligned,
with the engine IDLE the drift counter is 0 and no capture is WAITING, and the table is emptied, at power-on at once (log entry
22) and otherwise under the grant. A save (R202) makes the store READY again with the profile in force unchanged, and Port W is
answered with the slot and WRITTEN or FAILED, 0 or 1 as log entry 8 has them, here with the engine IDLE and no work waiting, or
held. -/
def Obligations.StoreCompletions : Prop :=
  (∀ (b : Option Byte) (image : Option (List Byte)) (selected : Option Nat) (s : State), s.store.state = .loading selected →
    let slot := match selected, b with
      | some n, _ => n
      | none, some x => if x.toNat ≤ 3 then x.toNat else 0
      | none, none => 0
    ∃ t, exec (.profileLoadComplete b image) s = .next t
      ∧ (∀ bytes, image = some bytes → goodImage bytes = true →
        let pr := (rawProfile bytes).clampAll
        t.store = ⟨.ready, pr, some slot, none, none⟩ ∧ t.frame.filterLength = pr.filterLength
        ∧ (s.store.slot = none → t.sample.window = .running pr.wedgeWindow
          ∧ (s.sample.locked = false → t.sample.loss = .running (pr.servoLossTimeout * 1000))))
      ∧ ((∀ bytes, image = some bytes → goodImage bytes = false) →
        t.store.state = .noProfile ∧ t.store.slot = none ∧ t.frame.travel = .untested
        ∧ t.sample.window = .stopped ∧ t.sample.loss = .stopped
        ∧ ∀ p, p ≠ .adapter →
          ((s.port p).attached = true →
            (t.port p).notices.details.fault = some (.profile slot) ∧ t.isPending p .fault = true)
          ∧ ((s.port p).attached = false → t.store.owed p = some slot))
      ∧ t.sample.wedge = 0 ∧ t.sample.aligned = false
      ∧ (selected = none → t.table.generation = s.table.generation ∧ ∀ h z, t.entry h z = ⟨none, none, none⟩)
      ∧ (selected.isSome = true → t.table = s.table
        ∧ (s.arbiter.holder = none → (∀ c, s.arbiter.waiting.get c = none) → s.engine.state = .idle → s.jobs.queue = [] →
          s.stack = [] → s.jobs.groups = [] → ∃ c l, t.arbiter.holder = some (.w, .emptyTable c l)))
      ∧ (s.engine.state = .idle → s.jobs.queue = [] → s.stack = [] →
        t.jobs.drift = 0 ∧ t.jobs.pendingZone = none ∧ t.frame.home ≠ .waiting))
  ∧ ∀ (readBack : Option (List Byte)) (slot : Nat) (i : Instr) (s : State), s.store.state = .saving slot →
    (s.port .workstation).slot = .pending i →
    (s.engine.state = .faultHold
      ∨ (s.engine.state = .idle ∧ s.jobs.queue = [] ∧ s.stack = [] ∧ ∀ g ∈ s.jobs.groups, g.due = false)) →
    ∃ t, exec (.profileSaveComplete readBack) s = .next t ∧ t.store = { s.store with state := .ready } ∧ t.engine = s.engine
      ∧ (t.port .workstation).slot = .ready ⟨.ok, i.tag, false, false, false, (s.port .workstation).dropped, 0,
        u8 slot ++ u8 (if readBack = some s.store.profile.image then 0 else 1)⟩
      ∧ (readBack ≠ some s.store.profile.image → ∀ p, p ≠ .adapter → (s.port p).attached = true →
        (t.port p).notices.details.fault = some (.profile slot))

/-- The image SAVE PROFILE writes is good and, loaded again, gives the profile that was saved, for every profile whose values lie
in their ranges (R198, R199, R202). -/
def Obligations.ImageRoundTrip : Prop :=
  ∀ pr : Profile, pr.sound → goodImage pr.image = true ∧ (rawProfile pr.image).clampAll = pr ∧ pr.image.length = 256

/-! ### Properties of every step -/

/-- No store of records ever holds more than its slots (R70, R121, R129, R143, R181), and a FREE arbiter has no waiter and no hold
timer (R156), an assembly under the grant fewer than ten records (R170), at every step. -/
def Obligations.CapacitiesKept : Prop :=
  (∀ s t : State, s.bounded → step s = .next t → t.bounded)
  ∧ ∀ s t : State, s.arbiter.sound → step s = .next t → t.arbiter.sound

/-- At every step a slot is PENDING exactly while one operation is in hand for its port (R157, R186), no operation at the arbiter
names an entry outside the table (R1), and an entry holds an offset only while its zone's reference entry holds a published part
(R16), but for the time an emptying of the table that a change of the profile asks for has not been carried out (R203). -/
def Obligations.SlotsAndOffsetsKept : Prop :=
  (∀ s t : State, s.slotsSound → step s = .next t → t.slotsSound)
  ∧ (∀ s t : State, s.store.profile.sound → s.arbiter.opsInTable → step s = .next t → t.arbiter.opsInTable)
  ∧ ∀ s t : State, s.slotsSound → s.store.profile.sound → s.arbiter.opsInTable → s.offsetsSound → step s = .next t →
    t.offsetsSound

/-- A job is active exactly in the states R28 gives one, in IDLE, COMMIT, PUBLISH and FAULT_HOLD both handshakes are NONE (R107,
R116), and the handshakes agree with their timers and the settle test (R94, R106, R114, R115), at every step. -/
def Obligations.EngineAndHandshakesKept : Prop :=
  ∀ s t : State, s.engineSound → s.handshakeSound → step s = .next t → t.engineSound ∧ t.handshakeSound

/-- The queue stays in class order, URGENT first (R123), every context's class is below the class of the context above it and of
the active job (R143), and no job id is held twice among the queue, the active job and the stack (R121, R122), at every step. -/
def Obligations.OrdersAndIdsKept : Prop :=
  (∀ s t : State, s.jobs.queue.Pairwise (fun a b => b.cls.rank ≤ a.cls.rank) → step s = .next t →
    t.jobs.queue.Pairwise (fun a b => b.cls.rank ≤ a.cls.rank))
  ∧ (∀ s t : State, s.stackSound → step s = .next t → t.stackSound)
  ∧ ∀ s t : State, s.idsSound → step s = .next t → t.idsSound

/-- An entry is QUEUED, MEASURING or SUSPENDED exactly while a job that names it is queued, active or stacked, so that at most one
is MEASURING and one is SUSPENDED exactly for each context that names it, and no entry is named by two jobs (R2), at every step.
-/
def Obligations.StatusesKept : Prop :=
  ∀ s t : State, s.store.profile.sound → s.engineSound → s.idsSound → s.statusesSound → step s = .next t → t.statusesSound

/-- At every step these values stay in the ranges the manual gives them: the parameters (R198), the count, the error count and the
filters (R80), the values READ SERVO reports (R61, R65, R78), the sequences and the selected head (R100), the job and group ids to
come and the drift counter (R122, R129, R136), the arbiter's settings and its hold timer (R156), the publish generation (R17), and
each port's counts, base code, window and cursor (R167, R172, R181, R184). -/
def Obligations.RangesKept : Prop := ∀ s t : State, s.ranged → step s = .next t → t.ranged

/-- The properties that every step keeps hold right after reset. That profile RAM lies in its ranges there rests on the values the
model gives it, because the manual gives none (log entry 2). -/
def Obligations.ResetIsSound : Prop :=
  State.reset.bounded ∧ State.reset.arbiter.sound ∧ State.reset.arbiter.opsInTable ∧ State.reset.slotsSound
    ∧ State.reset.offsetsSound ∧ State.reset.engineSound ∧ State.reset.handshakeSound ∧ State.reset.stackSound ∧ State.reset.idsSound ∧ State.reset.statusesSound
    ∧ State.reset.ranged
end

