-- ==== Sys2Proof/Laws/State.lean ====
section
/-! SUPPORT. One lemma per field for every update of the state, so that no proof unfolds a record update, and the lemmas of the
collections indexed by ports, clients and sources. -/

namespace Sys2Proof.Machine

/-! ### Ports, clients and sources -/

@[simp] theorem PerPort.get_set_same {α : Type} (x : PerPort α) (p : Port) (v : α) : (x.set p v).get p = v := by
  cases p <;> rfl

theorem PerPort.get_set {α : Type} (x : PerPort α) (p q : Port) (v : α) :
    (x.set p v).get q = if q = p then v else x.get q := by
  cases p <;> cases q <;> rfl

@[simp] theorem PerPort.get_set_of_ne {α : Type} (x : PerPort α) {p q : Port} (v : α) (h : q ≠ p) :
    (x.set p v).get q = x.get q := by
  rw [PerPort.get_set, if_neg h]

@[simp] theorem PerPort.set_set {α : Type} (x : PerPort α) (p : Port) (v v2 : α) : (x.set p v).set p v2 = x.set p v2 := by
  cases p <;> rfl

@[simp] theorem PerPort.set_get {α : Type} (x : PerPort α) (p : Port) : x.set p (x.get p) = x := by
  cases p <;> rfl

theorem PerPort.ext_get {α : Type} {x y : PerPort α} (h : ∀ p, x.get p = y.get p) : x = y := by
  have hw := h .workstation
  have hp := h .positioner
  have hd := h .adapter
  cases x
  cases y
  simp only [PerPort.get] at hw hp hd
  rw [hw, hp, hd]

theorem PerClient.get_set {α : Type} (x : PerClient α) (c c2 : Client) (v : α) :
    (x.set c v).get c2 = if c2 = c then v else x.get c2 := by
  cases c <;> cases c2 <;> rfl

theorem PerSource.get_set {α : Type} (x : PerSource α) (a b : Source) (v : α) :
    (x.set a v).get b = if b = a then v else x.get b := by
  cases a <;> cases b <;> rfl

/-! ### A port of an updated state -/

@[simp] theorem State.port_setPort (s : State) (p : Port) (x : LinkPort) : (s.setPort p x).port p = x :=
  PerPort.get_set_same _ _ _

theorem State.port_setPort_eq (s : State) (p q : Port) (x : LinkPort) :
    (s.setPort p x).port q = if q = p then x else s.port q :=
  PerPort.get_set _ _ _ _

@[simp] theorem State.port_setPort_of_ne (s : State) {p q : Port} (x : LinkPort) (h : q ≠ p) :
    (s.setPort p x).port q = s.port q :=
  PerPort.get_set_of_ne _ _ h

@[simp] theorem State.setPort_setPort (s : State) (p : Port) (x y : LinkPort) : (s.setPort p x).setPort p y = s.setPort p y := by
  simp only [State.setPort, PerPort.set_set]

/-! ### State.setPort -/

@[simp] theorem State.setPort_ports (s : State) (p : Port) (x : LinkPort) : (s.setPort p x).ports = s.ports.set p x := rfl
@[simp] theorem State.setPort_table (s : State) (p : Port) (x : LinkPort) : (s.setPort p x).table = s.table := rfl
@[simp] theorem State.setPort_statuses (s : State) (p : Port) (x : LinkPort) : (s.setPort p x).statuses = s.statuses := rfl
@[simp] theorem State.setPort_engine (s : State) (p : Port) (x : LinkPort) : (s.setPort p x).engine = s.engine := rfl
@[simp] theorem State.setPort_jobs (s : State) (p : Port) (x : LinkPort) : (s.setPort p x).jobs = s.jobs := rfl
@[simp] theorem State.setPort_stack (s : State) (p : Port) (x : LinkPort) : (s.setPort p x).stack = s.stack := rfl
@[simp] theorem State.setPort_handshake (s : State) (p : Port) (x : LinkPort) : (s.setPort p x).handshake = s.handshake := rfl
@[simp] theorem State.setPort_sample (s : State) (p : Port) (x : LinkPort) : (s.setPort p x).sample = s.sample := rfl
@[simp] theorem State.setPort_frame (s : State) (p : Port) (x : LinkPort) : (s.setPort p x).frame = s.frame := rfl
@[simp] theorem State.setPort_arbiter (s : State) (p : Port) (x : LinkPort) : (s.setPort p x).arbiter = s.arbiter := rfl
@[simp] theorem State.setPort_store (s : State) (p : Port) (x : LinkPort) : (s.setPort p x).store = s.store := rfl
@[simp] theorem State.setPort_draws (s : State) (p : Port) (x : LinkPort) : (s.setPort p x).draws = s.draws := rfl
@[simp] theorem State.setPort_pending (s : State) (p : Port) (x : LinkPort) : (s.setPort p x).pending = s.pending := rfl

/-! ### State.setSlot -/

@[simp] theorem State.setSlot_ports (s : State) (p : Port) (x : Slot) : (s.setSlot p x).ports = s.ports.set p { s.port p with slot := x } := rfl
@[simp] theorem State.setSlot_table (s : State) (p : Port) (x : Slot) : (s.setSlot p x).table = s.table := rfl
@[simp] theorem State.setSlot_statuses (s : State) (p : Port) (x : Slot) : (s.setSlot p x).statuses = s.statuses := rfl
@[simp] theorem State.setSlot_engine (s : State) (p : Port) (x : Slot) : (s.setSlot p x).engine = s.engine := rfl
@[simp] theorem State.setSlot_jobs (s : State) (p : Port) (x : Slot) : (s.setSlot p x).jobs = s.jobs := rfl
@[simp] theorem State.setSlot_stack (s : State) (p : Port) (x : Slot) : (s.setSlot p x).stack = s.stack := rfl
@[simp] theorem State.setSlot_handshake (s : State) (p : Port) (x : Slot) : (s.setSlot p x).handshake = s.handshake := rfl
@[simp] theorem State.setSlot_sample (s : State) (p : Port) (x : Slot) : (s.setSlot p x).sample = s.sample := rfl
@[simp] theorem State.setSlot_frame (s : State) (p : Port) (x : Slot) : (s.setSlot p x).frame = s.frame := rfl
@[simp] theorem State.setSlot_arbiter (s : State) (p : Port) (x : Slot) : (s.setSlot p x).arbiter = s.arbiter := rfl
@[simp] theorem State.setSlot_store (s : State) (p : Port) (x : Slot) : (s.setSlot p x).store = s.store := rfl
@[simp] theorem State.setSlot_draws (s : State) (p : Port) (x : Slot) : (s.setSlot p x).draws = s.draws := rfl
@[simp] theorem State.setSlot_pending (s : State) (p : Port) (x : Slot) : (s.setSlot p x).pending = s.pending := rfl

/-! ### State.setNotices -/

@[simp] theorem State.setNotices_ports (s : State) (p : Port) (u : NoticeUnit) : (s.setNotices p u).ports = s.ports.set p { s.port p with notices := u } := rfl
@[simp] theorem State.setNotices_table (s : State) (p : Port) (u : NoticeUnit) : (s.setNotices p u).table = s.table := rfl
@[simp] theorem State.setNotices_statuses (s : State) (p : Port) (u : NoticeUnit) : (s.setNotices p u).statuses = s.statuses := rfl
@[simp] theorem State.setNotices_engine (s : State) (p : Port) (u : NoticeUnit) : (s.setNotices p u).engine = s.engine := rfl
@[simp] theorem State.setNotices_jobs (s : State) (p : Port) (u : NoticeUnit) : (s.setNotices p u).jobs = s.jobs := rfl
@[simp] theorem State.setNotices_stack (s : State) (p : Port) (u : NoticeUnit) : (s.setNotices p u).stack = s.stack := rfl
@[simp] theorem State.setNotices_handshake (s : State) (p : Port) (u : NoticeUnit) : (s.setNotices p u).handshake = s.handshake := rfl
@[simp] theorem State.setNotices_sample (s : State) (p : Port) (u : NoticeUnit) : (s.setNotices p u).sample = s.sample := rfl
@[simp] theorem State.setNotices_frame (s : State) (p : Port) (u : NoticeUnit) : (s.setNotices p u).frame = s.frame := rfl
@[simp] theorem State.setNotices_arbiter (s : State) (p : Port) (u : NoticeUnit) : (s.setNotices p u).arbiter = s.arbiter := rfl
@[simp] theorem State.setNotices_store (s : State) (p : Port) (u : NoticeUnit) : (s.setNotices p u).store = s.store := rfl
@[simp] theorem State.setNotices_draws (s : State) (p : Port) (u : NoticeUnit) : (s.setNotices p u).draws = s.draws := rfl
@[simp] theorem State.setNotices_pending (s : State) (p : Port) (u : NoticeUnit) : (s.setNotices p u).pending = s.pending := rfl

/-! ### State.setCursor -/

@[simp] theorem State.setCursor_ports (s : State) (p : Port) (c : Option Cursor) : (s.setCursor p c).ports = s.ports.set p { s.port p with cursor := c } := rfl
@[simp] theorem State.setCursor_table (s : State) (p : Port) (c : Option Cursor) : (s.setCursor p c).table = s.table := rfl
@[simp] theorem State.setCursor_statuses (s : State) (p : Port) (c : Option Cursor) : (s.setCursor p c).statuses = s.statuses := rfl
@[simp] theorem State.setCursor_engine (s : State) (p : Port) (c : Option Cursor) : (s.setCursor p c).engine = s.engine := rfl
@[simp] theorem State.setCursor_jobs (s : State) (p : Port) (c : Option Cursor) : (s.setCursor p c).jobs = s.jobs := rfl
@[simp] theorem State.setCursor_stack (s : State) (p : Port) (c : Option Cursor) : (s.setCursor p c).stack = s.stack := rfl
@[simp] theorem State.setCursor_handshake (s : State) (p : Port) (c : Option Cursor) : (s.setCursor p c).handshake = s.handshake := rfl
@[simp] theorem State.setCursor_sample (s : State) (p : Port) (c : Option Cursor) : (s.setCursor p c).sample = s.sample := rfl
@[simp] theorem State.setCursor_frame (s : State) (p : Port) (c : Option Cursor) : (s.setCursor p c).frame = s.frame := rfl
@[simp] theorem State.setCursor_arbiter (s : State) (p : Port) (c : Option Cursor) : (s.setCursor p c).arbiter = s.arbiter := rfl
@[simp] theorem State.setCursor_store (s : State) (p : Port) (c : Option Cursor) : (s.setCursor p c).store = s.store := rfl
@[simp] theorem State.setCursor_draws (s : State) (p : Port) (c : Option Cursor) : (s.setCursor p c).draws = s.draws := rfl
@[simp] theorem State.setCursor_pending (s : State) (p : Port) (c : Option Cursor) : (s.setCursor p c).pending = s.pending := rfl

/-! ### State.setCompletions -/

@[simp] theorem State.setCompletions_ports (s : State) (p : Port) (l : List CompletionRecord) : (s.setCompletions p l).ports = s.ports.set p { s.port p with completions := l } := rfl
@[simp] theorem State.setCompletions_table (s : State) (p : Port) (l : List CompletionRecord) : (s.setCompletions p l).table = s.table := rfl
@[simp] theorem State.setCompletions_statuses (s : State) (p : Port) (l : List CompletionRecord) : (s.setCompletions p l).statuses = s.statuses := rfl
@[simp] theorem State.setCompletions_engine (s : State) (p : Port) (l : List CompletionRecord) : (s.setCompletions p l).engine = s.engine := rfl
@[simp] theorem State.setCompletions_jobs (s : State) (p : Port) (l : List CompletionRecord) : (s.setCompletions p l).jobs = s.jobs := rfl
@[simp] theorem State.setCompletions_stack (s : State) (p : Port) (l : List CompletionRecord) : (s.setCompletions p l).stack = s.stack := rfl
@[simp] theorem State.setCompletions_handshake (s : State) (p : Port) (l : List CompletionRecord) : (s.setCompletions p l).handshake = s.handshake := rfl
@[simp] theorem State.setCompletions_sample (s : State) (p : Port) (l : List CompletionRecord) : (s.setCompletions p l).sample = s.sample := rfl
@[simp] theorem State.setCompletions_frame (s : State) (p : Port) (l : List CompletionRecord) : (s.setCompletions p l).frame = s.frame := rfl
@[simp] theorem State.setCompletions_arbiter (s : State) (p : Port) (l : List CompletionRecord) : (s.setCompletions p l).arbiter = s.arbiter := rfl
@[simp] theorem State.setCompletions_store (s : State) (p : Port) (l : List CompletionRecord) : (s.setCompletions p l).store = s.store := rfl
@[simp] theorem State.setCompletions_draws (s : State) (p : Port) (l : List CompletionRecord) : (s.setCompletions p l).draws = s.draws := rfl
@[simp] theorem State.setCompletions_pending (s : State) (p : Port) (l : List CompletionRecord) : (s.setCompletions p l).pending = s.pending := rfl

/-! ### State.setArbiter -/

@[simp] theorem State.setArbiter_ports (s : State) (a : Arbiter) : (s.setArbiter a).ports = s.ports := rfl
@[simp] theorem State.setArbiter_table (s : State) (a : Arbiter) : (s.setArbiter a).table = s.table := rfl
@[simp] theorem State.setArbiter_statuses (s : State) (a : Arbiter) : (s.setArbiter a).statuses = s.statuses := rfl
@[simp] theorem State.setArbiter_engine (s : State) (a : Arbiter) : (s.setArbiter a).engine = s.engine := rfl
@[simp] theorem State.setArbiter_jobs (s : State) (a : Arbiter) : (s.setArbiter a).jobs = s.jobs := rfl
@[simp] theorem State.setArbiter_stack (s : State) (a : Arbiter) : (s.setArbiter a).stack = s.stack := rfl
@[simp] theorem State.setArbiter_handshake (s : State) (a : Arbiter) : (s.setArbiter a).handshake = s.handshake := rfl
@[simp] theorem State.setArbiter_sample (s : State) (a : Arbiter) : (s.setArbiter a).sample = s.sample := rfl
@[simp] theorem State.setArbiter_frame (s : State) (a : Arbiter) : (s.setArbiter a).frame = s.frame := rfl
@[simp] theorem State.setArbiter_arbiter (s : State) (a : Arbiter) : (s.setArbiter a).arbiter = a := rfl
@[simp] theorem State.setArbiter_store (s : State) (a : Arbiter) : (s.setArbiter a).store = s.store := rfl
@[simp] theorem State.setArbiter_draws (s : State) (a : Arbiter) : (s.setArbiter a).draws = s.draws := rfl
@[simp] theorem State.setArbiter_pending (s : State) (a : Arbiter) : (s.setArbiter a).pending = s.pending := rfl
@[simp] theorem State.setArbiter_port (s : State) (a : Arbiter) (at_ : Port) : (s.setArbiter a).port at_ = s.port at_ := rfl

/-! ### State.setHandshake -/

@[simp] theorem State.setHandshake_ports (s : State) (h : HandshakeUnit) : (s.setHandshake h).ports = s.ports := rfl
@[simp] theorem State.setHandshake_table (s : State) (h : HandshakeUnit) : (s.setHandshake h).table = s.table := rfl
@[simp] theorem State.setHandshake_statuses (s : State) (h : HandshakeUnit) : (s.setHandshake h).statuses = s.statuses := rfl
@[simp] theorem State.setHandshake_engine (s : State) (h : HandshakeUnit) : (s.setHandshake h).engine = s.engine := rfl
@[simp] theorem State.setHandshake_jobs (s : State) (h : HandshakeUnit) : (s.setHandshake h).jobs = s.jobs := rfl
@[simp] theorem State.setHandshake_stack (s : State) (h : HandshakeUnit) : (s.setHandshake h).stack = s.stack := rfl
@[simp] theorem State.setHandshake_handshake (s : State) (h : HandshakeUnit) : (s.setHandshake h).handshake = h := rfl
@[simp] theorem State.setHandshake_sample (s : State) (h : HandshakeUnit) : (s.setHandshake h).sample = s.sample := rfl
@[simp] theorem State.setHandshake_frame (s : State) (h : HandshakeUnit) : (s.setHandshake h).frame = s.frame := rfl
@[simp] theorem State.setHandshake_arbiter (s : State) (h : HandshakeUnit) : (s.setHandshake h).arbiter = s.arbiter := rfl
@[simp] theorem State.setHandshake_store (s : State) (h : HandshakeUnit) : (s.setHandshake h).store = s.store := rfl
@[simp] theorem State.setHandshake_draws (s : State) (h : HandshakeUnit) : (s.setHandshake h).draws = s.draws := rfl
@[simp] theorem State.setHandshake_pending (s : State) (h : HandshakeUnit) : (s.setHandshake h).pending = s.pending := rfl
@[simp] theorem State.setHandshake_port (s : State) (h : HandshakeUnit) (at_ : Port) : (s.setHandshake h).port at_ = s.port at_ := rfl

/-! ### State.setJobs -/

@[simp] theorem State.setJobs_ports (s : State) (q : JobQueue) : (s.setJobs q).ports = s.ports := rfl
@[simp] theorem State.setJobs_table (s : State) (q : JobQueue) : (s.setJobs q).table = s.table := rfl
@[simp] theorem State.setJobs_statuses (s : State) (q : JobQueue) : (s.setJobs q).statuses = s.statuses := rfl
@[simp] theorem State.setJobs_engine (s : State) (q : JobQueue) : (s.setJobs q).engine = s.engine := rfl
@[simp] theorem State.setJobs_jobs (s : State) (q : JobQueue) : (s.setJobs q).jobs = q := rfl
@[simp] theorem State.setJobs_stack (s : State) (q : JobQueue) : (s.setJobs q).stack = s.stack := rfl
@[simp] theorem State.setJobs_handshake (s : State) (q : JobQueue) : (s.setJobs q).handshake = s.handshake := rfl
@[simp] theorem State.setJobs_sample (s : State) (q : JobQueue) : (s.setJobs q).sample = s.sample := rfl
@[simp] theorem State.setJobs_frame (s : State) (q : JobQueue) : (s.setJobs q).frame = s.frame := rfl
@[simp] theorem State.setJobs_arbiter (s : State) (q : JobQueue) : (s.setJobs q).arbiter = s.arbiter := rfl
@[simp] theorem State.setJobs_store (s : State) (q : JobQueue) : (s.setJobs q).store = s.store := rfl
@[simp] theorem State.setJobs_draws (s : State) (q : JobQueue) : (s.setJobs q).draws = s.draws := rfl
@[simp] theorem State.setJobs_pending (s : State) (q : JobQueue) : (s.setJobs q).pending = s.pending := rfl
@[simp] theorem State.setJobs_port (s : State) (q : JobQueue) (at_ : Port) : (s.setJobs q).port at_ = s.port at_ := rfl

/-! ### State.setEngine -/

@[simp] theorem State.setEngine_ports (s : State) (e : Engine) : (s.setEngine e).ports = s.ports := rfl
@[simp] theorem State.setEngine_table (s : State) (e : Engine) : (s.setEngine e).table = s.table := rfl
@[simp] theorem State.setEngine_statuses (s : State) (e : Engine) : (s.setEngine e).statuses = s.statuses := rfl
@[simp] theorem State.setEngine_engine (s : State) (e : Engine) : (s.setEngine e).engine = e := rfl
@[simp] theorem State.setEngine_jobs (s : State) (e : Engine) : (s.setEngine e).jobs = s.jobs := rfl
@[simp] theorem State.setEngine_stack (s : State) (e : Engine) : (s.setEngine e).stack = s.stack := rfl
@[simp] theorem State.setEngine_handshake (s : State) (e : Engine) : (s.setEngine e).handshake = s.handshake := rfl
@[simp] theorem State.setEngine_sample (s : State) (e : Engine) : (s.setEngine e).sample = s.sample := rfl
@[simp] theorem State.setEngine_frame (s : State) (e : Engine) : (s.setEngine e).frame = s.frame := rfl
@[simp] theorem State.setEngine_arbiter (s : State) (e : Engine) : (s.setEngine e).arbiter = s.arbiter := rfl
@[simp] theorem State.setEngine_store (s : State) (e : Engine) : (s.setEngine e).store = s.store := rfl
@[simp] theorem State.setEngine_draws (s : State) (e : Engine) : (s.setEngine e).draws = s.draws := rfl
@[simp] theorem State.setEngine_pending (s : State) (e : Engine) : (s.setEngine e).pending = s.pending := rfl
@[simp] theorem State.setEngine_port (s : State) (e : Engine) (at_ : Port) : (s.setEngine e).port at_ = s.port at_ := rfl

/-! ### State.setFrame -/

@[simp] theorem State.setFrame_ports (s : State) (f : PositionFrame) : (s.setFrame f).ports = s.ports := rfl
@[simp] theorem State.setFrame_table (s : State) (f : PositionFrame) : (s.setFrame f).table = s.table := rfl
@[simp] theorem State.setFrame_statuses (s : State) (f : PositionFrame) : (s.setFrame f).statuses = s.statuses := rfl
@[simp] theorem State.setFrame_engine (s : State) (f : PositionFrame) : (s.setFrame f).engine = s.engine := rfl
@[simp] theorem State.setFrame_jobs (s : State) (f : PositionFrame) : (s.setFrame f).jobs = s.jobs := rfl
@[simp] theorem State.setFrame_stack (s : State) (f : PositionFrame) : (s.setFrame f).stack = s.stack := rfl
@[simp] theorem State.setFrame_handshake (s : State) (f : PositionFrame) : (s.setFrame f).handshake = s.handshake := rfl
@[simp] theorem State.setFrame_sample (s : State) (f : PositionFrame) : (s.setFrame f).sample = s.sample := rfl
@[simp] theorem State.setFrame_frame (s : State) (f : PositionFrame) : (s.setFrame f).frame = f := rfl
@[simp] theorem State.setFrame_arbiter (s : State) (f : PositionFrame) : (s.setFrame f).arbiter = s.arbiter := rfl
@[simp] theorem State.setFrame_store (s : State) (f : PositionFrame) : (s.setFrame f).store = s.store := rfl
@[simp] theorem State.setFrame_draws (s : State) (f : PositionFrame) : (s.setFrame f).draws = s.draws := rfl
@[simp] theorem State.setFrame_pending (s : State) (f : PositionFrame) : (s.setFrame f).pending = s.pending := rfl
@[simp] theorem State.setFrame_port (s : State) (f : PositionFrame) (at_ : Port) : (s.setFrame f).port at_ = s.port at_ := rfl

/-! ### State.setSample -/

@[simp] theorem State.setSample_ports (s : State) (sp : SamplePath) : (s.setSample sp).ports = s.ports := rfl
@[simp] theorem State.setSample_table (s : State) (sp : SamplePath) : (s.setSample sp).table = s.table := rfl
@[simp] theorem State.setSample_statuses (s : State) (sp : SamplePath) : (s.setSample sp).statuses = s.statuses := rfl
@[simp] theorem State.setSample_engine (s : State) (sp : SamplePath) : (s.setSample sp).engine = s.engine := rfl
@[simp] theorem State.setSample_jobs (s : State) (sp : SamplePath) : (s.setSample sp).jobs = s.jobs := rfl
@[simp] theorem State.setSample_stack (s : State) (sp : SamplePath) : (s.setSample sp).stack = s.stack := rfl
@[simp] theorem State.setSample_handshake (s : State) (sp : SamplePath) : (s.setSample sp).handshake = s.handshake := rfl
@[simp] theorem State.setSample_sample (s : State) (sp : SamplePath) : (s.setSample sp).sample = sp := rfl
@[simp] theorem State.setSample_frame (s : State) (sp : SamplePath) : (s.setSample sp).frame = s.frame := rfl
@[simp] theorem State.setSample_arbiter (s : State) (sp : SamplePath) : (s.setSample sp).arbiter = s.arbiter := rfl
@[simp] theorem State.setSample_store (s : State) (sp : SamplePath) : (s.setSample sp).store = s.store := rfl
@[simp] theorem State.setSample_draws (s : State) (sp : SamplePath) : (s.setSample sp).draws = s.draws := rfl
@[simp] theorem State.setSample_pending (s : State) (sp : SamplePath) : (s.setSample sp).pending = s.pending := rfl
@[simp] theorem State.setSample_port (s : State) (sp : SamplePath) (at_ : Port) : (s.setSample sp).port at_ = s.port at_ := rfl

/-! ### State.setStore -/

@[simp] theorem State.setStore_ports (s : State) (st : ProfileStore) : (s.setStore st).ports = s.ports := rfl
@[simp] theorem State.setStore_table (s : State) (st : ProfileStore) : (s.setStore st).table = s.table := rfl
@[simp] theorem State.setStore_statuses (s : State) (st : ProfileStore) : (s.setStore st).statuses = s.statuses := rfl
@[simp] theorem State.setStore_engine (s : State) (st : ProfileStore) : (s.setStore st).engine = s.engine := rfl
@[simp] theorem State.setStore_jobs (s : State) (st : ProfileStore) : (s.setStore st).jobs = s.jobs := rfl
@[simp] theorem State.setStore_stack (s : State) (st : ProfileStore) : (s.setStore st).stack = s.stack := rfl
@[simp] theorem State.setStore_handshake (s : State) (st : ProfileStore) : (s.setStore st).handshake = s.handshake := rfl
@[simp] theorem State.setStore_sample (s : State) (st : ProfileStore) : (s.setStore st).sample = s.sample := rfl
@[simp] theorem State.setStore_frame (s : State) (st : ProfileStore) : (s.setStore st).frame = s.frame := rfl
@[simp] theorem State.setStore_arbiter (s : State) (st : ProfileStore) : (s.setStore st).arbiter = s.arbiter := rfl
@[simp] theorem State.setStore_store (s : State) (st : ProfileStore) : (s.setStore st).store = st := rfl
@[simp] theorem State.setStore_draws (s : State) (st : ProfileStore) : (s.setStore st).draws = s.draws := rfl
@[simp] theorem State.setStore_pending (s : State) (st : ProfileStore) : (s.setStore st).pending = s.pending := rfl
@[simp] theorem State.setStore_port (s : State) (st : ProfileStore) (at_ : Port) : (s.setStore st).port at_ = s.port at_ := rfl

/-! ### setEngineState -/

@[simp] theorem setEngineState_ports (s : State) (e : EngineState) : (setEngineState e s).ports = s.ports := rfl
@[simp] theorem setEngineState_table (s : State) (e : EngineState) : (setEngineState e s).table = s.table := rfl
@[simp] theorem setEngineState_statuses (s : State) (e : EngineState) : (setEngineState e s).statuses = s.statuses := rfl
@[simp] theorem setEngineState_engine (s : State) (e : EngineState) : (setEngineState e s).engine = { s.engine with state := e } := rfl
@[simp] theorem setEngineState_jobs (s : State) (e : EngineState) : (setEngineState e s).jobs = s.jobs := rfl
@[simp] theorem setEngineState_stack (s : State) (e : EngineState) : (setEngineState e s).stack = s.stack := rfl
@[simp] theorem setEngineState_handshake (s : State) (e : EngineState) : (setEngineState e s).handshake = s.handshake := rfl
@[simp] theorem setEngineState_sample (s : State) (e : EngineState) : (setEngineState e s).sample = s.sample := rfl
@[simp] theorem setEngineState_frame (s : State) (e : EngineState) : (setEngineState e s).frame = s.frame := rfl
@[simp] theorem setEngineState_arbiter (s : State) (e : EngineState) : (setEngineState e s).arbiter = s.arbiter := rfl
@[simp] theorem setEngineState_store (s : State) (e : EngineState) : (setEngineState e s).store = s.store := rfl
@[simp] theorem setEngineState_draws (s : State) (e : EngineState) : (setEngineState e s).draws = s.draws := rfl
@[simp] theorem setEngineState_pending (s : State) (e : EngineState) : (setEngineState e s).pending = s.pending := rfl
@[simp] theorem setEngineState_port (s : State) (e : EngineState) (at_ : Port) : (setEngineState e s).port at_ = s.port at_ := rfl

/-! ### setActive -/

@[simp] theorem setActive_ports (s : State) (r : Option SearchRecord) : (setActive r s).ports = s.ports := rfl
@[simp] theorem setActive_table (s : State) (r : Option SearchRecord) : (setActive r s).table = s.table := rfl
@[simp] theorem setActive_statuses (s : State) (r : Option SearchRecord) : (setActive r s).statuses = s.statuses := rfl
@[simp] theorem setActive_engine (s : State) (r : Option SearchRecord) : (setActive r s).engine = { s.engine with active := r } := rfl
@[simp] theorem setActive_jobs (s : State) (r : Option SearchRecord) : (setActive r s).jobs = s.jobs := rfl
@[simp] theorem setActive_stack (s : State) (r : Option SearchRecord) : (setActive r s).stack = s.stack := rfl
@[simp] theorem setActive_handshake (s : State) (r : Option SearchRecord) : (setActive r s).handshake = s.handshake := rfl
@[simp] theorem setActive_sample (s : State) (r : Option SearchRecord) : (setActive r s).sample = s.sample := rfl
@[simp] theorem setActive_frame (s : State) (r : Option SearchRecord) : (setActive r s).frame = s.frame := rfl
@[simp] theorem setActive_arbiter (s : State) (r : Option SearchRecord) : (setActive r s).arbiter = s.arbiter := rfl
@[simp] theorem setActive_store (s : State) (r : Option SearchRecord) : (setActive r s).store = s.store := rfl
@[simp] theorem setActive_draws (s : State) (r : Option SearchRecord) : (setActive r s).draws = s.draws := rfl
@[simp] theorem setActive_pending (s : State) (r : Option SearchRecord) : (setActive r s).pending = s.pending := rfl
@[simp] theorem setActive_port (s : State) (r : Option SearchRecord) (at_ : Port) : (setActive r s).port at_ = s.port at_ := rfl

/-! ### flushFifo -/

@[simp] theorem flushFifo_ports (s : State) : (flushFifo s).ports = s.ports := rfl
@[simp] theorem flushFifo_table (s : State) : (flushFifo s).table = s.table := rfl
@[simp] theorem flushFifo_statuses (s : State) : (flushFifo s).statuses = s.statuses := rfl
@[simp] theorem flushFifo_engine (s : State) : (flushFifo s).engine = s.engine := rfl
@[simp] theorem flushFifo_jobs (s : State) : (flushFifo s).jobs = s.jobs := rfl
@[simp] theorem flushFifo_stack (s : State) : (flushFifo s).stack = s.stack := rfl
@[simp] theorem flushFifo_handshake (s : State) : (flushFifo s).handshake = s.handshake := rfl
@[simp] theorem flushFifo_sample (s : State) : (flushFifo s).sample = { s.sample with fifo := [] } := rfl
@[simp] theorem flushFifo_frame (s : State) : (flushFifo s).frame = s.frame := rfl
@[simp] theorem flushFifo_arbiter (s : State) : (flushFifo s).arbiter = s.arbiter := rfl
@[simp] theorem flushFifo_store (s : State) : (flushFifo s).store = s.store := rfl
@[simp] theorem flushFifo_draws (s : State) : (flushFifo s).draws = s.draws := rfl
@[simp] theorem flushFifo_pending (s : State) : (flushFifo s).pending = s.pending := rfl
@[simp] theorem flushFifo_port (s : State) (q : Port) : (flushFifo s).port q = s.port q := rfl

/-! ### State.push -/

@[simp] theorem State.push_ports (s : State) (i : Instr) : (s.push i).ports = s.ports := rfl
@[simp] theorem State.push_table (s : State) (i : Instr) : (s.push i).table = s.table := rfl
@[simp] theorem State.push_statuses (s : State) (i : Instr) : (s.push i).statuses = s.statuses := rfl
@[simp] theorem State.push_engine (s : State) (i : Instr) : (s.push i).engine = s.engine := rfl
@[simp] theorem State.push_jobs (s : State) (i : Instr) : (s.push i).jobs = s.jobs := rfl
@[simp] theorem State.push_stack (s : State) (i : Instr) : (s.push i).stack = s.stack := rfl
@[simp] theorem State.push_handshake (s : State) (i : Instr) : (s.push i).handshake = s.handshake := rfl
@[simp] theorem State.push_sample (s : State) (i : Instr) : (s.push i).sample = s.sample := rfl
@[simp] theorem State.push_frame (s : State) (i : Instr) : (s.push i).frame = s.frame := rfl
@[simp] theorem State.push_arbiter (s : State) (i : Instr) : (s.push i).arbiter = s.arbiter := rfl
@[simp] theorem State.push_store (s : State) (i : Instr) : (s.push i).store = s.store := rfl
@[simp] theorem State.push_draws (s : State) (i : Instr) : (s.push i).draws = s.draws := rfl
@[simp] theorem State.push_pending (s : State) (i : Instr) : (s.push i).pending = i :: s.pending := rfl
@[simp] theorem State.push_port (s : State) (i : Instr) (at_ : Port) : (s.push i).port at_ = s.port at_ := rfl

end Sys2Proof.Machine
end

