-- ==== Sys2Proof/Laws/Assembly.lean ====
section
/-! SUPPORT. What the assembly of a block-read response does, said once: visits go up by one index each, place the deliverable ones in
rising order with the records of this moment, and stop short of the last (R165, R170). -/

namespace Sys2Proof.Machine

@[simp] theorem Assembly.visit_window (s : State) (a : Assembly) : (a.visit s).window = a.window := rfl

@[simp] theorem Assembly.visit_last (s : State) (a : Assembly) : (a.visit s).last = a.last := rfl

@[simp] theorem Assembly.visit_next (s : State) (a : Assembly) : (a.visit s).next = a.next + 1 := rfl

/-- The records of the deliverable indices from one index on, so many indices long. -/
def State.recordsFrom (s : State) (w : Window) (start len : Nat) : List (Nat × List Byte) :=
  ((List.range' start len).filter (s.store.profile.deliverable w)).map fun i => (i, s.recordAt i)

theorem State.recordsFrom_succ (s : State) (w : Window) (start len : Nat) :
    s.recordsFrom w start (len + 1)
      = (if s.store.profile.deliverable w start = true then [(start, s.recordAt start)] else [])
        ++ s.recordsFrom w (start + 1) len := by
  simp only [State.recordsFrom, List.range'_succ, List.filter_cons]
  split <;> simp

theorem Assembly.visit_placed (s : State) (a : Assembly) :
    (a.visit s).placed
      = a.placed ++ if s.store.profile.deliverable a.window a.next = true then [(a.next, s.recordAt a.next)] else [] := by
  simp only [Assembly.visit]
  split <;> simp

/-- So many visits: the window and the end index stay, the records of the indices passed are placed, and the end index is not
reached. -/
theorem Assembly.visits_spec (s : State) (n : Nat) (a : Assembly) :
    (Assembly.visits s n a).window = a.window ∧ (Assembly.visits s n a).last = a.last
      ∧ ∃ k, k ≤ n ∧ (Assembly.visits s n a).next = a.next + k
        ∧ (Assembly.visits s n a).placed = a.placed ++ s.recordsFrom a.window a.next k
        ∧ (k = 0 ∨ a.next + k ≤ a.last) := by
  induction n generalizing a with
  | zero => exact ⟨rfl, rfl, 0, Nat.le_refl 0, rfl, by simp [Assembly.visits, State.recordsFrom], .inl rfl⟩
  | succ n ih =>
    unfold Assembly.visits
    split
    · exact ⟨rfl, rfl, 0, Nat.zero_le _, rfl, by simp [State.recordsFrom], .inl rfl⟩
    · rename_i h
      obtain ⟨hw, hl, k, hk, hn, hp, hb⟩ := ih (a.visit s)
      have hlt : a.next < a.last := by
        simp only [Assembly.atLast, Bool.or_eq_true, decide_eq_true_eq, not_or] at h
        omega
      refine ⟨hw, hl, k + 1, by omega, by rw [hn]; simp; omega, ?_, .inr ?_⟩
      · rw [hp, Assembly.visit_placed, State.recordsFrom_succ]
        simp
      · rcases hb with rfl | hb
        · omega
        · simp at hb
          omega

/-- Nothing but the arbiter's holder changes while an assembly goes on. -/
theorem proceed_setArbiter (n : Nat) (s : State) : ∃ h, proceed n s = s.setArbiter { s.arbiter with holder := h } := by
  unfold proceed
  split
  · exact ⟨_, rfl⟩
  · exact ⟨s.arbiter.holder, rfl⟩

/-- Nothing but the arbiter's holder and the count of free values changes in one microsecond of an assembly. -/
theorem assemble_setArbiter (s : State) : ∃ h n, assemble s = { s.setArbiter { s.arbiter with holder := h } with draws := n } := by
  unfold assemble
  split
  · obtain ⟨h, e⟩ := proceed_setArbiter (Config.indicesVisited s.draws % 193) s
    exact ⟨h, _, by rw [e]⟩
  · exact ⟨s.arbiter.holder, s.draws, rfl⟩

end Sys2Proof.Machine
end

