-- ==== Sys2Proof/Laws/Kept.lean ====
section
/-! SUPPORT. What the operations on jobs, handshakes, notices and the grant leave alone, said once: the profile store, the record
storage, the queue of commands, the standing of the ports, the Sample Path but for its FIFO and the Position Frame but for home
capture and the settle test. Later proofs cite these lemmas and do not unfold the operations. -/

namespace Sys2Proof.Machine

/-- What a port keeps while jobs come and go: attachment, dropped count, window, and the settings of its Notice Unit. -/
def LinkPort.standing (l : LinkPort) :
    Bool × Nat × Window × PerSource Bool × PerSource Bool × LineMode × Bool × Nat :=
  (l.attached, l.dropped, l.window, l.notices.mask, l.notices.inService, l.notices.mode, l.notices.tracking,
   l.notices.baseCode)

/-- What the state keeps while jobs come and go. -/
def State.kept (s : State) :
    ProfileStore × HeadMap × List Instr × PerPort (Bool × Nat × Window × PerSource Bool × PerSource Bool × LineMode × Bool × Nat)
      × SamplePath × PositionFrame :=
  (s.store, s.table, s.pending, ⟨s.ports.w.standing, s.ports.p.standing, s.ports.d.standing⟩, { s.sample with fifo := [] },
   { s.frame with home := .idle, settle := .none, settleTimer := .stopped })

theorem State.kept_setPort {s : State} {p : Port} {x : LinkPort} (h : x.standing = (s.port p).standing) :
    (s.setPort p x).kept = s.kept := by
  cases p <;> simp_all [State.kept, State.setPort, PerPort.set, State.port, PerPort.get]

/-! ### Notices -/

@[simp] theorem pulseCause_kept (p : Port) (s : State) : (pulseCause p s).kept = s.kept := by
  unfold pulseCause
  dsimp only
  split
  · exact State.kept_setPort rfl
  · rfl

@[simp] theorem pulseOnset_kept (b : State) (p : Port) (s : State) : (pulseOnset b p s).kept = s.kept := by
  unfold pulseOnset
  split <;> simp

@[simp] theorem pulseIfEligible_kept (p : Port) (s : State) : (pulseIfEligible p s).kept = s.kept := by
  unfold pulseIfEligible
  split <;> simp

theorem reforming_kept {f : State → State} {s : State} (h : (f s).kept = s.kept) : (reforming f s).kept = s.kept := by
  simp [reforming, h]

@[simp] theorem raiseMerge_kept (p : Port) (src : Source) (s : State) : (raiseMerge p src s).kept = s.kept := by
  unfold raiseMerge
  dsimp only
  split
  · exact State.kept_setPort rfl
  · rfl

@[simp] theorem storeDetail_kept (p : Port) (src : Source) (d : Detail) (s : State) :
    (storeDetail p src d s).kept = s.kept := by
  unfold storeDetail
  dsimp only
  split
  · exact State.kept_setPort rfl
  · rfl

@[simp] theorem postQuiet_kept (src : Source) (d : Detail) (p : Port) (s : State) : (postQuiet src d p s).kept = s.kept := by
  simp [postQuiet]

@[simp] theorem post_kept (src : Source) (d : Detail) (p : Port) (s : State) : (post src d p s).kept = s.kept :=
  reforming_kept (by simp)

@[simp] theorem postFault_kept (d : Detail) (s : State) : (postFault d s).kept = s.kept := by simp [postFault]

@[simp] theorem postWD_kept (src : Source) (d : Detail) (s : State) : (postWD src d s).kept = s.kept := by simp [postWD]

@[simp] theorem setMove_kept (m : Option MoveRequest) (s : State) : (setMove m s).kept = s.kept := by
  apply reforming_kept
  dsimp only
  split
  · simp only [raiseMerge_kept]
    rfl
  · rfl

@[simp] theorem setHead_kept (r : Option HeadRequest) (s : State) : (setHead r s).kept = s.kept := by
  apply reforming_kept
  dsimp only
  split
  · simp only [raiseMerge_kept]
    rfl
  · rfl

@[simp] theorem writeCompletion_kept (p : Port) (r : CompletionRecord) (s : State) : (writeCompletion p r s).kept = s.kept := by
  have hc : ∀ l, (s.setCompletions p l).kept = s.kept := fun l => State.kept_setPort rfl
  unfold writeCompletion
  split
  · apply reforming_kept
    dsimp only
    split <;> simp [hc]
  · exact State.kept_setPort rfl

/-! ### Small updates -/

@[simp] theorem flushFifo_kept (s : State) : (flushFifo s).kept = s.kept := rfl

@[simp] theorem setEngine_kept (s : State) (e : Engine) : (s.setEngine e).kept = s.kept := rfl

@[simp] theorem setEngineState_kept (e : EngineState) (s : State) : (setEngineState e s).kept = s.kept := rfl

@[simp] theorem setActive_kept (r : Option SearchRecord) (s : State) : (setActive r s).kept = s.kept := rfl

@[simp] theorem setJobs_kept (s : State) (q : JobQueue) : (s.setJobs q).kept = s.kept := rfl

@[simp] theorem setArbiter_kept (s : State) (a : Arbiter) : (s.setArbiter a).kept = s.kept := rfl

@[simp] theorem setHandshake_kept (s : State) (h : HandshakeUnit) : (s.setHandshake h).kept = s.kept := rfl

@[simp] theorem stack_kept (s : State) (l : List SearchRecord) : ({ s with stack := l } : State).kept = s.kept := rfl

@[simp] theorem draws_kept (s : State) (n : Nat) : ({ s with draws := n } : State).kept = s.kept := rfl

@[simp] theorem clearSettle_kept (s : State) : (clearSettle s).kept = s.kept := rfl

@[simp] theorem dropHome_kept (s : State) : (dropHome s).kept = s.kept := rfl

@[simp] theorem setStatus_kept (w : JobWork) (st : EntryStatus) (s : State) : (setStatus w st s).kept = s.kept := by
  unfold setStatus
  split <;> rfl

@[simp] theorem setSlot_kept (s : State) (p : Port) (x : Slot) : (s.setSlot p x).kept = s.kept := State.kept_setPort rfl

@[simp] theorem setCursor_kept (s : State) (p : Port) (c : Option Cursor) : (s.setCursor p c).kept = s.kept :=
  State.kept_setPort rfl

@[simp] theorem answer_kept (p : Port) (tag : Byte) (a : Answer) (s : State) : (answer p tag a s).kept = s.kept := by
  simp [answer]

@[simp] theorem refuse_kept (p : Port) (tag : Byte) (st : Status) (s : State) : (refuse p tag st s).kept = s.kept := by
  simp [refuse]

@[simp] theorem reply_kept (p : Port) (tag : Byte) (l : List Byte) (s : State) : (reply p tag l s).kept = s.kept := by
  simp [reply]

@[simp] theorem answerPending_kept (p : Port) (a : Answer) (s : State) : (answerPending p a s).kept = s.kept := by
  unfold answerPending
  split <;> simp

/-! ### The grant -/

@[simp] theorem grant_kept (c : Client) (op : TableOp) (s : State) : (grant c op s).kept = s.kept := rfl

@[simp] theorem release_kept (s : State) : (release s).kept = s.kept := by
  unfold release
  split
  · split <;> rfl
  · rfl

@[simp] theorem finishBlockRead_kept (p : Port) (a : Assembly) (cut : Bool) (s : State) :
    (finishBlockRead p a cut s).kept = s.kept := by
  simp [finishBlockRead]

@[simp] theorem expireHold_kept (s : State) : (expireHold s).kept = s.kept := by
  unfold expireHold
  repeat' split
  all_goals simp

@[simp] theorem completeAssembly_kept (s : State) : (completeAssembly s).kept = s.kept := by
  unfold completeAssembly
  split <;> simp

@[simp] theorem proceed_kept (n : Nat) (s : State) : (proceed n s).kept = s.kept := by
  unfold proceed
  split <;> rfl

@[simp] theorem assemble_kept (s : State) : (assemble s).kept = s.kept := by
  unfold assemble
  split
  · exact proceed_kept _ s
  · rfl

@[simp] theorem startHold_kept (s : State) : (startHold s).kept = s.kept := by
  unfold startHold
  split <;> simp

@[simp] theorem askGrant_kept (c : Client) (op : TableOp) (s : State) : (askGrant c op s).kept = s.kept := by
  unfold askGrant
  split
  · rfl
  · dsimp only
    split <;> simp

@[simp] theorem withdrawAsk_kept (c : Client) (s : State) : (withdrawAsk c s).kept = s.kept := rfl

@[simp] theorem withdrawLookUp_kept (s : State) : (withdrawLookUp s).kept = s.kept := by
  unfold withdrawLookUp
  split <;> simp

/-! ### Handshakes -/

@[simp] theorem endMove_kept (e : MoveEnd) (s : State) : (endMove e s).kept = s.kept := by
  unfold endMove
  split <;> simp

@[simp] theorem withdrawMove_kept (c : Cause) (s : State) : (withdrawMove c s).kept = s.kept := by
  unfold withdrawMove
  split <;> simp [postMoveWithdrawn]

@[simp] theorem timeOutMove_kept (s : State) : (timeOutMove s).kept = s.kept := by
  unfold timeOutMove
  split <;> simp [postMoveWithdrawn]

@[simp] theorem placeMove_kept (s : State) : (placeMove s).kept = s.kept := by
  unfold placeMove
  split <;> simp [releaseMove]

@[simp] theorem setMovePhase_kept (ph : MovePhase) (s : State) : (setMovePhase ph s).kept = s.kept := by
  unfold setMovePhase
  split <;> simp

@[simp] theorem endHead_kept (e : HeadEnd) (s : State) : (endHead e s).kept = s.kept := by
  unfold endHead
  split <;> simp

@[simp] theorem withdrawHead_kept (c : Cause) (s : State) : (withdrawHead c s).kept = s.kept := by
  unfold withdrawHead
  split <;> simp [postHeadWithdrawn]

@[simp] theorem timeOutHead_kept (s : State) : (timeOutHead s).kept = s.kept := by
  unfold timeOutHead
  split <;> simp [postHeadWithdrawn]

@[simp] theorem placeHeadFor_kept (h j : Nat) (s : State) : (placeHeadFor h j s).kept = s.kept := by simp [placeHeadFor]

@[simp] theorem placeHead_kept (s : State) : (placeHead s).kept = s.kept := by
  unfold placeHead
  split
  · rfl
  · split <;> simp

@[simp] theorem setHeadPhase_kept (ph : HeadPhase) (s : State) : (setHeadPhase ph s).kept = s.kept := by
  unfold setHeadPhase
  split <;> simp

@[simp] theorem selectHead_kept (h : Nat) (s : State) : (selectHead h s).kept = s.kept := by
  unfold selectHead
  split <;> simp

@[simp] theorem releaseBoth_kept (s : State) : (releaseBoth s).kept = s.kept := by
  simp [releaseBoth, releaseHead, releaseMove]

@[simp] theorem withdrawBoth_kept (c : Cause) (s : State) : (withdrawBoth c s).kept = s.kept := by simp [withdrawBoth]

/-! ### The queue -/

@[simp] theorem acceptWith_kept (f : JobRecord → List JobRecord → List JobRecord) (w : JobWork) (c : JobClass) (b : Submitter)
    (g l : Option Nat) (s : State) : (acceptWith f w c b g l s).kept = s.kept := by simp [acceptWith]

@[simp] theorem accept_kept (w : JobWork) (c : JobClass) (b : Submitter) (g l : Option Nat) (s : State) :
    (accept w c b g l s).kept = s.kept := by simp [accept]

@[simp] theorem acceptAll_kept (c : JobClass) (g : Nat) (l : List (Nat × Nat)) (s : State) :
    (acceptAll c g l s).kept = s.kept := by
  induction l generalizing s with
  | nil => rfl
  | cons x rest ih => simp [acceptAll, ih]

@[simp] theorem armSpace_kept (p : Port) (s : State) : (armSpace p s).kept = s.kept := by
  cases p <;> rfl

@[simp] theorem postSpace_kept (s : State) : (postSpace s).kept = s.kept := by
  unfold postSpace
  dsimp only
  split <;> split <;> simp

@[simp] theorem memberGone_kept (g : Option Nat) (s : State) : (memberGone g s).kept = s.kept := by
  unfold memberGone
  split <;> simp

@[simp] theorem countDrift_kept (w : JobWork) (s : State) : (countDrift w s).kept = s.kept := by
  unfold countDrift
  split
  · split <;> simp
  · rfl
  · rfl

@[simp] theorem insertCheck_kept (s : State) : (insertCheck s).kept = s.kept := by
  unfold insertCheck
  split
  · rfl
  · split <;> simp

@[simp] theorem clearDrift_kept (s : State) : (clearDrift s).kept = s.kept := rfl

@[simp] theorem accountEnd_kept (j : JobRecord) (s : State) : (accountEnd j s).kept = s.kept := by simp [accountEnd]

@[simp] theorem writeRecord_kept (j : JobRecord) (c : CompletionRecord) (s : State) : (writeRecord j c s).kept = s.kept := by
  simp [writeRecord]

@[simp] theorem dropQueued_kept (j : JobRecord) (s : State) : (dropQueued j s).kept = s.kept := by simp [dropQueued]

@[simp] theorem dropStacked_kept (r : SearchRecord) (s : State) : (dropStacked r s).kept = s.kept := by simp [dropStacked]

@[simp] theorem cancelQueued_kept (j : JobRecord) (s : State) : (cancelQueued j s).kept = s.kept := by simp [cancelQueued]

@[simp] theorem cancelStacked_kept (r : SearchRecord) (s : State) : (cancelStacked r s).kept = s.kept := by
  simp [cancelStacked]

theorem forQueued_kept {f : JobRecord → State → State} (h : ∀ j s, (f j s).kept = s.kept) (l : List JobRecord) (s : State) :
    (forQueued f l s).kept = s.kept := by
  induction l generalizing s with
  | nil => rfl
  | cons j rest ih => simp [forQueued, ih, h]

theorem forStacked_kept {f : SearchRecord → State → State} (h : ∀ r s, (f r s).kept = s.kept) (l : List SearchRecord)
    (s : State) : (forStacked f l s).kept = s.kept := by
  induction l generalizing s with
  | nil => rfl
  | cons r rest ih => simp [forStacked, ih, h]

/-! ### The engine -/

@[simp] theorem beginWork_kept (r : SearchRecord) (s : State) : (beginWork r s).kept = s.kept := by
  unfold beginWork
  dsimp only
  split
  · simp
  · split <;> simp
  · split <;> simp

@[simp] theorem takeHead_kept (s : State) : (takeHead s).kept = s.kept := by
  unfold takeHead
  split <;> simp

@[simp] theorem dropDwell_kept (s : State) : (dropDwell s).kept = s.kept := by
  unfold dropDwell
  dsimp only
  split <;> simp

@[simp] theorem preempt_kept (s : State) : (preempt s).kept = s.kept := by
  unfold preempt
  split <;> simp

@[simp] theorem tryPreempt_kept (s : State) : (tryPreempt s).kept = s.kept := by
  unfold tryPreempt
  split <;> simp

@[simp] theorem resumeTop_kept (s : State) : (resumeTop s).kept = s.kept := by
  unfold resumeTop
  split <;> simp

@[simp] theorem enterPublish_kept (s : State) : (enterPublish s).kept = s.kept := by simp [enterPublish]

@[simp] theorem advance_kept (s : State) : (advance s).kept = s.kept := by
  unfold advance
  split
  · split
    · simp
    · split
      · split <;> simp
      · split
        · split <;> simp
        · rfl
  · simp

@[simp] theorem clearActive_kept (r : SearchRecord) (s : State) : (clearActive r s).kept = s.kept := by simp [clearActive]

@[simp] theorem afterJob_kept (f c : Bool) (s : State) : (afterJob f c s).kept = s.kept := by
  unfold afterJob
  split
  · simp
  · split <;> simp

@[simp] theorem leaveWork_kept (s : State) : (leaveWork s).kept = s.kept := by simp [leaveWork]

@[simp] theorem closeJob_kept (o : JobOutcome) (s : State) : (closeJob o s).kept = s.kept := by
  unfold closeJob
  split
  · rfl
  · dsimp only
    split <;> simp

@[simp] theorem endJob_kept (o : JobOutcome) (s : State) : (endJob o s).kept = s.kept := by
  unfold endJob
  split <;> simp

@[simp] theorem endArrived_kept (r : SearchRecord) (s : State) : (endArrived r s).kept = s.kept := by simp [endArrived]

@[simp] theorem stageJob_kept (o : JobOutcome) (part : StagedPart) (s : State) : (stageJob o part s).kept = s.kept := by
  simp [stageJob]

@[simp] theorem takeFault_kept (o : JobOutcome) (s : State) : (takeFault o s).kept = s.kept := by
  unfold takeFault
  split <;> simp

/-! ### Reading the bundle -/

theorem State.store_of_kept {s t : State} (h : t.kept = s.kept) : t.store = s.store := congrArg (·.1) h

theorem State.table_of_kept {s t : State} (h : t.kept = s.kept) : t.table = s.table := congrArg (·.2.1) h

theorem State.pending_of_kept {s t : State} (h : t.kept = s.kept) : t.pending = s.pending := congrArg (·.2.2.1) h

theorem State.standing_of_kept {s t : State} (h : t.kept = s.kept) (p : Port) :
    (t.port p).standing = (s.port p).standing := by
  have h' := congrArg (·.2.2.2.1) h
  cases p
  · exact congrArg (·.w) h'
  · exact congrArg (·.p) h'
  · exact congrArg (·.d) h'

theorem State.attached_of_kept {s t : State} (h : t.kept = s.kept) (p : Port) : (t.port p).attached = (s.port p).attached :=
  congrArg (·.1) (State.standing_of_kept h p)

theorem State.dropped_of_kept {s t : State} (h : t.kept = s.kept) (p : Port) : (t.port p).dropped = (s.port p).dropped :=
  congrArg (·.2.1) (State.standing_of_kept h p)

theorem State.window_of_kept {s t : State} (h : t.kept = s.kept) (p : Port) : (t.port p).window = (s.port p).window :=
  congrArg (·.2.2.1) (State.standing_of_kept h p)

theorem State.count_of_kept {s t : State} (h : t.kept = s.kept) : t.frame.count = s.frame.count :=
  congrArg (·.2.2.2.2.2.count) h

theorem State.revolutions_of_kept {s t : State} (h : t.kept = s.kept) : t.sample.revolutions = s.sample.revolutions :=
  congrArg (·.2.2.2.2.1.revolutions) h

end Sys2Proof.Machine
end

