-- ==== Sys2Proof/Laws/Effects.lean ====
section
/-! SUPPORT. What posts, pulses and changes of a handshake or a completion list do, said once: outside the Notice Units they change the
named part and nothing else; and what the asking for the grant, an expiry of the hold timer and the answers to waiting resets do. Later
proofs read a field after such an operation off these lemmas and do not unfold it. -/

namespace Sys2Proof.Machine

/-- A port without its Notice Unit. -/
def LinkPort.mute (l : LinkPort) : LinkPort := { l with notices := .reset }

/-- The state without the three Notice Units. -/
def State.mute (s : State) : State := { s with ports := ⟨s.ports.w.mute, s.ports.p.mute, s.ports.d.mute⟩ }

theorem State.mute_port (s : State) (p : Port) : s.mute.port p = (s.port p).mute := by cases p <;> rfl

/-! ### Operations on Notice Units alone -/

@[simp] theorem State.setNotices_mute (s : State) (p : Port) (u : NoticeUnit) : (s.setNotices p u).mute = s.mute := by
  cases p <;> rfl

@[simp] theorem pulseCause_mute (p : Port) (s : State) : (pulseCause p s).mute = s.mute := by
  unfold pulseCause
  dsimp only
  split <;> simp

@[simp] theorem pulseOnset_mute (b : State) (p : Port) (s : State) : (pulseOnset b p s).mute = s.mute := by
  unfold pulseOnset
  split <;> simp

@[simp] theorem pulseIfEligible_mute (p : Port) (s : State) : (pulseIfEligible p s).mute = s.mute := by
  unfold pulseIfEligible
  split <;> simp

@[simp] theorem reforming_mute (f : State → State) (s : State) : (reforming f s).mute = (f s).mute := by simp [reforming]

@[simp] theorem raiseMerge_mute (p : Port) (src : Source) (s : State) : (raiseMerge p src s).mute = s.mute := by
  unfold raiseMerge
  dsimp only
  split <;> simp

@[simp] theorem storeDetail_mute (p : Port) (src : Source) (d : Detail) (s : State) : (storeDetail p src d s).mute = s.mute := by
  unfold storeDetail
  dsimp only
  split <;> simp

@[simp] theorem postQuiet_mute (src : Source) (d : Detail) (p : Port) (s : State) : (postQuiet src d p s).mute = s.mute := by
  simp [postQuiet]

@[simp] theorem post_mute (src : Source) (d : Detail) (p : Port) (s : State) : (post src d p s).mute = s.mute := by simp [post]

@[simp] theorem postFault_mute (d : Detail) (s : State) : (postFault d s).mute = s.mute := by simp [postFault]

@[simp] theorem postWD_mute (src : Source) (d : Detail) (s : State) : (postWD src d s).mute = s.mute := by simp [postWD]

@[simp] theorem postSpace_mute (s : State) :
    (postSpace s).mute = { s with jobs := { s.jobs with spaceW := false, spaceP := false } }.mute := by
  unfold postSpace
  dsimp only
  split <;> split <;> simp_all [State.setJobs]

/-! ### Handshakes and completion lists -/

/-- The move handshake's record is replaced, and nothing else outside the Notice Units. -/
@[simp] theorem setMove_mute (m : Option MoveRequest) (s : State) :
    (setMove m s).mute = { s with handshake := { s.handshake with move := m } }.mute := by
  unfold setMove
  rw [reforming_mute]
  dsimp only
  split <;> simp

/-- The head handshake's record is replaced, and nothing else outside the Notice Units. -/
@[simp] theorem setHead_mute (r : Option HeadRequest) (s : State) :
    (setHead r s).mute = { s with handshake := { s.handshake with head := r } }.mute := by
  unfold setHead
  rw [reforming_mute]
  dsimp only
  split <;> simp

/-- A record joins a list that has room, and nothing else changes outside the Notice Units (R181). -/
theorem writeCompletion_mute_room {p : Port} {r : CompletionRecord} {s : State} (h : (s.port p).completions.length < 8) :
    (writeCompletion p r s).mute = (s.setCompletions p ((s.port p).completions ++ [r])).mute := by
  have hc : (s.port p).completions.length < Config.completionSlots := h
  unfold writeCompletion
  rw [if_pos hc, reforming_mute]
  dsimp only
  split <;> simp

/-- A full list keeps its records, and its overflow count rises (R181). -/
theorem writeCompletion_full {p : Port} {r : CompletionRecord} {s : State} (h : 8 ≤ (s.port p).completions.length) :
    writeCompletion p r s = s.setPort p { s.port p with overflow := satSucc 255 (s.port p).overflow } := by
  unfold writeCompletion
  exact if_neg (Nat.not_lt.mpr h)

theorem clearSettle_mute (s : State) : (clearSettle s).mute = clearSettle s.mute := rfl

/-- A move request ends: the record goes, its end is kept, and its timer and settle test stop (R105 to R108). -/
theorem endMove_mute {e : MoveEnd} {m : MoveRequest} {s : State} (h : s.handshake.move = some m) :
    (endMove e s).mute = { s with
      handshake := { s.handshake with move := none, lastMoveEnd := some (e, m.sequence), moveTimeout := .stopped }
      frame := { s.frame with settle := .none, settleTimer := .stopped } }.mute := by
  simp only [endMove, h, clearSettle_mute, setMove_mute]
  rfl

/-- A head request ends: the record goes, its end is kept and its timers stop (R111 to R116). -/
theorem endHead_mute {e : HeadEnd} {r : HeadRequest} {s : State} (h : s.handshake.head = some r) :
    (endHead e s).mute = { s with handshake := { s.handshake with
      head := none, lastHeadEnd := some (e, r.sequence), headTimeout := .stopped, headSettle := .stopped } }.mute := by
  simp only [endHead, h, setHead_mute]
  rfl

/-- A head request is placed with the next sequence and a full head select timeout (R109). -/
theorem placeHeadFor_mute (head job : Nat) (s : State) :
    (placeHeadFor head job s).mute = { s with handshake := { s.handshake with
      head := some ⟨.requested, nextSequence s.handshake.headSequence, head, job⟩
      headSequence := nextSequence s.handshake.headSequence
      headTimeout := startMs s.store.profile.headSelectTimeout, headSettle := .stopped } }.mute := by
  simp only [placeHeadFor, setHead_mute]
  rfl

/-! ### Reading a field off -/

theorem State.table_of_mute {s t : State} (h : t.mute = s.mute) : t.table = s.table := by
  have := congrArg State.table h
  exact this

theorem State.statuses_of_mute {s t : State} (h : t.mute = s.mute) : t.statuses = s.statuses := by
  have := congrArg State.statuses h
  exact this

theorem State.engine_of_mute {s t : State} (h : t.mute = s.mute) : t.engine = s.engine := by
  have := congrArg State.engine h
  exact this

theorem State.jobs_of_mute {s t : State} (h : t.mute = s.mute) : t.jobs = s.jobs := by
  have := congrArg State.jobs h
  exact this

theorem State.stack_of_mute {s t : State} (h : t.mute = s.mute) : t.stack = s.stack := by
  have := congrArg State.stack h
  exact this

theorem State.handshake_of_mute {s t : State} (h : t.mute = s.mute) : t.handshake = s.handshake := by
  have := congrArg State.handshake h
  exact this

theorem State.sample_of_mute {s t : State} (h : t.mute = s.mute) : t.sample = s.sample := by
  have := congrArg State.sample h
  exact this

theorem State.frame_of_mute {s t : State} (h : t.mute = s.mute) : t.frame = s.frame := by
  have := congrArg State.frame h
  exact this

theorem State.arbiter_of_mute {s t : State} (h : t.mute = s.mute) : t.arbiter = s.arbiter := by
  have := congrArg State.arbiter h
  exact this

theorem State.store_of_mute {s t : State} (h : t.mute = s.mute) : t.store = s.store := by
  have := congrArg State.store h
  exact this

theorem State.draws_of_mute {s t : State} (h : t.mute = s.mute) : t.draws = s.draws := by
  have := congrArg State.draws h
  exact this

theorem State.pending_of_mute {s t : State} (h : t.mute = s.mute) : t.pending = s.pending := by
  have := congrArg State.pending h
  exact this

theorem State.attached_of_mute {s t : State} (h : t.mute = s.mute) (p : Port) : (t.port p).attached = (s.port p).attached := by
  have := congrArg (fun x => (x.port p).attached) h
  simpa [State.mute_port, LinkPort.mute] using this

theorem State.slot_of_mute {s t : State} (h : t.mute = s.mute) (p : Port) : (t.port p).slot = (s.port p).slot := by
  have := congrArg (fun x => (x.port p).slot) h
  simpa [State.mute_port, LinkPort.mute] using this

theorem State.dropped_of_mute {s t : State} (h : t.mute = s.mute) (p : Port) : (t.port p).dropped = (s.port p).dropped := by
  have := congrArg (fun x => (x.port p).dropped) h
  simpa [State.mute_port, LinkPort.mute] using this

theorem State.window_of_mute {s t : State} (h : t.mute = s.mute) (p : Port) : (t.port p).window = (s.port p).window := by
  have := congrArg (fun x => (x.port p).window) h
  simpa [State.mute_port, LinkPort.mute] using this

theorem State.cursor_of_mute {s t : State} (h : t.mute = s.mute) (p : Port) : (t.port p).cursor = (s.port p).cursor := by
  have := congrArg (fun x => (x.port p).cursor) h
  simpa [State.mute_port, LinkPort.mute] using this

theorem State.completions_of_mute {s t : State} (h : t.mute = s.mute) (p : Port) : (t.port p).completions = (s.port p).completions := by
  have := congrArg (fun x => (x.port p).completions) h
  simpa [State.mute_port, LinkPort.mute] using this

theorem State.overflow_of_mute {s t : State} (h : t.mute = s.mute) (p : Port) : (t.port p).overflow = (s.port p).overflow := by
  have := congrArg (fun x => (x.port p).overflow) h
  simpa [State.mute_port, LinkPort.mute] using this

@[simp] theorem pulseCause_table (p : Port) (s : State) : (pulseCause p s).table = s.table := State.table_of_mute (by simp)

@[simp] theorem pulseCause_statuses (p : Port) (s : State) : (pulseCause p s).statuses = s.statuses := State.statuses_of_mute (by simp)

@[simp] theorem pulseCause_engine (p : Port) (s : State) : (pulseCause p s).engine = s.engine := State.engine_of_mute (by simp)

@[simp] theorem pulseCause_jobs (p : Port) (s : State) : (pulseCause p s).jobs = s.jobs := State.jobs_of_mute (by simp)

@[simp] theorem pulseCause_stack (p : Port) (s : State) : (pulseCause p s).stack = s.stack := State.stack_of_mute (by simp)

@[simp] theorem pulseCause_handshake (p : Port) (s : State) : (pulseCause p s).handshake = s.handshake := State.handshake_of_mute (by simp)

@[simp] theorem pulseCause_sample (p : Port) (s : State) : (pulseCause p s).sample = s.sample := State.sample_of_mute (by simp)

@[simp] theorem pulseCause_frame (p : Port) (s : State) : (pulseCause p s).frame = s.frame := State.frame_of_mute (by simp)

@[simp] theorem pulseCause_arbiter (p : Port) (s : State) : (pulseCause p s).arbiter = s.arbiter := State.arbiter_of_mute (by simp)

@[simp] theorem pulseCause_store (p : Port) (s : State) : (pulseCause p s).store = s.store := State.store_of_mute (by simp)

@[simp] theorem pulseCause_pending (p : Port) (s : State) : (pulseCause p s).pending = s.pending := State.pending_of_mute (by simp)

@[simp] theorem pulseIfEligible_table (p : Port) (s : State) : (pulseIfEligible p s).table = s.table := State.table_of_mute (by simp)

@[simp] theorem pulseIfEligible_statuses (p : Port) (s : State) : (pulseIfEligible p s).statuses = s.statuses := State.statuses_of_mute (by simp)

@[simp] theorem pulseIfEligible_engine (p : Port) (s : State) : (pulseIfEligible p s).engine = s.engine := State.engine_of_mute (by simp)

@[simp] theorem pulseIfEligible_jobs (p : Port) (s : State) : (pulseIfEligible p s).jobs = s.jobs := State.jobs_of_mute (by simp)

@[simp] theorem pulseIfEligible_stack (p : Port) (s : State) : (pulseIfEligible p s).stack = s.stack := State.stack_of_mute (by simp)

@[simp] theorem pulseIfEligible_handshake (p : Port) (s : State) : (pulseIfEligible p s).handshake = s.handshake := State.handshake_of_mute (by simp)

@[simp] theorem pulseIfEligible_sample (p : Port) (s : State) : (pulseIfEligible p s).sample = s.sample := State.sample_of_mute (by simp)

@[simp] theorem pulseIfEligible_frame (p : Port) (s : State) : (pulseIfEligible p s).frame = s.frame := State.frame_of_mute (by simp)

@[simp] theorem pulseIfEligible_arbiter (p : Port) (s : State) : (pulseIfEligible p s).arbiter = s.arbiter := State.arbiter_of_mute (by simp)

@[simp] theorem pulseIfEligible_store (p : Port) (s : State) : (pulseIfEligible p s).store = s.store := State.store_of_mute (by simp)

@[simp] theorem pulseIfEligible_pending (p : Port) (s : State) : (pulseIfEligible p s).pending = s.pending := State.pending_of_mute (by simp)

@[simp] theorem post_table (src : Source) (d : Detail) (p : Port) (s : State) : (post src d p s).table = s.table := State.table_of_mute (by simp)

@[simp] theorem post_statuses (src : Source) (d : Detail) (p : Port) (s : State) : (post src d p s).statuses = s.statuses := State.statuses_of_mute (by simp)

@[simp] theorem post_engine (src : Source) (d : Detail) (p : Port) (s : State) : (post src d p s).engine = s.engine := State.engine_of_mute (by simp)

@[simp] theorem post_jobs (src : Source) (d : Detail) (p : Port) (s : State) : (post src d p s).jobs = s.jobs := State.jobs_of_mute (by simp)

@[simp] theorem post_stack (src : Source) (d : Detail) (p : Port) (s : State) : (post src d p s).stack = s.stack := State.stack_of_mute (by simp)

@[simp] theorem post_handshake (src : Source) (d : Detail) (p : Port) (s : State) : (post src d p s).handshake = s.handshake := State.handshake_of_mute (by simp)

@[simp] theorem post_sample (src : Source) (d : Detail) (p : Port) (s : State) : (post src d p s).sample = s.sample := State.sample_of_mute (by simp)

@[simp] theorem post_frame (src : Source) (d : Detail) (p : Port) (s : State) : (post src d p s).frame = s.frame := State.frame_of_mute (by simp)

@[simp] theorem post_arbiter (src : Source) (d : Detail) (p : Port) (s : State) : (post src d p s).arbiter = s.arbiter := State.arbiter_of_mute (by simp)

@[simp] theorem post_store (src : Source) (d : Detail) (p : Port) (s : State) : (post src d p s).store = s.store := State.store_of_mute (by simp)

@[simp] theorem post_pending (src : Source) (d : Detail) (p : Port) (s : State) : (post src d p s).pending = s.pending := State.pending_of_mute (by simp)

/-! ### The grant -/

/-- Asking a FREE arbiter is being granted (R157). -/
theorem askGrant_free {c : Client} {op : TableOp} {s : State} (h : s.arbiter.holder = none) : askGrant c op s = grant c op s := by
  simp [askGrant, h]

/-- Asking a HELD arbiter with a hold time above 0 joins the waiting set, and beside it can only start the hold timer (R157,
R161). -/
theorem askGrant_held {c : Client} {op : TableOp} {s : State} {h : Client × TableOp} (hh : s.arbiter.holder = some h)
    (ht : s.arbiter.holdTime ≠ 0) :
    ∃ x, askGrant c op s
      = s.setArbiter { s.arbiter with waiting := s.arbiter.waiting.set c (some op), hold := x } := by
  simp only [askGrant, hh]
  split
  · exact ⟨_, by simp [startHold, State.setArbiter, ht]; rfl⟩
  · exact ⟨s.arbiter.hold, rfl⟩

/-- A release changes the arbiter alone (R158, R159). -/
theorem release_setArbiter (s : State) : ∃ a, release s = s.setArbiter a := by
  unfold release grant
  split
  · split <;> exact ⟨_, rfl⟩
  · exact ⟨_, rfl⟩

/-- An expiry under which no record is placed leaves the timer at 0 (R162). -/
theorem expireHold_uncut {s : State} (h : ∀ x, s.assembling = some x → x.2.2.placed = []) :
    expireHold s = s.setArbiter { s.arbiter with hold := .expired } := by
  unfold expireHold
  split
  · exact if_pos (h _ ‹_›)
  · rfl

/-- An expiry with a record placed cuts the assembly there (R162). -/
theorem expireHold_cut {s : State} {p : Port} {op : TableOp} {a : Assembly} (h : s.assembling = some (p, op, a))
    (hp : a.placed ≠ []) : expireHold s = finishBlockRead p a true s := by
  unfold expireHold
  rw [h]
  exact if_neg hp

/-! ### The resets that wait for a commit -/

/-- The answers to the resets that waited change the records of their ports alone (R194). -/
theorem answerAll_ports (l : List ResetReply) (s : State) : ∃ ports, answerAll l s = { s with ports := ports } := by
  induction l generalizing s with
  | nil => exact ⟨s.ports, rfl⟩
  | cons x rest ih =>
    have one : ∃ ports, answerPending x.port { payload := resetPayload x.queued x.stacked (some .cleared) } (forgetDrops x s)
        = { s with ports := ports } := by
      unfold answerPending forgetDrops
      repeat' split
      all_goals exact ⟨_, rfl⟩
    obtain ⟨ports, e⟩ := one
    obtain ⟨ports', e'⟩ := ih { s with ports := ports }
    exact ⟨ports', by rw [answerAll, e, e']⟩

end Sys2Proof.Machine
end

