-- ==== Sys2Proof/Laws/PerInstr.lean ====
section
/-! SUPPORT. What holds of every command as syntax, one lemma for each constructor: a request has a frame, which begins with its own
length and carries a code of that length and the command's tag (R185, R188, R196, section 10.7), and an event has none. -/

namespace Sys2Proof.Laws.Frame

/-- A command has a frame exactly when a port sends it, the port that its row of section 10.7 names; and its frame begins with
its length, which is the one the frame's code has, and carries its tag in the third byte. -/
def Statement (i : Instr) : Prop :=
  i.sender = (Machine.Instr.row i).map Prod.fst ∧ (encodeFrame i).isSome = i.sender.isSome
    ∧ ∀ bytes, encodeFrame i = some bytes →
      frameLength (bytes.getD 1 0) = some bytes.length ∧ (bytes.getD 0 0).toNat = bytes.length ∧ bytes.getD 2 0 = i.tag

theorem resetnRelease : Statement .resetnRelease := ⟨rfl, rfl, fun _ h => nomatch h⟩
theorem attach (port : Port) (tag : Byte) : Statement (.attach port tag) :=
  ⟨rfl, rfl, fun _ h => by cases h; exact ⟨rfl, rfl, rfl⟩⟩
theorem detach (port : Port) (tag : Byte) : Statement (.detach port tag) :=
  ⟨rfl, rfl, fun _ h => by cases h; exact ⟨rfl, rfl, rfl⟩⟩
theorem identify (port : Port) (tag : Byte) : Statement (.identify port tag) :=
  ⟨rfl, rfl, fun _ h => by cases h; exact ⟨rfl, rfl, rfl⟩⟩
theorem setWindow (port : Port) (tag target base size : Byte) : Statement (.setWindow port tag target base size) :=
  ⟨rfl, rfl, fun _ h => by cases h; exact ⟨rfl, rfl, rfl⟩⟩
theorem resetPort (port : Port) (tag target : Byte) : Statement (.resetPort port tag target) :=
  ⟨rfl, rfl, fun _ h => by cases h; exact ⟨rfl, rfl, rfl⟩⟩
theorem takeNotice (port : Port) (tag : Byte) : Statement (.takeNotice port tag) :=
  ⟨rfl, rfl, fun _ h => by cases h; exact ⟨rfl, rfl, rfl⟩⟩
theorem endService (port : Port) (tag : Byte) : Statement (.endService port tag) :=
  ⟨rfl, rfl, fun _ h => by cases h; exact ⟨rfl, rfl, rfl⟩⟩
theorem setNoticeMask (port : Port) (tag : Byte) (sources : BitVec 16) : Statement (.setNoticeMask port tag sources) :=
  ⟨rfl, rfl, fun _ h => by cases h; exact ⟨rfl, rfl, rfl⟩⟩
theorem setNoticeMode (port : Port) (tag mode tracking baseCode : Byte) : Statement (.setNoticeMode port tag mode tracking baseCode) :=
  ⟨rfl, rfl, fun _ h => by cases h; exact ⟨rfl, rfl, rfl⟩⟩
theorem takeCompletion (port : Port) (tag : Byte) : Statement (.takeCompletion port tag) :=
  ⟨rfl, rfl, fun _ h => by cases h; exact ⟨rfl, rfl, rfl⟩⟩
theorem submitMeasure (port : Port) (tag head zone cls limit : Byte) : Statement (.submitMeasure port tag head zone cls limit) :=
  ⟨rfl, rfl, fun _ h => by cases h; exact ⟨rfl, rfl, rfl⟩⟩
theorem submitSweep (port : Port) (tag firstHead lastHead firstZone lastZone cls publishAtEnd : Byte) : Statement (.submitSweep port tag firstHead lastHead firstZone lastZone cls publishAtEnd) :=
  ⟨rfl, rfl, fun _ h => by cases h; exact ⟨rfl, rfl, rfl⟩⟩
theorem submitReferenceCheck (port : Port) (tag zone : Byte) : Statement (.submitReferenceCheck port tag zone) :=
  ⟨rfl, rfl, fun _ h => by cases h; exact ⟨rfl, rfl, rfl⟩⟩
theorem submitMove (port : Port) (tag : Byte) (target : CountWord) : Statement (.submitMove port tag target) :=
  ⟨rfl, rfl, fun _ h => by cases h; exact ⟨rfl, rfl, rfl⟩⟩
theorem cancel (port : Port) (tag id groupFlag : Byte) : Statement (.cancel port tag id groupFlag) :=
  ⟨rfl, rfl, fun _ h => by cases h; exact ⟨rfl, rfl, rfl⟩⟩
theorem cancelGroup (port : Port) (tag id : Byte) : Statement (.cancelGroup port tag id) :=
  ⟨rfl, rfl, fun _ h => by cases h; exact ⟨rfl, rfl, rfl⟩⟩
theorem readQueue (port : Port) (tag start : Byte) : Statement (.readQueue port tag start) :=
  ⟨rfl, rfl, fun _ h => by cases h; exact ⟨rfl, rfl, rfl⟩⟩
theorem resumeEngine (port : Port) (tag : Byte) : Statement (.resumeEngine port tag) :=
  ⟨rfl, rfl, fun _ h => by cases h; exact ⟨rfl, rfl, rfl⟩⟩
theorem takeMove (port : Port) (tag : Byte) : Statement (.takeMove port tag) :=
  ⟨rfl, rfl, fun _ h => by cases h; exact ⟨rfl, rfl, rfl⟩⟩
theorem moveDone (port : Port) (tag sequence : Byte) : Statement (.moveDone port tag sequence) :=
  ⟨rfl, rfl, fun _ h => by cases h; exact ⟨rfl, rfl, rfl⟩⟩
theorem moveRefused (port : Port) (tag sequence reason : Byte) : Statement (.moveRefused port tag sequence reason) :=
  ⟨rfl, rfl, fun _ h => by cases h; exact ⟨rfl, rfl, rfl⟩⟩
theorem takeHeadRequest (port : Port) (tag : Byte) : Statement (.takeHeadRequest port tag) :=
  ⟨rfl, rfl, fun _ h => by cases h; exact ⟨rfl, rfl, rfl⟩⟩
theorem headSelected (port : Port) (tag sequence head : Byte) : Statement (.headSelected port tag sequence head) :=
  ⟨rfl, rfl, fun _ h => by cases h; exact ⟨rfl, rfl, rfl⟩⟩
theorem headRefused (port : Port) (tag sequence reason : Byte) : Statement (.headRefused port tag sequence reason) :=
  ⟨rfl, rfl, fun _ h => by cases h; exact ⟨rfl, rfl, rfl⟩⟩
theorem readHandshake (port : Port) (tag : Byte) : Statement (.readHandshake port tag) :=
  ⟨rfl, rfl, fun _ h => by cases h; exact ⟨rfl, rfl, rfl⟩⟩
theorem home (port : Port) (tag : Byte) : Statement (.home port tag) := ⟨rfl, rfl, fun _ h => by cases h; exact ⟨rfl, rfl, rfl⟩⟩
theorem readPosition (port : Port) (tag clear : Byte) : Statement (.readPosition port tag clear) :=
  ⟨rfl, rfl, fun _ h => by cases h; exact ⟨rfl, rfl, rfl⟩⟩
theorem readServo (port : Port) (tag clear : Byte) : Statement (.readServo port tag clear) :=
  ⟨rfl, rfl, fun _ h => by cases h; exact ⟨rfl, rfl, rfl⟩⟩
theorem publish (port : Port) (tag : Byte) : Statement (.publish port tag) :=
  ⟨rfl, rfl, fun _ h => by cases h; exact ⟨rfl, rfl, rfl⟩⟩
theorem discardStaged (port : Port) (tag form head zone : Byte) : Statement (.discardStaged port tag form head zone) :=
  ⟨rfl, rfl, fun _ h => by cases h; exact ⟨rfl, rfl, rfl⟩⟩
theorem seedEntry (port : Port) (tag head zone form : Byte) (count : CountWord) : Statement (.seedEntry port tag head zone form count) :=
  ⟨rfl, rfl, fun _ h => by cases h; exact ⟨rfl, rfl, rfl⟩⟩
theorem clearEntry (port : Port) (tag head zone : Byte) : Statement (.clearEntry port tag head zone) :=
  ⟨rfl, rfl, fun _ h => by cases h; exact ⟨rfl, rfl, rfl⟩⟩
theorem clearBench (port : Port) (tag : Byte) : Statement (.clearBench port tag) :=
  ⟨rfl, rfl, fun _ h => by cases h; exact ⟨rfl, rfl, rfl⟩⟩
theorem readEntry (port : Port) (tag head zone : Byte) : Statement (.readEntry port tag head zone) :=
  ⟨rfl, rfl, fun _ h => by cases h; exact ⟨rfl, rfl, rfl⟩⟩
theorem readTable (port : Port) (tag start count : Byte) : Statement (.readTable port tag start count) :=
  ⟨rfl, rfl, fun _ h => by cases h; exact ⟨rfl, rfl, rfl⟩⟩
theorem readNext (port : Port) (tag : Byte) : Statement (.readNext port tag) :=
  ⟨rfl, rfl, fun _ h => by cases h; exact ⟨rfl, rfl, rfl⟩⟩
theorem setArbitration (port : Port) (tag engine w d p preemption holdTime : Byte) : Statement (.setArbitration port tag engine w d p preemption holdTime) :=
  ⟨rfl, rfl, fun _ h => by cases h; exact ⟨rfl, rfl, rfl⟩⟩
theorem readArbitration (port : Port) (tag : Byte) : Statement (.readArbitration port tag) :=
  ⟨rfl, rfl, fun _ h => by cases h; exact ⟨rfl, rfl, rfl⟩⟩
theorem selectProfile (port : Port) (tag slot : Byte) : Statement (.selectProfile port tag slot) :=
  ⟨rfl, rfl, fun _ h => by cases h; exact ⟨rfl, rfl, rfl⟩⟩
theorem saveProfile (port : Port) (tag slot : Byte) : Statement (.saveProfile port tag slot) :=
  ⟨rfl, rfl, fun _ h => by cases h; exact ⟨rfl, rfl, rfl⟩⟩
theorem setParameter (port : Port) (tag number index : Byte) (value : ValueWord) : Statement (.setParameter port tag number index value) :=
  ⟨rfl, rfl, fun _ h => by cases h; exact ⟨rfl, rfl, rfl⟩⟩
theorem readParameter (port : Port) (tag number index : Byte) : Statement (.readParameter port tag number index) :=
  ⟨rfl, rfl, fun _ h => by cases h; exact ⟨rfl, rfl, rfl⟩⟩
theorem responseRead (port : Port) (clocked : Nat) : Statement (.responseRead port clocked) := ⟨rfl, rfl, fun _ h => nomatch h⟩
theorem droppedRequest (port : Port) : Statement (.droppedRequest port) := ⟨rfl, rfl, fun _ h => nomatch h⟩
theorem frameError (port : Port) (clockedIn : List Byte) : Statement (.frameError port clockedIn) :=
  ⟨rfl, rfl, fun _ h => nomatch h⟩
theorem profileLoadComplete (defaultByte : Option Byte) (image : Option (List Byte)) : Statement (.profileLoadComplete defaultByte image) :=
  ⟨rfl, rfl, fun _ h => nomatch h⟩
theorem profileSaveComplete (readBack : Option (List Byte)) : Statement (.profileSaveComplete readBack) :=
  ⟨rfl, rfl, fun _ h => nomatch h⟩
theorem wedgeRecord (record : WedgeRecord) : Statement (.wedgeRecord record) := ⟨rfl, rfl, fun _ h => nomatch h⟩
theorem wedgeWindowExpiry : Statement .wedgeWindowExpiry := ⟨rfl, rfl, fun _ h => nomatch h⟩
theorem indexPulse : Statement .indexPulse := ⟨rfl, rfl, fun _ h => nomatch h⟩
theorem servoLossTimeoutExpiry : Statement .servoLossTimeoutExpiry := ⟨rfl, rfl, fun _ h => nomatch h⟩
theorem sampleTake : Statement .sampleTake := ⟨rfl, rfl, fun _ h => nomatch h⟩
theorem filterSample (a b z pfault : Bool) : Statement (.filterSample a b z pfault) := ⟨rfl, rfl, fun _ h => nomatch h⟩
theorem settleTimerExpiry : Statement .settleTimerExpiry := ⟨rfl, rfl, fun _ h => nomatch h⟩
theorem moveTimeoutExpiry : Statement .moveTimeoutExpiry := ⟨rfl, rfl, fun _ h => nomatch h⟩
theorem headSelectTimeoutExpiry : Statement .headSelectTimeoutExpiry := ⟨rfl, rfl, fun _ h => nomatch h⟩
theorem headSettleTimerExpiry : Statement .headSettleTimerExpiry := ⟨rfl, rfl, fun _ h => nomatch h⟩
theorem holdTimerExpiry (visited : Nat) : Statement (.holdTimerExpiry visited) := ⟨rfl, rfl, fun _ h => nomatch h⟩
theorem attnPulseEnd (port : Port) : Statement (.attnPulseEnd port) := ⟨rfl, rfl, fun _ h => nomatch h⟩
theorem e0Lookup : Statement .e0Lookup := ⟨rfl, rfl, fun _ h => nomatch h⟩
theorem commit : Statement .commit := ⟨rfl, rfl, fun _ h => nomatch h⟩
theorem groupEndPublish : Statement .groupEndPublish := ⟨rfl, rfl, fun _ h => nomatch h⟩
theorem blockReadAssembly : Statement .blockReadAssembly := ⟨rfl, rfl, fun _ h => nomatch h⟩
theorem tableOperationEnd : Statement .tableOperationEnd := ⟨rfl, rfl, fun _ h => nomatch h⟩
theorem attnSecondPulse (port : Port) : Statement (.attnSecondPulse port) := ⟨rfl, rfl, fun _ h => nomatch h⟩

end Sys2Proof.Laws.Frame
end

