-- ==== Sys2Proof/Laws/Requests.lean ====
section
/-! SUPPORT. What the delivery of a request can do, said once: taken, refused or dropped; and how answers meet the slot. -/

namespace Sys2Proof.Machine

@[simp] theorem State.setSlot_setSlot (s : State) (p : Port) (x y : Slot) : (s.setSlot p x).setSlot p y = s.setSlot p y := by
  simp [State.setSlot]

/-- An answer does not depend on what the slot held. -/
@[simp] theorem answer_setSlot (s : State) (p : Port) (x : Slot) (tag : Byte) (a : Answer) :
    answer p tag a (s.setSlot p x) = answer p tag a s := by
  simp [answer, State.setSlot, State.responseOf]

@[simp] theorem refuse_setSlot (s : State) (p : Port) (x : Slot) (tag : Byte) (st : Status) :
    refuse p tag st (s.setSlot p x) = refuse p tag st s := answer_setSlot s p x tag _

@[simp] theorem reply_setSlot (s : State) (p : Port) (x : Slot) (tag : Byte) (l : List Byte) :
    reply p tag l (s.setSlot p x) = reply p tag l s := answer_setSlot s p x tag _

/-- The slot after an answer. -/
theorem answer_slot (s : State) (p : Port) (tag : Byte) (a : Answer) :
    ((answer p tag a s).port p).slot = .ready (s.responseOf p tag a) := by
  simp [answer, State.setSlot]

/-- A request into a slot that is not EMPTY is dropped (R187). -/
theorem request_dropped {i : Instr} {p : Port} {a : Access} {body : State → State} {s : State}
    (h : (s.port p).slot ≠ .empty) : request i p a body s = dropRequest p s := by
  simp [request, h]

/-- A request into an EMPTY slot that meets a common refusal is refused (R191). -/
theorem request_refused {i : Instr} {p : Port} {a : Access} {body : State → State} {s : State} {st : Status}
    (h : (s.port p).slot = .empty) (hr : s.commonRefusal p a = some st) : request i p a body s = refuse p i.tag st s := by
  simp [request, h, hr]

/-- The common refusals of an ATTACHED port (R191). -/
theorem State.commonRefusal_none {s : State} {p : Port} {a : Access} (ha : (s.port p).attached = true) (hs : p ∈ a.senders)
    (hp : a.profile = true → s.store.state = .ready) : s.commonRefusal p a = none := by
  unfold State.commonRefusal
  split
  · simp_all
  · simp_all

/-- A request that meets no common refusal is handed to its block with the slot PENDING (R186). -/
theorem request_taken {i : Instr} {p : Port} {a : Access} {body : State → State} {s : State} (h : s.canSend p)
    (hs : p ∈ a.senders) (hp : a.profile = true → s.store.state = .ready) :
    request i p a body s = body (s.setSlot p (.pending i)) := by
  simp [request, h.1, State.commonRefusal_none h.2 hs hp]

@[simp] theorem mem_everyPort (p : Port) : p ∈ everyPort := by cases p <;> simp [everyPort]

end Sys2Proof.Machine
end

