-- ==== Sys2Proof/Tests/Slice0.lean ====
section
/-! SUPPORT. The model's own tests: ill-formed commands, frames written out from section 10.7, the manual's worked cases, one step at a
time, and for each obligation a witness, which shows a concrete state and operands that meet its hypotheses. -/

namespace Sys2Proof.Tests

open Sys2Proof Sys2Proof.Machine

set_option Elab.async false

/-! ### Helpers -/

/-- The state after a command. -/
def after (i : Instr) (s : State) : State :=
  match exec i s with
  | .next t => t
  | .fault _ => s
  | .refused _ => s

/-- The status in a port's slot, where it holds a response. -/
def statusAt (p : Port) (s : State) : Option Status :=
  match (s.port p).slot with
  | .ready r => some r.status
  | .pending _ => none
  | .empty => none

/-- The payload in a port's slot, where it holds a response. -/
def payloadAt (p : Port) (s : State) : Option (List Byte) :=
  match (s.port p).slot with
  | .ready r => some r.payload
  | .pending _ => none
  | .empty => none

/-- The profile of the worked case of section 2.7, with the home value of 12.1. -/
def pr : Profile := { Profile.reset with
  headCount := 4, zoneCount := 3, referenceHead := 0, wedges := 240, sampleExponent := 4, countsPerTrack := 640, step := 40
  searchRange := 512, nullTolerance := 48, maxIterations := 4, gainFloor := 256, spreadLimit := 1500, rejectLimit := 6
  burstFloor := 64, settleWindow := 8, settleTime := 5, headSettleDelay := 20, moveTimeout := 2000, headSelectTimeout := 500
  servoLossTimeout := 200, wedgeWindow := 100, driftLimit := 48, travelLow := 60000, travelHigh := 200000, homeValue := 80000
  filterLength := 2, zoneCentre := #v[100000, 120000, 120000, 0, 0, 0, 0, 0, 0, 0, 0, 0]
  zoneTrack := #v[18400, 18400, 18400, 0, 0, 0, 0, 0, 0, 0, 0, 0] }

/-- A port as section 12.1 has it: ATTACHED, every source unmasked. -/
def openPort : LinkPort := { LinkPort.reset with attached := true, notices := { NoticeUnit.reset with mask := .all false } }

/-- The bench at the start of the session of chapter 12, with the servo LOCKED. -/
def bench : State := { State.reset with
  ports := .all openPort
  store := ⟨.ready, pr, some 0, none, none⟩
  frame := { PositionFrame.reset with sampled := true, filterLength := 2, count := 120000, travel := .inside, home := .done }
  sample := { SamplePath.reset with aligned := true, locked := true, window := .running 100 }
  handshake := { HandshakeUnit.reset with selected := some 0 } }

/-- The bench with the engine in FAULT_HOLD. -/
def held : State := { bench with engine := { Engine.reset with state := .faultHold } }

/-- A job for an entry. -/
def job (id head zone : Nat) (c : JobClass) : JobRecord := ⟨id, .measure head zone, c, .w, none, none⟩

/-- A search for an entry that has been looked up. -/
def search (id head zone : Nat) : SearchRecord :=
  { SearchRecord.fresh pr (job id head zone .normal) with e0 := some 120000, target := some 120000 }

/-- The bench with job 7, MEASURE (3, 2), in the given engine state with the given handshakes. -/
def working (e : EngineState) (m : Option MovePhase) (h : Option HeadPhase) : State := { bench with
  engine := { Engine.reset with state := e, active := some (search 7 3 2) }
  statuses := bench.statuses.set 38 .measuring
  handshake := { HandshakeUnit.reset with
    selected := some 3, moveSequence := 41, headSequence := 18
    move := m.map fun ph => ⟨ph, 41, 120000, 7⟩
    moveTimeout := if m = some .settled then .paused 5000 else if m = none then .stopped else .running 5000
    head := h.map fun ph => ⟨ph, 18, 3, 7⟩
    headTimeout := if h = some .requested ∨ h = some .taken then .running 3000 else .stopped
    headSettle := if h = some .delay then .running 2000 else .stopped }
  frame := { bench.frame with
    settle := if m = some .settled then .met else if m = some .done then .timing else .none
    settleTimer := if m = some .done then .running 5000 else .stopped } }

/-- A good record over the centre of a track (case 4 of section 3.7 at the target's own track). -/
def centred : WedgeRecord := ⟨true, true, 18400, 1000, 1000, 0, 0⟩

/-- The bench with job 7 in DWELL and the given records waiting. -/
def dwelling (fifo : List WedgeRecord) : State :=
  let s := working .dwell (some .settled) (some .ready)
  { s with sample := { s.sample with fifo := fifo }, engine := { s.engine with dwell := ⟨0, 0, none, 0, 15⟩ } }

/-- The grant held by a client for an operation. -/
def granted (c : Client) (op : TableOp) (s : State) : State :=
  { s with arbiter := { s.arbiter with holder := some (c, op) } }

/-- A request that waits in a port's slot. -/
def waits (p : Port) (i : Instr) (s : State) : State := s.setSlot p (.pending i)

/-- One published part. -/
def part (null : Int) : PublishedPart := ⟨null, 1638, 1, 1, 0, 1, none, false⟩

/-- The bench with two published parts of zone 1 and a staged one (section 12.6, zone 1). -/
def mapped : State := setEntry 0 1 ⟨none, none, some (part 120213)⟩
  (setEntry 1 1 ⟨none, some (.converged 120431 1638 1 1 0), none⟩ bench)

/-! ### Ill-formed commands -/

theorem test_illFormed_cancel : (Instr.cancel .workstation 0 5 1).wellFormed = false := by decide +kernel

theorem test_illFormed_frameError : (Instr.frameError .workstation [3, 0x03, 9]).wellFormed = false := by decide +kernel

theorem test_illFormed_frameError_silent : (Instr.frameError .workstation [0, 0x03, 9]).wellFormed = false := by decide +kernel

theorem test_illFormed_profileLoad : (Instr.profileLoadComplete (some 0) (some [1, 2])).wellFormed = false := by decide +kernel

theorem test_illFormed_profileSave : (Instr.profileSaveComplete (some [])).wellFormed = false := by decide +kernel

theorem test_wellFormed_frameError : (Instr.frameError .workstation [4, 0x03, 9]).wellFormed = true := by decide +kernel

/-! ### Frames, byte by byte from section 10.7 -/

theorem test_frame_identify : decodeFrame .adapter [3, 0x03, 0x2A, 0, 0] = some (.identify .adapter 0x2A) := by decide +kernel

theorem test_frame_setNoticeMask :
    decodeFrame .positioner [5, 0x12, 1, 0x40, 0x02] = some (.setNoticeMask .positioner 1 0x0240) := by decide +kernel

theorem test_frame_submitSweep : decodeFrame .workstation [9, 0x21, 5, 0, 3, 1, 2, 0, 1]
    = some (.submitSweep .workstation 5 0 3 1 2 0 1) := by decide +kernel

theorem test_frame_submitMove : decodeFrame .workstation [6, 0x23, 5, 0x40, 0xE2, 0x01]
    = some (.submitMove .workstation 5 123456) := by decide +kernel

theorem test_frame_cancel : decodeFrame .workstation [5, 0x24, 5, 12, 0] = some (.cancel .workstation 5 12 0)
    ∧ decodeFrame .workstation [5, 0x24, 5, 12, 1] = some (.cancelGroup .workstation 5 12) := by decide +kernel

theorem test_frame_headSelected : decodeFrame .adapter [5, 0x35, 1, 18, 3] = some (.headSelected .adapter 1 18 3) := by
  decide +kernel

theorem test_frame_seedEntry : decodeFrame .workstation [9, 0x52, 5, 3, 2, 0, 0xFE, 0xFF, 0xFF]
    = some (.seedEntry .workstation 5 3 2 0 (-2)) := by decide +kernel

theorem test_frame_readTable : decodeFrame .adapter [5, 0x59, 5, 0, 192] = some (.readTable .adapter 5 0 192) := by
  decide +kernel

theorem test_frame_setParameter : decodeFrame .workstation [9, 0x62, 5, 24, 0, 0x60, 0xEA, 0x00, 0x00]
    = some (.setParameter .workstation 5 24 0 60000) := by decide +kernel

/-- A wrong length, an unknown code, and padding that is not 0x00 spell no request (R188). -/
theorem test_frame_malformed : decodeFrame .workstation [4, 0x03, 1, 0] = none ∧ decodeFrame .workstation [3, 0x06, 1] = none
    ∧ decodeFrame .workstation [3, 0x03, 1, 0, 7] = none ∧ decodeFrame .workstation [3, 0x03] = none := by decide +kernel

/-! ### Witnesses: the step, frames, refusals -/

theorem witness_idleStep_time : bench.pending = [] ∧ bench.due = none := by decide +kernel

theorem witness_idleStep_due : { bench with sample := { bench.sample with window := .running 0 } }.pending = []
    ∧ { bench with sample := { bench.sample with window := .running 0 } }.due = some .wedgeWindowExpiry := by decide +kernel

theorem witness_frameRoundTrip : (Instr.setParameter .workstation 7 30 0 (-2)).wellFormed = true
    ∧ (Instr.setParameter .workstation 7 30 0 (-2)).sender = some .workstation
    ∧ encodeFrame (.setParameter .workstation 7 30 0 (-2)) = some [9, 0x62, 7, 30, 0, 0xFE, 0xFF, 0xFF, 0xFF]
    ∧ (bench.port .workstation).slot = .empty
    ∧ ((reply .workstation 4 [] bench).port .workstation).slot = .ready ⟨.ok, 4, false, false, false, 0, 0, []⟩ := by
  decide +kernel

/-- A dropped request, dropped and refused malformed frames, and a read of 5 and of 6 bytes of a response without payload. -/
theorem witness_responseSlot :
    let s := waits .positioner (.publish .workstation 1) bench
    let r : Response := ⟨.ok, 4, false, false, false, 2, 0, []⟩
    (s.port .positioner).slot ≠ .empty ∧ Instr.row (.home .positioner 3) = some (.positioner, { senders := [.positioner], profile := true })
      ∧ deliversRequest [4, 0x03, 9] = true ∧ frameWellFormed [4, 0x03, 9] = false ∧ (bench.port .positioner).slot = .empty
      ∧ ((bench.setSlot .positioner (.ready r)).port .positioner).slot = .ready r
      ∧ 0 < 1 ∧ 6 + r.payload.length ≤ 6 ∧ 5 < 6 + r.payload.length := by decide +kernel

/-- DETACHED, WRONG_PORT, NOT_READY twice and NO_PROFILE. -/
theorem witness_commonRefusals :
    let a : Access := { senders := fromW, profile := true }
    Instr.row (.publish .workstation 1) = some (.workstation, a) ∧ Instr.row (.publish .adapter 1) = some (.adapter, a)
      ∧ ((State.reset.port .workstation).slot = .empty ∧ (State.reset.port .workstation).attached = false ∧ a.detached = false)
      ∧ ((bench.port .adapter).slot = .empty ∧ (bench.port .adapter).attached = true ∧ .adapter ∉ a.senders)
      ∧ ((bench.port .workstation).slot = .empty ∧ (bench.port .workstation).attached = true ∧ .workstation ∈ a.senders)
      ∧ { bench with store := { bench.store with state := .loading none } }.store.state = .loading none
      ∧ { bench with store := { bench.store with state := .saving 3 } }.store.state = .saving 3
      ∧ { bench with store := { bench.store with state := .noProfile } }.store.state = .noProfile := by
  decide +kernel

/-! ### Witnesses: link ports and notices -/

/-- A DETACHED Port W with an owed mark and the engine held, and an ATTACHED Port W. -/
theorem witness_attachDetach :
    let s := (held.setPort .workstation { LinkPort.reset with attached := false })
    let s := { s with store := { s.store with owedW := some 2 } }
    (s.port .workstation).slot = .empty ∧ (s.port .workstation).attached = false ∧ s.engine.state = .faultHold
      ∧ s.store.owed .workstation = some 2
      ∧ (bench.port .workstation).slot = .empty ∧ (bench.port .workstation).attached = true := by decide +kernel

theorem witness_identify : (State.reset.port .adapter).slot = .empty := by decide +kernel

/-- The largest good arguments, and each argument one above its range. -/
theorem witness_setWindow : bench.canSend .workstation
    ∧ ((2 : Byte).toNat ≤ 2 ∧ (15 : Byte).toNat ≤ 15 ∧ (16 : Byte).toNat ∈ [1, 2, 4, 8, 16])
    ∧ ¬(3 : Byte).toNat ≤ 2 ∧ ¬(16 : Byte).toNat ≤ 15 ∧ (3 : Byte).toNat ∉ [1, 2, 4, 8, 16] := by
  refine ⟨⟨?_, ?_⟩, ?_⟩ <;> decide +kernel

/-- A code above the three, another target from Port P, and a job of Port W in COMMIT under the grant. -/
theorem witness_resetPort :
    let c := granted .engine .commit (working .commit none none)
    (bench.canSend .workstation ∧ bench.canSend .positioner ∧ c.canSend .workstation)
      ∧ bench.slotsSound ∧ c.slotsSound ∧ 2 < (3 : Byte).toNat
      ∧ portArg 2 = some .adapter ∧ portArg 1 = some .positioner ∧ portArg 0 = some .workstation
      ∧ bench.resetCase .adapter ≠ .waits ∧ bench.resetCase .positioner ≠ .waits ∧ c.resetCase .workstation = .waits := by
  refine ⟨⟨⟨?_, ?_⟩, ⟨?_, ?_⟩, ⟨?_, ?_⟩⟩, fun p => ?_, fun p => ?_, ?_⟩ <;> first | decide +kernel | (cases p <;> decide +kernel)

theorem witness_postIsRecorded : (bench.port .adapter).attached = true ∧ (State.reset.port .adapter).attached = false := by
  decide +kernel

/-- Nothing eligible; DRIFT and SERVO eligible, SERVO the greater; nothing in service; DRIFT and SERVO in service. -/
theorem witness_noticesTaken :
    let s := post .servo (.slip 9) .workstation (post .drift (.drift 1 50) .workstation bench)
    let u := s.setNotices .workstation { (s.port .workstation).notices with
      inService := { PerSource.all false with drift := true, servo := true } }
    (bench.canSend .workstation ∧ ∀ o, bench.isEligible .workstation o = false)
      ∧ (s.canSend .workstation ∧ s.isEligible .workstation .servo = true
        ∧ ∀ o, s.isEligible .workstation o = true → o.num ≤ Source.servo.num)
      ∧ (∀ o, (bench.port .workstation).notices.inService.get o = false)
      ∧ (u.canSend .workstation ∧ (u.port .workstation).notices.inService.get .servo = true
        ∧ ∀ o, (u.port .workstation).notices.inService.get o = true → o.num ≤ Source.servo.num) := by
  refine ⟨⟨⟨?_, ?_⟩, ?_⟩, ⟨⟨?_, ?_⟩, ?_, ?_⟩, ?_, ⟨?_, ?_⟩, ?_, ?_⟩ <;>
    first | decide +kernel | (intro o; cases o <;> decide +kernel)

/-- PULSE with tracking on and base code 15, and each argument one above its range. -/
theorem witness_noticeSettings : bench.canSend .adapter ∧ modeArg 1 = some .pulse ∧ flagArg 1 = some true
    ∧ (15 : Byte).toNat ≤ 15 ∧ 1 < (2 : Byte).toNat ∧ 15 < (16 : Byte).toNat := by
  refine ⟨⟨?_, ?_⟩, ?_⟩ <;> decide +kernel

theorem witness_completionsTaken :
    let r : CompletionRecord := ⟨7, .measure, some (3, 2), .converged, 1, some 120395, some 3, none, false, 12⟩
    let s := bench.setCompletions .workstation [r]
    (bench.canSend .workstation ∧ (bench.port .workstation).completions = [])
      ∧ s.canSend .workstation ∧ (s.port .workstation).completions = r :: [] := by
  refine ⟨⟨⟨?_, ?_⟩, ?_⟩, ⟨?_, ?_⟩, ?_⟩ <;> decide +kernel

theorem witness_noticePulses :
    let s : PulseState → State := fun x => bench.setNotices .adapter { (bench.port .adapter).notices with pulse := x }
    ((s (.pulsing 0 false)).port .adapter).notices.pulse = .pulsing 0 false
      ∧ ((s (.pulsing 0 true)).port .adapter).notices.pulse = .pulsing 0 true
      ∧ ((s (.low 0)).port .adapter).notices.pulse = .low 0 := by decide +kernel

/-! ### Witnesses: the Job Queue -/

/-- A queue in class order, and a next job id of 255 that is held. -/
theorem witness_queueOrderAndIds :
    let q := [job 1 0 0 .urgent, job 2 0 1 .priority, job 255 0 2 .normal]
    let s := { bench with jobs := { bench.jobs with queue := q, nextJob := 255 } }
    q.Pairwise (fun a b => b.cls.rank ≤ a.cls.rank) ∧ s.heldIds.length ≤ 27 ∧ 1 ≤ s.jobs.nextJob ∧ s.jobs.nextJob ≤ 255 := by
  decide +kernel

/-- The engine held and one place of the queue free; a MEASURE, a REFERENCE CHECK and a MOVE that pass their checks. -/
theorem witness_submissions_accepted :
    let s := { held with jobs := { held.jobs with queue := (List.range 23).map fun n => job (n + 1) 9 9 .normal } }
    s.canSendReady .workstation ∧ s.jobs.queue.length < 24 ∧ s.engine.state = .faultHold
      ∧ sweepClassArg 1 = some .priority ∧ limitArg 8 = some (some 8) ∧ limitArg 0 = some none
      ∧ s.entryCheck .workstation 3 2 = none ∧ s.entryCheck .workstation s.store.profile.referenceHead 2 = none := by
  refine ⟨⟨⟨?_, ?_⟩, ?_⟩, ?_⟩ <;> decide +kernel

/-- One state for each answer: the arguments, the window, the entry, the queue, and an accepted job. -/
theorem witness_submissions_checked :
    let w := bench.setPort .workstation { bench.port .workstation with window := ⟨2, 2⟩ }
    let b := setStatus (.measure 3 2) .queued bench
    let f := { held with jobs := { held.jobs with queue := (List.range 24).map fun n => job (n + 1) 9 9 .normal } }
    (bench.canSendReady .workstation ∧ w.canSendReady .workstation ∧ b.canSendReady .workstation ∧ f.canSendReady .workstation)
      ∧ (1 < (2 : Byte).toNat ∧ 8 < (9 : Byte).toNat ∧ pr.headCount ≤ (4 : Byte).toNat ∧ pr.zoneCount ≤ (3 : Byte).toNat)
      ∧ (w.port .workstation).window.inside 1 = false ∧ b.status 3 2 ≠ .idle ∧ 24 ≤ f.jobs.queue.length
      ∧ bench.status 3 2 = .idle := by
  refine ⟨⟨⟨⟨?_, ?_⟩, ?_⟩, ⟨⟨?_, ?_⟩, ?_⟩, ⟨⟨?_, ?_⟩, ?_⟩, ⟨⟨?_, ?_⟩, ?_⟩⟩, ?_⟩ <;> decide +kernel

theorem witness_submittedJobStarts : bench.canSendReady .workstation ∧ (1 : Byte).toNat ≤ 1 ∧ (8 : Byte).toNat ≤ 8
    ∧ bench.entryCheck .workstation 3 2 = none ∧ entryIndex 3 2 < 192 ∧ bench.engine.state = .idle ∧ bench.engine.active = none
    ∧ bench.jobs.queue = [] ∧ bench.stack = [] ∧ bench.jobs.groups = [] ∧ (bench.port .positioner).attached = true
    ∧ (bench.port .adapter).attached = true ∧ bench.arbiter.holder = none := by
  refine ⟨⟨⟨?_, ?_⟩, ?_⟩, ?_⟩ <;> decide +kernel

/-- Job 7 in DWELL, which a reference check of zone 1 from Port P displaces; and the engine held with a search that has E0, one that
has none, and a MOVE TO on the stack. -/
theorem witness_preemptionAndResume :
    let s := dwelling [centred]
    let n := { search 7 3 2 with e0 := none, target := none }
    let m := { search 7 3 2 with job := { job 7 0 0 .normal with work := .moveTo 120000 }, e0 := none }
    (s.canSendReady .positioner ∧ s.engine.active = some (search 7 3 2) ∧ s.engine.state.working = true
        ∧ (search 7 3 2).job.cls ≠ .urgent ∧ s.stack.length < 2 ∧ s.jobs.queue = [] ∧ s.jobs.groups = []
        ∧ (s.port .adapter).attached = true ∧ s.arbiter.holder = none
        ∧ s.entryCheck .positioner s.store.profile.referenceHead (1 : Byte).toNat = none
        ∧ (search 7 3 2).job.work.place = some (3, 2) ∧ s.status 3 2 = .measuring)
      ∧ (∀ r, { held with stack := [r] }.canSend .workstation ∧ { held with stack := [r] }.stack = r :: [])
      ∧ held.engine.state = .faultHold ∧ held.conditionPresent = false ∧ held.store.state = .ready ∧ held.jobs.queue = []
      ∧ held.jobs.groups = [] ∧ (held.port .positioner).attached = true ∧ (held.port .adapter).attached = true
      ∧ (search 7 3 2).e0.isSome = true ∧ n.job.work.place = some (3, 2) ∧ n.e0 = none ∧ held.arbiter.holder = none
      ∧ m.job.work = .moveTo 120000 :=
  ⟨⟨⟨⟨rfl, rfl⟩, rfl⟩, by decide +kernel⟩, fun _ => ⟨⟨rfl, rfl⟩, rfl⟩, by decide +kernel⟩

/-- The rectangle of heads 2 to 3 and zones 1 to 2: with no IDLE entry, with too little room, with no group record left, and
accepted. -/
theorem witness_sweepQueues :
    let places := (List.range' 2 2).flatMap fun h => (List.range' 1 2).map fun z => (h, z)
    let n := places.foldl (fun s hz => setStatus (.measure hz.1 hz.2) .queued s) held
    let f := { held with jobs := { held.jobs with queue := (List.range 21).map fun n => job (n + 1) 9 9 .normal } }
    let g := { held with jobs := { held.jobs with groups := (List.range 4).map fun n => ⟨n + 1, .w, 1, false, false, false⟩ } }
    (held.canSendReady .workstation ∧ n.canSendReady .workstation ∧ f.canSendReady .workstation ∧ g.canSendReady .workstation)
      ∧ sweepClassArg 1 = some .priority ∧ flagArg 1 = some true ∧ held.sweepCheck .workstation 2 3 1 2 = none
      ∧ n.sweepCheck .workstation 2 3 1 2 = none
      ∧ (places.filter fun hz => n.status hz.1 hz.2 == .idle) = [] ∧ 24 - f.jobs.queue.length < places.length
      ∧ (places.filter fun hz => f.status hz.1 hz.2 == .idle) = places ∧ 4 ≤ g.jobs.groups.length
      ∧ places ≠ [] ∧ places.length ≤ 24 - held.jobs.queue.length ∧ held.jobs.groups.length < 4
      ∧ held.engine.state = .faultHold ∧ held.store.profile.headCount ≤ 16 ∧ held.store.profile.zoneCount ≤ 12
      ∧ held.idsSound := by
  refine ⟨⟨⟨⟨?_, ?_⟩, ?_⟩, ⟨⟨?_, ?_⟩, ?_⟩, ⟨⟨?_, ?_⟩, ?_⟩, ⟨⟨?_, ?_⟩, ?_⟩⟩, ?_, ?_, ?_, ?_, ?_, ?_, ?_, ?_, ?_, ?_, ?_, ?_, ?_,
    ?_, ?_, ?_, ?_, ?_, ?_⟩ <;> decide +kernel

/-- An id nobody holds, a queued and a stacked job of the held engine, an active job in DWELL and one in COMMIT, and a job of
Port W that Port P may not cancel. -/
theorem witness_cancelJob :
    let s := { held with jobs := { held.jobs with queue := [job 7 3 2 .normal] }, stack := [search 8 3 1] }
    let c := working .commit none none
    (s.canSend .workstation ∧ s.canSend .positioner ∧ c.canSend .workstation ∧ (dwelling []).canSend .workstation)
      ∧ (9 : Byte).toNat ∉ s.heldIds ∧ s.engine.state = .faultHold
      ∧ s.findJob 7 = some (.queued (job 7 3 2 .normal)) ∧ s.findJob 8 = some (.stacked (search 8 3 1))
      ∧ c.findJob 7 = some (.active (search 7 3 2)) ∧ c.engine.state.working = false
      ∧ (dwelling []).findJob 7 = some (.active (search 7 3 2)) ∧ (dwelling []).engine.state.working = true
      ∧ (job 7 3 2 .normal).submitter ≠ .p ∧ s.heldIds.Nodup ∧ (dwelling []).heldIds.Nodup
      ∧ (dwelling []).store.profile.driftInterval = 0 ∧ (dwelling []).jobs.pendingZone = none
      ∧ ((dwelling []).port .workstation).completions.length < 8 ∧ (dwelling []).jobs.queue = [] ∧ (dwelling []).stack = []
      ∧ (dwelling []).jobs.groups = [] ∧ (dwelling []).engine.faultPending = false := by
  refine ⟨⟨⟨?_, ?_⟩, ⟨?_, ?_⟩, ⟨?_, ?_⟩, ⟨?_, ?_⟩⟩, ?_⟩ <;> decide +kernel

/-- Ids 0, 15 and 16, an id no group has, a group that is PUBLISH_DUE, and an OPEN group with the engine held. -/
theorem witness_cancelGroup :
    let s := { held with jobs := { held.jobs with groups := [⟨15, .w, 1, true, false, false⟩, ⟨1, .w, 0, true, false, true⟩] } }
    s.canSend .workstation ∧ s.canSend .positioner ∧ 15 < (16 : Byte).toNat ∧ 1 ≤ (15 : Byte).toNat ∧ (15 : Byte).toNat ≤ 15
      ∧ (∀ g ∈ s.jobs.groups, g.id ≠ (2 : Byte).toNat)
      ∧ s.jobs.groups.find? (fun g => g.id == 1) = some ⟨1, .w, 0, true, false, true⟩
      ∧ s.jobs.groups.find? (fun g => g.id == 15) = some ⟨15, .w, 1, true, false, false⟩
      ∧ s.engine.state = .faultHold ∧ s.engine.active = none := by
  refine ⟨⟨?_, ?_⟩, ⟨?_, ?_⟩, ?_⟩ <;> decide +kernel

/-- Outside FAULT_HOLD; in it with PFAULT high, with the count one above travel, and with neither. -/
theorem witness_resumeEngine :
    let f := { held with frame := { held.frame with pfault := ⟨true, 0⟩ } }
    let o := { held with frame := { held.frame with count := 200001 } }
    (bench.canSend .workstation ∧ held.canSend .workstation ∧ f.canSend .workstation ∧ o.canSend .workstation)
      ∧ bench.engine.state ≠ .faultHold ∧ f.engine.state = .faultHold ∧ f.frame.pfault.level = true
      ∧ o.engine.state = .faultHold ∧ o.store.slot.isSome = true ∧ o.store.profile.travelHigh < o.frame.count
      ∧ held.engine.state = .faultHold ∧ held.frame.pfault.level = false
      ∧ ¬(held.frame.count < held.store.profile.travelLow ∨ held.store.profile.travelHigh < held.frame.count)
      ∧ held.jobs.queue = [] ∧ held.stack = [] ∧ held.jobs.groups = [] := by
  refine ⟨⟨⟨?_, ?_⟩, ⟨?_, ?_⟩, ⟨?_, ?_⟩, ⟨?_, ?_⟩⟩, ?_⟩ <;> decide +kernel

/-- Port P DETACHED while a MEASURE waits for its move, with the drift counter one short of an interval of 1, so that zone 2 becomes
pending and there is room; at an interval of 0, so that none does; and with a pending zone outside the profile, so that there is
no room. Its group has one member, is to be published, is not, or has two. -/
theorem witness_endAccounting :
    let r := { search 7 3 2 with job := { job 7 3 2 .normal with group := some 1 } }
    let s : Nat → Option Nat → List Group → State := fun interval zone groups =>
      let s := working .moveWait (some .taken) (some .ready)
      { s.setPort .positioner { s.port .positioner with attached := false } with
        engine := { s.engine with active := some r }
        store := { s.store with profile := { s.store.profile with driftInterval := interval } }
        jobs := { s.jobs with pendingZone := zone, groups := groups } }
    let g : Nat → Bool → Group := fun n publish => ⟨1, .w, n, publish, false, false⟩
    (∀ n z l, (s n z l).engine.active = some r ∧ (s n z l).engine.state.working = true
      ∧ (s n z l).handshake.move = some ⟨.taken, 41, 120000, 7⟩ ∧ (s n z l).handshake.moveTimeout = .running 5000
      ∧ (s n z l).engine.faultPending = false ∧ ((s n z l).port .positioner).attached = false)
      ∧ (s 1 none []).idsSound ∧ (s 1 none []).store.profile.referenceHead < 16 ∧ (s 1 none []).store.profile.zoneCount ≤ 12
      ∧ r.job.work.place = some (3, 2) ∧ (s 1 none []).jobs.drift < (s 1 none []).store.profile.driftInterval
      ∧ (s 1 none []).jobs.queue.length < 24 ∧ 2 < (s 1 none []).store.profile.zoneCount
      ∧ (s 1 none []).status (s 1 none []).store.profile.referenceHead 2 = .idle
      ∧ ¬(s 0 none []).jobs.drift < (s 0 none []).store.profile.driftInterval
      ∧ ¬(9 : Nat) < (s 0 (some 9) []).store.profile.zoneCount
      ∧ r.job.group = some (g 1 true).id ∧ (s 0 none [g 1 true]).jobs.groups.find? (fun k => k.id == 1) = some (g 1 true)
      ∧ (g 1 true).members ≤ 1 ∧ (g 1 true).publishAtEnd = true ∧ (g 1 true).cancelled = false ∧ (g 1 true).due = false
      ∧ (g 1 false).publishAtEnd = false ∧ 1 < (g 2 true).members := by
  refine ⟨fun _ _ _ => ⟨rfl, rfl, rfl, rfl, rfl, rfl⟩, ?_, ?_⟩
  · refine ⟨?_, ?_, ?_, ?_, ?_⟩ <;> decide +kernel
  · decide +kernel

/-! ### Witnesses: the handshakes -/

/-- Each of the four states of both handshakes, and none. -/
theorem witness_takeRequests :
    let s : Option MovePhase → Option HeadPhase → State := working .headWait
    (∀ m h, (s m h).canSend .positioner ∧ (s m h).canSend .adapter)
      ∧ (∀ ph, (s (some ph) none).handshake.move = some ⟨ph, 41, 120000, 7⟩)
      ∧ (∀ ph, (s none (some ph)).handshake.head = some ⟨ph, 18, 3, 7⟩)
      ∧ (s none none).handshake.move = none ∧ (s none none).handshake.head = none :=
  ⟨fun _ _ => ⟨⟨rfl, rfl⟩, ⟨rfl, rfl⟩⟩, fun _ => rfl, fun _ => rfl, rfl, rfl⟩

/-- Sequence 41 matches the move request of job 7; 40 and 0 do not. -/
theorem witness_moveDone : ∀ ph, let s := working .headWait (some ph) none
    s.canSend .positioner ∧ s.handshake.move = some ⟨ph, 41, 120000, 7⟩ ∧ (41 : Byte) ≠ 0 ∧ 41 = (41 : Byte).toNat
      ∧ (∀ m, s.handshake.move = some m → m.sequence ≠ (40 : Byte).toNat) ∧ s.engine.state = .headWait := by
  intro ph
  exact ⟨⟨rfl, rfl⟩, rfl, by decide, by decide, fun m h => by cases h; exact (by decide : (41 : Nat) ≠ (40 : Byte).toNat), rfl⟩

/-- The same move in MOVE_WAIT, with a settle time of 5 ms and of 0. -/
theorem witness_moveDone_moveWait :
    let s := working .moveWait (some .taken) (some .ready)
    let z := { s with store := { s.store with profile := { s.store.profile with settleTime := 0 } } }
    s.canSend .positioner ∧ z.canSend .positioner ∧ s.handshake.move = some ⟨.taken, 41, 120000, 7⟩
      ∧ s.engine.state = .moveWait ∧ s.sample.lossExpired = false ∧ (s.frame.count - 120000).natAbs ≤ s.store.profile.settleWindow
      ∧ s.store.profile.settleTime ≠ 0 ∧ z.store.profile.settleTime = 0 ∧ z.engine.active = some (search 7 3 2)
      ∧ (search 7 3 2).job.work.needsHead = true := by
  refine ⟨⟨?_, ?_⟩, ⟨?_, ?_⟩, ?_⟩ <;> decide +kernel

/-- Job 7 with its requests TAKEN, with its timeouts running, and in SETTLING and DWELL; and the bench with no job. -/
theorem witness_jobEndings :
    let s := working .headWait (some .taken) (some .taken)
    let lossOf : State → State := fun s => { s with sample := { s.sample with locked := false, loss := .running 0 } }
    s.engine.active = some (search 7 3 2) ∧ s.engine.state.working = true ∧ s.jobs.queue = [] ∧ s.stack = []
      ∧ s.jobs.groups = [] ∧ s.jobs.pendingZone = none ∧ s.store.profile.driftInterval = 0 ∧ s.engine.faultPending = false
      ∧ (s.port (Submitter.port (search 7 3 2).job.submitter)).completions = []
      ∧ s.canSend .positioner ∧ s.canSend .adapter ∧ (41 : Byte) ≠ 0 ∧ s.handshake.move = some ⟨.taken, (41 : Byte).toNat, 120000, 7⟩
      ∧ (18 : Byte) ≠ 0 ∧ s.handshake.head = some ⟨.taken, (18 : Byte).toNat, 3, 7⟩
      ∧ s.handshake.moveTimeout = .running 5000 ∧ s.handshake.headTimeout = .running 3000
      ∧ (lossOf (dwelling [])).sample.loss = .running 0 ∧ (search 7 3 2).job.work.needsHead = true
      ∧ (lossOf (dwelling [])).engine.state = .dwell
      ∧ (lossOf (working .headWait none (some .delay))).engine.state = .headWait
      ∧ (lossOf (working .headWait none (some .delay))).handshake.head = some ⟨.delay, 18, 3, 7⟩
      ∧ (lossOf bench).sample.loss = .running 0 ∧ (lossOf bench).engine.state ∈ [EngineState.idle, .moveWait] := by
  refine ⟨?_, ?_, ?_, ?_, ?_, ?_, ?_, ?_, ?_, ⟨?_, ?_⟩, ⟨?_, ?_⟩, ?_⟩ <;> decide +kernel

/-- Heads 15 and 16; no request; a TAKEN request for head 3 under sequence 18; DELAY and READY. -/
theorem witness_headSelected : ∀ ph, let s := working .headWait none (some ph)
    s.canSend .adapter ∧ bench.canSend .adapter ∧ 15 < (16 : Byte).toNat ∧ (15 : Byte).toNat ≤ 15 ∧ bench.handshake.head = none
      ∧ s.handshake.head = some ⟨ph, 18, 3, 7⟩ ∧ ((18 : Byte) ≠ 0 ∧ 18 = (18 : Byte).toNat) ∧ (3 : Byte).toNat = 3
      ∧ (5 : Byte).toNat ≠ 3 ∧ s.store.profile.headSettleDelay ≠ 0 ∧ s.sample.locked = true ∧ s.stack = [] := by
  intro ph
  exact ⟨⟨rfl, rfl⟩, ⟨rfl, rfl⟩, by decide, by decide, rfl, rfl, by decide, by decide, by decide,
    fun e => absurd (show pr.headSettleDelay = 0 from e) (by decide), rfl, rfl⟩

/-- Start positions 23 and 24, and a form byte of 2. -/
theorem witness_reports : (∀ p, bench.canSend p) ∧ (23 : Byte).toNat ≤ 23 ∧ 23 < (24 : Byte).toNat ∧ 1 < (2 : Byte).toNat :=
  ⟨fun p => by cases p <;> exact ⟨rfl, rfl⟩, by decide⟩

theorem witness_searchStarts :
    let s := granted .engine .e0LookUp (working .headWait none none)
    let r := { search 7 3 2 with e0 := none, target := none }
    let s := { s with engine := { s.engine with active := some r } }
    let d := working .headWait none (some .delay)
    (s.arbiter.holder = some (.engine, .e0LookUp) ∧ (∀ c, s.arbiter.waiting.get c = none) ∧ s.engine.state = .headWait
      ∧ s.engine.active = some r ∧ r.e0 = none ∧ r.job.work = .measure 3 2)
      ∧ d.handshake.head = some ⟨.delay, 18, 3, 7⟩ ∧ d.engine.state = .headWait ∧ d.engine.active = some (search 7 3 2)
      ∧ (search 7 3 2).target = some 120000 ∧ d.handshake.move = none ∧ d.store.profile.travelLow ≤ 120000
      ∧ 120000 ≤ d.store.profile.travelHigh
      ∧ (∀ ph, (working .headWait (some ph) (some .delay)).handshake.move = some ⟨ph, 41, 120000, 7⟩)
      ∧ ∀ ph, (working .headWait (some ph) (some .delay)).sample.lossExpired = false := by
  refine ⟨⟨?_, fun c => ?_, ?_⟩, ?_, ?_, ?_, ?_, ?_, ?_, ?_, fun _ => rfl, fun _ => rfl⟩
  · decide +kernel
  · cases c <;> rfl
  all_goals decide +kernel

/-! ### Witnesses: position and samples -/

/-- HOME from a DETACHED port, from another port, without a profile, with a job, and accepted. -/
theorem witness_home :
    let d := working .dwell (some .settled) (some .ready)
    (State.reset.port .positioner).slot = .empty ∧ (State.reset.port .positioner).attached = false
      ∧ (bench.port .adapter).slot = .empty ∧ (bench.port .adapter).attached = true ∧ Port.adapter ≠ .positioner
      ∧ (bench.port .positioner).slot = .empty ∧ (bench.port .positioner).attached = true ∧ bench.store.state = .ready
      ∧ { bench with store := { bench.store with state := .noProfile } }.store.state = .noProfile
      ∧ { bench with store := { bench.store with state := .loading (some 1) } }.store.state = .loading (some 1)
      ∧ (d.port .positioner).slot = .empty ∧ (d.port .positioner).attached = true ∧ d.store.state = .ready
      ∧ d.engine.active.isSome = true ∧ bench.engine.active = none := by decide +kernel

/-- The largest count, and the first sample and a later one. -/
theorem witness_filterSample :
    let s := { bench with frame := { bench.frame with count := 8388607 } }
    (-8388608 ≤ s.frame.count) ∧ s.frame.count ≤ 8388607 ∧ s.frame.sampled = true
      ∧ -8388608 ≤ State.reset.frame.count ∧ State.reset.frame.count ≤ 8388607 ∧ State.reset.frame.sampled = false := by
  decide +kernel

/-- A capture at a rising ENC_Z; with filters of one sample, an illegal transition, a count that leaves travel and a rising PFAULT
while a job works; and a count that stays in the settle window, enters it and leaves it in each settle test. -/
theorem witness_filterSampleEffects :
    let f : Int → SettleTest → State → State := fun c x s => { s with frame := { s.frame with filterLength := 1, count := c, settle := x } }
    let s := working .moveWait (some .taken) (some .ready)
    let w := { bench with frame := { bench.frame with filterLength := 1, home := .waiting } }
    let m : EngineState → MovePhase → Int → SettleTest → State := fun e ph c x => f c x (working e (some ph) (some .ready))
    let t := after (.filterSample true false false false)
    (w.frame.sampled = true ∧ w.frame.encZ.level = false ∧ w.frame.home = .waiting ∧ w.frame.filterLength ≤ w.frame.encZ.run + 1)
      ∧ ((f 200000 .none s).frame.sampled = true ∧ (f 200000 .none s).store.slot.isSome = true
        ∧ (t (f 200000 .none s)).frame.count = 200001 ∧ (f 200000 .none s).frame.travel = .inside
        ∧ (f 200000 .none s).store.profile.travelHigh < 200001 ∧ s.engine.active = some (search 7 3 2)
        ∧ s.engine.state.working = true ∧ s.jobs.groups = [] ∧ s.frame.pfault.level = false
        ∧ (s.port .workstation).attached = true
        ∧ (s.port (Submitter.port (search 7 3 2).job.submitter)).completions.length < 8)
      ∧ ((t (m .settling .done 119991 .outside)).frame.count = 119992 ∧ (t (m .settling .done 120007 .timing)).frame.count = 120008
        ∧ (t (m .settling .done 120008 .timing)).frame.count = 120009 ∧ (t (m .dwell .settled 120008 .met)).frame.count = 120009
        ∧ (119992 - 120000 : Int).natAbs ≤ pr.settleWindow ∧ ¬(120009 - 120000 : Int).natAbs ≤ pr.settleWindow
        ∧ (m .dwell .settled 120008 .met).handshake.moveTimeout = .paused 5000
        ∧ (m .dwell .settled 120008 .met).sample.lossExpired = false) := by decide +kernel

theorem witness_settleTimerExpiry :
    let s := working .settling (some .done) (some .ready)
    s.frame.settle = .timing ∧ s.handshake.move = some ⟨.done, 41, 120000, 7⟩ ∧ s.handshake.moveTimeout = .running 5000
      ∧ s.engine.state = .settling ∧ s.engine.active = some (search 7 3 2) ∧ (search 7 3 2).job.work.needsHead = true
      ∧ s.sample.lossExpired = false ∧ s.jobs.queue = [] ∧ s.stack = [] ∧ s.jobs.groups = [] ∧ s.jobs.pendingZone = none
      ∧ s.store.profile.driftInterval = 0 ∧ s.engine.faultPending = false ∧ (s.port .workstation).completions = []
      ∧ { s with sample := { s.sample with locked := false, loss := .expired } }.sample.lossExpired = true
      ∧ (JobWork.moveTo 120000).needsHead = false := by decide +kernel

/-- The last wedge of a revolution, with the runs one short of a change, LOCKED and LOST, the gate open with one place left in the
FIFO and with none, and the dwell's rejects at the limit and one below it. -/
theorem witness_wedgeArrival :
    let s : List WedgeRecord → Bool → Nat → State := fun fifo locked rejects =>
      let s := dwelling fifo
      { s with
        sample := { s.sample with wedge := 239, missedRun := 7, goodRun := 3, locked := locked }
        engine := { s.engine with dwell := ⟨0, 0, none, rejects, 239⟩ } }
    let a := s [centred, centred, centred] true 5
    let b := s [centred, centred, centred, centred] true 6
    (a.store.slot.isSome = true ∧ a.sample.window = .running 100 ∧ a.sample.wedge < a.store.profile.wedges
      ∧ a.sample.missedRun < 8 ∧ a.sample.goodRun < 4 ∧ a.sample.locked = true ∧ centred.sync = true ∧ a.sample.fifo.length < 4)
      ∧ (s [] false 0).sample.locked = false ∧ a.engine.state = .dwell ∧ a.handshake.move = some ⟨.settled, 41, 120000, 7⟩
      ∧ a.handshake.head = some ⟨.ready, 18, 3, 7⟩ ∧ a.sample.wedge % a.engine.dwell.stride = 0 ∧ 4 ≤ b.sample.fifo.length
      ∧ b.engine.active = some (search 7 3 2) ∧ a.engine.dwell.rejects + 1 ≤ a.store.profile.rejectLimit
      ∧ b.store.profile.rejectLimit < b.engine.dwell.rejects + 1 ∧ (a.port .workstation).attached = true := by
  decide +kernel

/-- An aligned counter at 0 and at 1, an unaligned one, and no profile in force. -/
theorem witness_indexPulse :
    let s := { bench with sample := { bench.sample with wedge := 1 } }
    bench.sample.aligned = true ∧ bench.store.slot.isSome = true ∧ bench.sample.wedge = 0 ∧ s.sample.aligned = true
      ∧ s.store.slot.isSome = true ∧ s.sample.wedge ≠ 0 ∧ State.reset.sample.aligned = false ∧ State.reset.store.slot = none := by
  decide +kernel

/-- An accepted sample and a FAR one, with room in both limits. -/
theorem witness_sampleTake :
    let f : WedgeRecord := { centred with tid := 18408 }
    let s := dwelling [centred]
    let t := dwelling [f]
    s.engine.state = .dwell ∧ s.engine.active = some (search 7 3 2) ∧ s.sample.fifo = centred :: []
      ∧ classify s.store.profile.burstFloor s.targetTrack centred = .accepted 0
      ∧ s.engine.dwell.n + 1 < 2 ^ s.store.profile.sampleExponent
      ∧ t.sample.fifo = f :: [] ∧ classify t.store.profile.burstFloor t.targetTrack f = .far
      ∧ t.engine.dwell.rejects + 1 ≤ t.store.profile.rejectLimit
      ∧ t.store.profile.rejectLimit < { t with engine := { t.engine with dwell := ⟨0, 0, none, 6, 15⟩ } }.engine.dwell.rejects + 1 := by
  decide +kernel

/-! ### Witnesses: the search -/

/-- Job 7 one sample short of the end of a dwell whose samples so far have the given sum and extremes. -/
def lastSample (r : SearchRecord) (sum lo hi : Int) : State :=
  let s := dwelling [centred]
  { s with engine := { s.engine with active := some r, dwell := ⟨15, sum, some (lo, hi), 0, 15⟩ } }

/-- What DwellsAdvanceTheSearch asks of every case. -/
def EndsDwell (r : SearchRecord) (s : State) : Prop :=
  s.engine.state = .dwell ∧ s.engine.active = some r ∧ s.sample.fifo = centred :: []
    ∧ s.store.profile.travelLow ≤ s.store.profile.travelHigh
    ∧ classify s.store.profile.burstFloor s.targetTrack centred = .accepted 0
    ∧ 2 ^ s.store.profile.sampleExponent ≤ (s.engine.dwell.add 0).n

theorem witness_dwell_spread :
    let r := search 7 3 2
    let q := { r with spreadRepeat := true }
    EndsDwell r (lastSample r 0 (-1501) 0) ∧ EndsDwell q (lastSample q 0 (-1501) 0)
      ∧ pr.spreadLimit < ((lastSample r 0 (-1501) 0).engine.dwell.add 0).spread := by
  refine ⟨⟨?_, ?_, ?_, ?_⟩, ⟨?_, ?_, ?_, ?_⟩, ?_⟩ <;> decide +kernel

/-- The first dwell, a step dwell whose gain reaches the floor of 256 and one whose gain is 249. -/
theorem witness_dwell_firstAndStep :
    let r := search 7 3 2
    let q := { r with stage := .step, e1 := some 120040, p0 := some 0, target := some 120040 }
    let s := lastSample q 640 0 1500
    let t := lastSample q 624 0 1500
    EndsDwell r (lastSample r 0 (-1500) 0) ∧ r.stage = .first ∧ r.e0 = some 120000
      ∧ ((lastSample r 0 (-1500) 0).engine.dwell.add 0).spread ≤ pr.spreadLimit
      ∧ EndsDwell q s ∧ EndsDwell q t ∧ q.stage = .step ∧ q.e0 = some 120000 ∧ q.e1 = some 120040 ∧ q.p0 = some 0
      ∧ (s.engine.dwell.add 0).spread ≤ pr.spreadLimit ∧ (t.engine.dwell.add 0).spread ≤ pr.spreadLimit
      ∧ ¬(gain256 0 (dwellMean (s.engine.dwell.add 0).sum 16) 120000 120040).natAbs < pr.gainFloor
      ∧ (gain256 0 (dwellMean (t.engine.dwell.add 0).sum 16) 120000 120040).natAbs < pr.gainFloor := by
  refine ⟨⟨?_, ?_, ?_, ?_⟩, ?_, ?_, ?_, ⟨?_, ?_, ?_, ?_⟩, ⟨?_, ?_, ?_, ?_⟩, ?_⟩ <;> decide +kernel

/-- Verify dwells with a mean of 48, 49 with a dwell left, 49 in the last, and 49 clamped at the bound of the time before. -/
theorem witness_dwell_verify :
    let r := { search 7 3 2 with stage := .verify, gain := some 256 }
    let l := { r with iterations := 3 }
    let c := { r with gain := some (-1), lastClamp := some .high }
    let s := lastSample r 768 0 1500
    let t := lastSample r 784 0 1500
    EndsDwell r s ∧ EndsDwell r t ∧ EndsDwell l (lastSample l 784 0 1500) ∧ EndsDwell c (lastSample c 784 0 1500)
      ∧ r.stage = .verify ∧ r.e0 = some 120000 ∧ r.target = some 120000 ∧ r.gain = some 256
      ∧ (dwellMean (s.engine.dwell.add 0).sum 16).natAbs ≤ pr.nullTolerance
      ∧ ¬(dwellMean (t.engine.dwell.add 0).sum 16).natAbs ≤ pr.nullTolerance
      ∧ ¬r.limit ≤ r.iterations + 1 ∧ l.limit ≤ l.iterations + 1
      ∧ (pr.estimate 120000 120000 49 256).2 = none ∧ (pr.estimate 120000 120000 49 (-1)).2 = c.lastClamp := by
  refine ⟨⟨?_, ?_, ?_, ?_⟩, ⟨?_, ?_, ?_, ?_⟩, ⟨?_, ?_, ?_, ?_⟩, ⟨?_, ?_, ?_, ?_⟩, ?_⟩ <;> decide +kernel

/-- A record on the bound of Ptot, a dwell of one sample, the least gain, and E0 on either travel limit. -/
theorem witness_searchArithmetic :
    classify 64 0 ⟨true, true, 7, 1000, 0, 1000, 1000⟩ = .accepted 30720 ∧ 1 ≤ 64 ∧ (1 : Nat) ≤ 1 ∧ (-1 : Int) ≠ 0
      ∧ pr.travelLow < pr.travelHigh ∧ 1 ≤ pr.step ∧ pr.travelLow ≤ pr.travelLow ∧ pr.travelHigh ≤ pr.travelHigh
      ∧ pr.travelLow ≤ pr.travelHigh := by decide +kernel

/-! ### Witnesses: the table and the arbiter -/

theorem witness_offsets : 1 ≤ 1 := by decide

/-- Every port with the arbiter FREE, the last entry of the profile, a block read of the whole table, and a cursor. -/
theorem witness_tableRequests_granted :
    let s := bench.setCursor .adapter (some ⟨37, 191⟩)
    (∀ p, bench.canSendReady p) ∧ bench.arbiter.holder = none ∧ s.canSendReady .adapter
      ∧ (∀ p, bench.tableCheck p (3 : Byte).toNat (2 : Byte).toNat = none) ∧ 1 ≤ (192 : Byte).toNat
      ∧ (0 : Byte).toNat + (192 : Byte).toNat ≤ 192 ∧ (s.port .adapter).cursor = some ⟨37, 191⟩ := by
  refine ⟨fun p => ?_, ?_, ⟨⟨?_, ?_⟩, ?_⟩, fun p => ?_, ?_⟩
  · cases p <;> exact ⟨⟨rfl, rfl⟩, rfl⟩
  · decide +kernel
  · decide +kernel
  · decide +kernel
  · decide +kernel
  · cases p <;> decide +kernel
  · decide +kernel

/-- The first head and the first zone past the profile, a head outside the window, a form of 2, a count of 0, one index too many,
and no cursor. -/
theorem witness_tableRequests_refused :
    let s := bench.setPort .workstation { bench.port .workstation with window := ⟨2, 2⟩ }
    s.canSendReady .workstation ∧ s.store.profile.headCount ≤ (4 : Byte).toNat ∧ s.store.profile.zoneCount ≤ (3 : Byte).toNat
      ∧ (1 : Byte).toNat < s.store.profile.headCount ∧ (2 : Byte).toNat < s.store.profile.zoneCount
      ∧ (s.port .workstation).window.inside (1 : Byte).toNat = false ∧ 1 < (2 : Byte).toNat
      ∧ 192 < (1 : Byte).toNat + (192 : Byte).toNat ∧ (s.port .workstation).cursor = none := by
  refine ⟨⟨⟨?_, ?_⟩, ?_⟩, ?_⟩ <;> decide +kernel

/-- A job in DWELL with another client's operation under the grant. -/
theorem witness_clearBench :
    let s := granted .p .publish (dwelling [centred])
    s.canSend .workstation ∧ s.engineSound ∧ s.arbiter.engineHolds .commit = false := by
  refine ⟨⟨?_, ?_⟩, ⟨?_, ?_⟩, ?_⟩ <;> decide +kernel

theorem witness_tableOperationEnds :
    let i := Instr.publish .workstation 7
    let s := granted .w .publish (waits .workstation i mapped)
    (∀ c, s.arbiter.waiting.get c = none) ∧ (s.port .workstation).slot = .pending i
      ∧ s.arbiter.holder = some (Port.client .workstation, .publish) := by
  refine ⟨fun c => ?_, ?_⟩
  · cases c <;> rfl
  · decide +kernel

/-- The last entry of the table, and an entry of the profile. -/
theorem witness_tableByEntry : 191 < 192 ∧ mapped.store.profile.holdsIndex 191 = false
    ∧ mapped.store.profile.holdsIndex 13 = true ∧ (mapped.entryAt 13).staged.isSome = true := by decide +kernel

/-- A block read with one record under the grant, ENGINE above it, preemption on and a hold time of 0. -/
def pressed : State :=
  let s := granted .d (.readTable ⟨.full, 3, 191, [(2, [7])]⟩) (waits .adapter (.readTable .adapter 7 0 192) bench)
  { s with arbiter := { s.arbiter with preemption := true, holdTime := 0 } }

/-- A start of the hold timer at 0 under a publish, and under a block read with a record placed. -/
theorem witness_grantGoesToTheHighest_cut :
    let u := granted .w .publish pressed
    (u.arbiter.holder = some (.w, .publish) ∧ TableOp.publish.assembly = none)
      ∧ pressed.arbiter.preemption = true ∧ pressed.arbiter.hold = .stopped ∧ pressed.arbiter.holdTime = 0
      ∧ pressed.arbiter.priority.get .d < pressed.arbiter.priority.get .engine
      ∧ pressed.arbiter.holder = some (Port.client .adapter, .readTable ⟨.full, 3, 191, [(2, [7])]⟩)
      ∧ (pressed.port .adapter).slot = .pending (.readTable .adapter 7 0 192)
      ∧ { pressed.arbiter with waiting := pressed.arbiter.waiting.set .engine (some .commit) }.next .engine := by
  refine ⟨⟨?_, ?_⟩, ?_, ?_, ?_, ?_, ?_, ?_, fun o => ?_⟩
  all_goals first | decide +kernel | rfl | (cases o <;> decide +kernel)

/-- A HELD arbiter, one without a waiter, and two waiters of one priority. -/
theorem witness_grantGoesToTheHighest :
    let s := granted .engine .commit bench
    let t := { s with arbiter := { s.arbiter with
      waiting := ⟨none, some .publish, some (.readNext ⟨.full, 0, 191, []⟩), none⟩, priority := ⟨3, 2, 2, 0⟩ } }
    let u := granted .w .publish { bench with arbiter := { bench.arbiter with preemption := true } }
    (s.arbiter.holder ≠ none ∧ s.arbiter.preemption = false ∧ ∀ o, s.arbiter.waiting.get o = none)
      ∧ (u.arbiter.holder = some (.w, .publish) ∧ u.arbiter.preemption = true ∧ u.arbiter.hold = .stopped
        ∧ u.arbiter.priority.get .w < u.arbiter.priority.get .engine ∧ u.arbiter.holdTime ≠ 0)
      ∧ t.arbiter.waiting.get .w = some .publish ∧ t.arbiter.next .w := by
  refine ⟨⟨?_, ?_, fun o => ?_⟩, ?_, ?_, fun o => ?_⟩
  · decide +kernel
  · decide +kernel
  · cases o <;> rfl
  · decide +kernel
  · decide +kernel
  · cases o <;> decide +kernel

/-- The block read of section 12.7 with no record and with nine placed, its hold timer running and expired, and a publish. -/
theorem witness_blockReadResponses :
    let i := Instr.readTable .adapter 7 0 192
    let a : Assembly := ⟨.full, 0, 191, []⟩
    let s : Assembly → HoldTimer → State := fun a x =>
      let s := granted .d (.readTable a) (waits .adapter i bench)
      { s with arbiter := { s.arbiter with hold := x } }
    let b := Assembly.visits bench 36 a
    (∀ a x, (s a x).arbiter.holder = some (Port.client .adapter, .readTable a) ∧ ((s a x).port .adapter).slot = .pending i
      ∧ (s a x).arbiter.hold = x) ∧ (TableOp.readTable a).assembly = some a ∧ a.last ≤ 191
      ∧ a.placed.length < 10 ∧ b.placed.length = 9 ∧ (∀ x ∈ b.placed, x.1 < b.next) ∧ b.placed.getLast?.map (·.1) = some 26
      ∧ (granted .w .publish (s a (.running 0))).arbiter.holder = some (.w, .publish) ∧ TableOp.publish.assembly = none
      ∧ (granted .w .publish (s a (.running 0))).arbiter.hold = .running 0 :=
  ⟨fun _ _ => ⟨rfl, rfl, rfl⟩, by decide +kernel⟩

/-- Priorities of 3 and 4, and hold times of 0 and 1; and ENGINE waiting above a block read with a record placed. -/
theorem witness_setArbitration :
    let s := { pressed with arbiter := { pressed.arbiter with waiting := ⟨some .commit, none, none, none⟩ } }
    let a : Arbiter := { s.arbiter with priority := ⟨3, 2, 1, 0⟩, preemption := true, holdTime := 0 }
    (bench.canSend .workstation ∧ s.canSend .workstation) ∧ 3 < (4 : Byte).toNat ∧ 1 < (2 : Byte).toNat
      ∧ ¬(3 < (3 : Byte).toNat ∨ 1 < (1 : Byte).toNat) ∧ (1 : Byte) ≠ 0 ∧ a.pressed = true ∧ a.hold = .stopped
      ∧ s.arbiter.holder = some (Port.client .adapter, .readTable ⟨.full, 3, 191, [(2, [7])]⟩)
      ∧ (s.port .adapter).slot = .pending (.readTable .adapter 7 0 192) ∧ a.waiting.get .engine = some .commit
      ∧ a.next .engine := by
  refine ⟨⟨⟨?_, ?_⟩, ⟨?_, ?_⟩⟩, ?_, ?_, ?_, ?_, ?_, ?_, ?_, ?_, ?_, fun o => ?_⟩
  all_goals first | decide +kernel | (cases o <;> decide +kernel)

/-- A reference check of (0, 1) in COMMIT under the grant, over the baseline of 120213. -/
theorem witness_commit :
    let r := { search 7 0 1 with job := { job 7 0 1 .urgent with work := .referenceCheck 0 1, submitter := .p } }
    let p := StagedPart.converged 120262 1638 1 1 0
    let s := granted .engine .commit { mapped with
      engine := { Engine.reset with state := .commit, active := some r, staging := some (.converged, p) } }
    0 < 16 ∧ 1 < 12 ∧ s.engine.state = .commit ∧ s.arbiter.holder = some (.engine, .commit) ∧ s.engine.active = some r
      ∧ s.engine.staging = some (.converged, p) ∧ r.job.work = .referenceCheck 0 1 ∧ s.engine.clearPending = false
      ∧ (s.port (Submitter.port r.job.submitter)).completions.length < 8 ∧ s.store.profile.driftLimit < (120262 - 120213)
      ∧ (s.port .adapter).attached = true := by
  decide +kernel

/-- The same commit with the resets of Port W and of Port P waiting. -/
theorem witness_commit_cleared :
    let s := waits .positioner (.resetPort .positioner 8 1) (waits .workstation (.resetPort .workstation 7 1) mapped)
    let s := { s with engine := { s.engine with clearPending := true, resetReplies := [⟨.workstation, .positioner, 0, 1⟩, ⟨.positioner, .positioner, 0, 0⟩] } }
    s.engine.clearPending = true
      ∧ (∀ x ∈ s.engine.resetReplies, ∀ y ∈ s.engine.resetReplies, y.port = x.port → y = x)
      ∧ (s.port .workstation).slot = .pending (.resetPort .workstation 7 1)
      ∧ (s.port .positioner).slot = .pending (.resetPort .positioner 8 1) := by decide +kernel

theorem witness_groupEndPublish :
    let s := granted .engine .groupPublish { mapped with
      engine := { Engine.reset with state := .publish, publishing := some 1, faultPending := true }
      jobs := { mapped.jobs with groups := [⟨1, .w, 0, true, false, true⟩] } }
    s.engine.state = .publish ∧ s.arbiter.holder = some (.engine, .groupPublish) ∧ s.engine.publishing = some 1
      ∧ s.engine.faultPending = true ∧ (s.port .adapter).attached = true := by decide +kernel

/-! ### Witnesses: the Profile Store -/

/-- Slots 3 and 4, a parameter that exists and one that does not, and a store and an engine that are busy, idle or empty. -/
theorem witness_storeRequests :
    let n := { bench with store := { bench.store with state := .noProfile } }
    (bench.canSend .workstation ∧ held.canSend .workstation ∧ n.canSend .workstation)
      ∧ 3 < (4 : Byte).toNat ∧ (3 : Byte).toNat ≤ 3 ∧ held.engine.state ≠ .idle ∧ bench.engine.state = .idle
      ∧ bench.jobs.queue = [] ∧ bench.stack = [] ∧ bench.store.state = .ready ∧ n.store.state = .noProfile
      ∧ paramArg 31 0 = none ∧ paramArg 27 1 = none ∧ (paramArg 29 11).isSome = true := by
  refine ⟨⟨⟨?_, ?_⟩, ⟨?_, ?_⟩, ⟨?_, ?_⟩⟩, ?_⟩ <;> decide +kernel

/-- The numbers at the ends of the clauses, and a travel low of 130000, which the count of 120000 is below. -/
theorem witness_setParameter : bench.canSend .workstation ∧ bench.store.state = .ready ∧ bench.engine.state = .idle
    ∧ bench.jobs.queue = [] ∧ bench.stack = [] ∧ bench.arbiter.holder = none ∧ paramArg 1 0 = some (1, 0)
    ∧ paramArg 4 0 = some (4, 0) ∧ paramArg 23 0 = some (23, 0) ∧ paramArg 24 0 = some (24, 0) ∧ paramArg 25 0 = some (25, 0)
    ∧ paramArg 27 0 = some (27, 0) ∧ paramArg 30 0 = some (30, 0) ∧ paramArg 29 11 = some (29, 11)
    ∧ 29 ∈ [1, 2, 3, 28, 29] ∧ (∀ m ∈ [1, 2, 3, 24, 25, 28, 29], 4 ≠ m) ∧ (∀ m ∈ [1, 2, 3, 24, 25, 28, 29], 30 ≠ m)
    ∧ bench.store.slot.isSome = true ∧ bench.frame.travel = .inside ∧ bench.frame.count < 130000
    ∧ (bench.port .positioner).attached = true := by
  refine ⟨⟨?_, ?_⟩, ?_⟩ <;> decide +kernel

theorem witness_profile_sound : bench.store.profile.sound := by
  refine ⟨?_, ?_⟩ <;> decide +kernel

/-- Parameters 1 and 30 and index 11, and 0, 31 and index 12. -/
theorem witness_readParameter :
    let l := { bench with store := { bench.store with state := .loading none } }
    let n := { bench with store := { bench.store with state := .noProfile } }
    (bench.canSend .workstation ∧ l.canSend .workstation ∧ n.canSend .workstation)
      ∧ (1 ≤ (30 : Byte).toNat ∧ (30 : Byte).toNat ≤ 30 ∧ (0 : Byte).toNat < 1) ∧ (11 : Byte).toNat < 12
      ∧ ¬1 ≤ (0 : Byte).toNat ∧ ¬(31 : Byte).toNat ≤ 30 ∧ ¬(12 : Byte).toNat < 12
      ∧ l.store.state = .loading none ∧ n.store.state = .noProfile ∧ bench.store.state = .ready := by
  refine ⟨⟨⟨?_, ?_⟩, ⟨?_, ?_⟩, ⟨?_, ?_⟩⟩, ?_⟩ <;> decide +kernel

/-- A store that loads slot 3, and one at power-on, a good image and a bad one, with the engine IDLE. -/
theorem witness_storeCompletions_load :
    let s := { bench with store := { bench.store with state := .loading (some 3) } }
    s.store.state = .loading (some 3) ∧ State.reset.store.state = .loading none ∧ goodImage pr.image = true
      ∧ goodImage (List.replicate 256 0) = false ∧ s.engine.state = .idle ∧ s.jobs.queue = [] ∧ s.stack = [] ∧ s.jobs.groups = []
      ∧ s.arbiter.holder = none ∧ (∀ c ∈ Client.order, s.arbiter.waiting.get c = none) ∧ State.reset.store.slot = none
      ∧ State.reset.sample.locked = false ∧ (s.port .workstation).attached = true
      ∧ (State.reset.port .workstation).attached = false := by decide +kernel

/-- A save of slot 3 with the engine IDLE, and held. -/
theorem witness_storeCompletions_save :
    let i := Instr.saveProfile .workstation 7 3
    let s : State → State := fun s => waits .workstation i { s with store := { s.store with state := .saving 3 } }
    (s bench).store.state = .saving 3 ∧ ((s bench).port .workstation).slot = .pending i ∧ (s held).engine.state = .faultHold
      ∧ (s bench).engine.state = .idle ∧ (s bench).jobs.queue = [] ∧ (s bench).stack = [] ∧ (s bench).jobs.groups = []
      ∧ (none : Option (List Byte)) ≠ some (s bench).store.profile.image ∧ ((s bench).port .positioner).attached = true := by
  decide +kernel

/-! ### Witnesses: properties of every step -/

/-- Job 7 in DWELL, with a sample waiting and SAMPLE_TAKE in front of the command queue: every property holds, and the step
answers a next state. -/
theorem witness_kept :
    let s := (dwelling [centred]).push .sampleTake
    s.bounded ∧ s.arbiter.sound ∧ s.arbiter.opsInTable ∧ s.slotsSound ∧ s.offsetsSound ∧ s.engineSound ∧ s.handshakeSound ∧ s.stackSound ∧ s.idsSound
      ∧ s.ranged ∧ s.jobs.queue.Pairwise (fun a b => b.cls.rank ≤ a.cls.rank)
      ∧ step s = .next (after .sampleTake (dwelling [centred])) := by
  refine ⟨⟨?_, ?_, ?_, ?_, fun p => ?_⟩, ⟨fun _ => ⟨rfl, fun c => ?_⟩, ?_⟩, ⟨fun _ h => ?_, fun c _ h => ?_⟩,
    fun p => ?_, .inr ?_, ⟨?_, ?_⟩,
    ⟨⟨⟨_, rfl⟩, rfl⟩, ⟨fun ⟨_, h⟩ => (nomatch h), fun h => (nomatch h)⟩, ⟨rfl, rfl⟩⟩,
    ⟨?_, fun r _ c hc => nomatch hc⟩, ⟨?_, ?_, ?_, ?_, ?_⟩,
    ⟨⟨?_, ?_⟩, ?_, ?_, ⟨?_, ?_, fun n h => ?_, fun m h => ?_, fun m h => ?_⟩, ?_,
      ⟨fun c => ?_, ?_, ?_, ?_⟩, ?_,
      fun p => ⟨?_, ?_, ?_, fun o => ?_, ?_, ?_, ?_, fun c h => ?_⟩⟩, ?_, ?_⟩
  all_goals first
    | (intro _ _ _ h; change (none : Option (Client × TableOp)) = _ at h; cases h)
    | (intro _ h; change HoldTimer.stopped = _ at h; cases h)
    | (change (none : Option (Client × TableOp)) = _ at h; cases h)
    | (change PerClient.get ⟨none, none, none, none⟩ c = _ at h; cases c <;> exact nomatch h)
    | (cases h; decide +kernel)
    | (unfold SamplePath.sound; decide +kernel)
    | (unfold PositionFrame.sound; decide +kernel)
    | (unfold JobQueue.sound; decide +kernel)
    | decide +kernel
    | (cases p <;> decide +kernel)
    | (cases c <;> first | rfl | decide +kernel)
    | (cases p <;> cases o <;> decide +kernel)
    | (cases p <;> exact nomatch h)
    | rfl

theorem witness_statusesKept :
    let s := (dwelling [centred]).push .sampleTake
    s.store.profile.sound ∧ s.engineSound ∧ s.idsSound ∧ s.statusesSound := by
  have statuses : ∀ i, i < 192 → (((dwelling [centred]).statuses[i]?).getD .idle = .queued ↔ False)
      ∧ (((dwelling [centred]).statuses[i]?).getD .idle = .measuring ↔ i = 38)
      ∧ (((dwelling [centred]).statuses[i]?).getD .idle = .suspended ↔ False) := by decide +kernel
  refine ⟨witness_profile_sound, ⟨?_, ?_⟩, ⟨?_, ?_, ?_, ?_, ?_⟩, ?_, ?_, fun z h => (nomatch h), fun i hi => ⟨?_, ?_, ?_⟩⟩
  any_goals decide +kernel
  · intro j hj h z e
    obtain rfl : j = (search 7 3 2).job := by
      simpa [State.heldJobs, State.push, dwelling, working, bench, State.reset, JobQueue.reset] using hj
    cases e
    decide
  · exact (statuses i hi).1.trans ⟨False.elim, fun ⟨_, h, _⟩ => nomatch h⟩
  · exact (statuses i hi).2.1.trans ⟨fun h => ⟨_, rfl, by subst h; rfl⟩, fun ⟨r, h, e⟩ => by cases h; cases e; rfl⟩
  · exact (statuses i hi).2.2.trans ⟨False.elim, fun ⟨_, h, _⟩ => nomatch h⟩

/-! ### Worked cases of the manual -/

/-- Cases 1 to 4 and 9 of section 3.7. -/
theorem test_classify_accepted : classify 64 18400 ⟨true, true, 18400, 2900, 1100, 0, 0⟩ = .accepted 921
    ∧ classify 64 18400 ⟨true, true, 18400, 3600, 400, 1500, 2300⟩ = .accepted 1617
    ∧ classify 64 18400 ⟨true, true, 18402, 500, 3500, 2600, 1400⟩ = .accepted 6758
    ∧ classify 64 18400 ⟨true, true, 18399, 1000, 1000, 0, 0⟩ = .accepted (-4096)
    ∧ classify 64 18400 ⟨true, true, 18400, 0, 900, 700, 700⟩ = .accepted (-2048) := by decide +kernel

/-- Cases 5 to 8, 10 and 11 of section 3.7. -/
theorem test_classify_rejected : classify 64 18400 ⟨true, true, 18408, 2000, 2000, 0, 0⟩ = .far
    ∧ classify 64 18400 ⟨true, false, 0, 40, 20, 0, 0⟩ = .dropout
    ∧ classify 64 18400 ⟨true, false, 0, 2200, 1800, 0, 0⟩ = .noTid
    ∧ classify 64 18400 ⟨true, true, 18400, 3000, 0, 30, 20⟩ = .dropout
    ∧ classify 64 3 ⟨true, true, 65534, 2000, 2000, 0, 0⟩ = .accepted (-20480)
    ∧ classify 64 3 ⟨false, true, 3, 2000, 2000, 0, 0⟩ = .noSync := by decide +kernel

/-- The dwell means, the gain and the first estimate of section 2.7. -/
theorem test_search_worked : dwellMean (-40452) 16 = -2528 ∧ dwellMean (-36350) 16 = -2272 ∧ dwellMean 37 16 = 2
    ∧ gain256 (-2528) (-2272) 120000 120040 = 1638 ∧ pr.stepPosition 120000 = 120040
    ∧ pr.estimate 120000 120040 (-2272) 1638 = (120395, none) := by decide +kernel

/-- The variant of section 2.7: both estimates are clamped to the lower bound of the window. -/
theorem test_search_variant : pr.estimate 120000 120040 20256 1638 = (119488, some .low)
    ∧ pr.estimate 120000 119488 16725 1638 = (119488, some .low) := by decide +kernel

/-- The offsets of R15 and of section 12.6. -/
theorem test_offsets : offsetOf (-5) 0 8192 = -3 ∧ offsetOf 5 0 8192 = 3 ∧ offsetOf 1 0 8192 = 1 ∧ offsetOf 217 0 768 = 1157
    ∧ offsetOf 6000 0 640 = 32767 ∧ offsetOf (-9000) 0 1024 = -32767 ∧ offsetOf 120431 120213 640 = 1395
    ∧ offsetOf 99871 100130 640 = -1658 := by decide +kernel

/-- The filter of section 4.7, started at its count of 100. -/
def filtered (l : List (Bool × Bool)) : PositionFrame :=
  (l.foldl (fun s x => after (.filterSample x.1 x.2 false false) s)
    { held with frame := { held.frame with count := 100, travel := .below } }).frame

theorem test_filter_worked :
    let l := [(true, false), (true, false), (true, true), (false, true), (true, true), (false, false), (false, false)]
    (filtered (l.take 1)).count = 100 ∧ (filtered (l.take 2)).count = 101 ∧ (filtered (l.take 4)).count = 102
      ∧ (filtered (l.take 6)).encA = ⟨true, 1⟩ ∧ (filtered l).count = 102 ∧ (filtered l).errors = 1
      ∧ (filtered l).encB = ⟨false, 0⟩ := by decide +kernel

/-- Sections 12.2 and 6.2: the sweep of four heads and three zones from an empty queue is group 1 with jobs 1 to 12. -/
theorem test_sweep_worked :
    payloadAt .workstation (after (.submitSweep .workstation 5 0 3 0 2 0 1) held) = some [1, 1, 1, 1, 1, 12, 12, 0] := by
  decide +kernel

/-- Section 12.6: zone 1 after the publish, which answers generation 1, published 1, discarded 0 and unreferenced 2. -/
theorem test_publish_worked :
    let i := Instr.publish .workstation 7
    let t := after .tableOperationEnd (after i mapped)
    ((t.entry 1 1).published.bind PublishedPart.offset) = some 1395 ∧ (t.entry 1 1).staged = none
      ∧ ((t.entry 0 1).published.bind PublishedPart.offset) = some 0
      ∧ payloadAt .workstation t = some [1, 0, 1, 0, 2] := by decide +kernel

/-- Section 12.7: the first ten of the twelve deliverable records, and the cursor at index 37. -/
theorem test_readTable_worked :
    let t := after .blockReadAssembly (after (.readTable .adapter 5 0 192) bench)
    ((t.port .adapter).cursor) = some ⟨37, 191⟩ ∧ (payloadAt .adapter t).map (·.take 1) = some [0] := by decide +kernel

/-- Section 12.7: READ NEXT delivers indices 37 and 38 and ends the cursor. -/
theorem test_readNext_worked :
    let t := after .blockReadAssembly (after (.readNext .adapter 5) (bench.setCursor .adapter (some ⟨37, 191⟩)))
    (t.port .adapter).cursor = none ∧ (match (t.port .adapter).slot with
      | .ready r => some (r.records, r.more)
      | .pending _ => none
      | .empty => none) = some (2, false) := by decide +kernel

/-- Section 8.6: a block read cut after seven records keeps the rest for READ NEXT. -/
theorem test_holdTimer_worked :
    let s := after (.readTable .adapter 5 0 192) bench
    let op := TableOp.readTable ⟨.full, 0, 191, []⟩
    let t := after (.holdTimerExpiry 25) { s with arbiter := { s.arbiter with holder := some (.d, op), hold := .running 0 } }
    (t.port .adapter).cursor = some ⟨25, 191⟩ ∧ (match (t.port .adapter).slot with
      | .ready r => some (r.records, r.preempted, r.more)
      | .pending _ => none
      | .empty => none) = some (7, true, true) := by decide +kernel

/-- R162: an expiry before the first record leaves the timer at 0, and the response is that record alone, with PREEMPTED. -/
theorem test_holdTimer_first :
    let s := after (.readTable .adapter 5 0 192) bench
    let s := after (.holdTimerExpiry 0) { s with arbiter := { s.arbiter with hold := .running 0 } }
    let t := after .blockReadAssembly s
    s.arbiter.hold = .expired ∧ (t.port .adapter).cursor = some ⟨1, 191⟩ ∧ (match (t.port .adapter).slot with
      | .ready r => some (r.records, r.preempted, r.more)
      | .pending _ => none
      | .empty => none) = some (1, true, true) := by decide +kernel

/-- R165: a record placed while its entry is QUEUED keeps that status in the response. -/
theorem test_recordAt_placing :
    let s := setStatus (.measure 0 0) .queued bench
    let op := TableOp.readTable (Assembly.visits s 1 ⟨.full, 0, 191, []⟩)
    let t := after .blockReadAssembly (granted .d op (waits .adapter (.readTable .adapter 5 0 192) bench))
    (payloadAt .adapter t).map (·.take (3 * (s.recordAt 0).length)) = some (s.recordAt 0 ++ bench.recordAt 1 ++ bench.recordAt 2)
      ∧ s.recordAt 0 ≠ bench.recordAt 0 := by decide +kernel

/-- R194: a reset of the sending port that waited for a commit is answered with a dropped-request count of 0. -/
theorem test_resets_answered :
    let r := search 7 3 2
    let s := granted .engine .commit { bench with
      engine := { Engine.reset with state := .commit, active := some r, staging := some (.tooNoisy, .suspect .tooNoisy none none none 0 7) } }
    let s := after (.resetPort .workstation 1 0) s
    let s := after (.attach .workstation 2) (after (.responseRead .workstation 9) s)
    let t := after .commit s
    (s.port .workstation).slot = .pending (.resetPort .workstation 1 0) ∧ (s.port .workstation).dropped = 1
      ∧ (t.port .workstation).dropped = 0 ∧ (match (t.port .workstation).slot with
        | .ready r => some r.dropped
        | .pending _ => none
        | .empty => none) = some 0
      ∧ payloadAt .workstation t = some [0, 0, 1, 14] ∧ t.engine.resetReplies = [] ∧ t.engine.state = .idle := by decide +kernel

/-- R162, R163: a hold time of 0 cuts the block read after its one record, and the grant passes on. -/
theorem test_setArbitration_cut :
    let s := { pressed with arbiter := { pressed.arbiter with waiting := ⟨some .commit, none, none, none⟩ } }
    let t := after (.setArbitration .workstation 1 3 2 1 0 1 0) s
    t.arbiter.holder = some (.engine, .commit) ∧ (t.port .adapter).cursor = some ⟨3, 191⟩
      ∧ (match (t.port .adapter).slot with
        | .ready r => some (r.records, r.preempted, r.more, r.payload)
        | .pending _ => none
        | .empty => none) = some (1, true, true, [7]) := by decide +kernel

/-- R185: a response without payload in a period of eight bytes, and in one of four. -/
theorem test_sdo :
    let s := reply .adapter 9 [] bench
    s.sdo .adapter 8 = [6, 0, 9, 0, 0, 0, 0, 0] ∧ s.sdo .adapter 4 = [6, 0, 9, 0] ∧ bench.sdo .adapter 2 = [0, 0] := by
  decide +kernel

/-- Section 5.7: HEAD SELECTED (0, 5) while DELAY reissues request 18 as 19. -/
theorem test_headSelected_worked :
    let t := after (.headSelected .adapter 1 0 5) (working .headWait none (some .delay))
    t.handshake.head = some ⟨.requested, 19, 3, 7⟩ ∧ t.handshake.lastHeadEnd = some (.reissued, 18)
      ∧ t.handshake.headTimeout = .running 500000 ∧ t.handshake.selected = some 5 := by decide +kernel

/-- Section 5.7: the move timeout of a TAKEN move ends both handshakes and posts WITHDRAWN to both ports. -/
theorem test_moveTimeout_worked :
    let t := after .moveTimeoutExpiry (working .moveWait (some .taken) (some .ready))
    t.handshake.lastMoveEnd = some (.timedOut, 41) ∧ t.handshake.lastHeadEnd = some (.withdrawn (.ended .moveTimeout), 18)
      ∧ (t.port .positioner).notices.details.withdrawn = some (.withdrawn 41 (.ended .moveTimeout))
      ∧ (t.port .adapter).notices.details.withdrawn = some (.withdrawn 18 (.ended .moveTimeout))
      ∧ (t.port .workstation).completions.map CompletionRecord.outcome = [.moveTimeout] ∧ t.engine.state = .idle := by
  decide +kernel

/-- Section 5.7: a stale sequence moves the selected head and is refused. -/
theorem test_headSelected_stale :
    let t := after (.headSelected .adapter 1 17 5) (working .headWait none (some .taken))
    statusAt .adapter t = some .staleSequence ∧ t.handshake.head = some ⟨.taken, 18, 3, 7⟩ ∧ t.handshake.selected = some 5 := by
  decide +kernel

/-- Section 9.7: in PULSE mode with tracking on and base code 3 the greater source is taken first, with code 51. -/
theorem test_takeNotice_worked :
    let u := { (bench.port .workstation).notices with mode := .pulse, tracking := true, baseCode := 3 }
    let s := post .published (.published 9 3 0 0) .workstation (bench.setNotices .workstation u)
    let s := post .drift (.drift 2 61) .workstation s
    let t := after (.takeNotice .workstation 1) s
    (s.port .workstation).notices.pulse = .pulsing 2 false
      ∧ (payloadAt .workstation t).map (fun l => (l.take 4, l.drop 6)) = some ([51, 2, 61, 0], [1, 0])
      ∧ t.hasEligible .workstation = false ∧ (t.port .workstation).notices.inService.drift = true := by decide +kernel

/-- Section 4.8: a count 11 away while the move is SETTLED loses the settle test, and the engine leaves its dwell. -/
theorem test_settleLoss_worked :
    let s := dwelling [centred]
    let s := { s with frame := { s.frame with filterLength := 1, count := 119992, encA := ⟨false, 0⟩ } }
    let t := after (.filterSample false true false false) s
    t.frame.count = 119991 ∧ t.frame.settle = .outside ∧ t.engine.state = .settling ∧ t.sample.fifo = []
      ∧ t.handshake.move.map MoveRequest.phase = some .done ∧ t.handshake.moveTimeout = .running 5000 := by decide +kernel

/-- Section 11.4: a bad slot 2 at power-on leaves both owed marks, and the ATTACH of Port W posts its notice. -/
theorem test_powerOn_worked :
    let s := after (.profileLoadComplete (some 2) (some (List.replicate 256 0))) State.reset
    let t := after (.attach .workstation 1) s
    s.store.state = .noProfile ∧ s.store.owedW = some 2 ∧ s.store.owedP = some 2 ∧ t.store.owedW = none
      ∧ (t.port .workstation).notices.details.fault = some (.profile 2) ∧ t.attn .workstation = false := by decide +kernel

/-- Section 11.4: a reference head above the head count is clamped, and one clamp is reported. -/
theorem test_selectProfile_worked :
    let image := { pr with headCount := 8, referenceHead := 9 }.image
    let s := after (.selectProfile .workstation 4 1) bench
    let t := after .tableOperationEnd (after (.profileLoadComplete none (some image)) s)
    t.store.profile.referenceHead = 7 ∧ t.store.slot = some 1 ∧ payloadAt .workstation t = some [0, 1, 1] := by
  decide +kernel

/-- R61: the eighth missed arrival in a row loses the servo, and a good record numbers on. -/
theorem test_wedge_lost :
    let s := { bench with sample := { bench.sample with missedRun := 7, wedge := 239 } }
    (after .wedgeWindowExpiry s).sample.locked = false ∧ (after .wedgeWindowExpiry s).sample.wedge = 0
      ∧ (after .wedgeWindowExpiry s).sample.revolutions = 1 ∧ (after (.wedgeRecord centred) s).sample.locked = true := by
  decide +kernel

/-- Section 8.1: the grant passes to the waiting engine when a publish ends. -/
theorem test_grant_passes :
    let s := granted .w .publish (waits .workstation (.publish .workstation 7) bench)
    let s := { s with arbiter := { s.arbiter with waiting := ⟨some .e0LookUp, none, some (.readNext ⟨.full, 0, 191, []⟩), none⟩ } }
    (after .tableOperationEnd s).arbiter.holder = some (.engine, .e0LookUp) := by decide +kernel

/-- R193: base 7 with size 4 is stored as base 4. -/
theorem test_setWindow_worked :
    ((after (.setWindow .workstation 1 2 7 4) bench).port .adapter).window = ⟨4, 4⟩ := by decide +kernel

/-- R203: a travel low of +8,388,607 is stored as +8,388,606, and travel high follows it. -/
theorem test_setParameter_travel :
    let t := after (.setParameter .workstation 1 24 0 8388607) bench
    t.store.profile.travelLow = 8388606 ∧ t.store.profile.travelHigh = 8388607 ∧ t.frame.travel = .below := by decide +kernel

/-- R91: a count that leaves travel ends the job TRAVEL_LIMIT and holds the engine. -/
theorem test_travelFault :
    let s := working .moveWait (some .taken) (some .ready)
    let s := { s with frame := { s.frame with filterLength := 1, count := 200000 } }
    let t := after (.filterSample true false false false) s
    t.frame.count = 200001 ∧ t.frame.travel = .above ∧ t.engine.state = .faultHold
      ∧ (t.port .workstation).completions.map CompletionRecord.outcome = [.travelLimit] := by decide +kernel

/-- R187, R196: a dropped request is reported once, in the next response read. -/
theorem test_dropped_reported :
    let s := after (.droppedRequest .adapter) (after (.identify .adapter 9) bench)
    (s.port .adapter).dropped = 1
      ∧ ((after (.identify .adapter 9) (after (.responseRead .adapter 246) s)).port .adapter).dropped = 1 := by decide +kernel

/-- A step with no command lets 1 µs pass; with the window at 0 its expiry is put in front (log entry 3). -/
theorem test_step_idle : (match step bench with
    | .next t => t.sample.window
    | .fault _ => .stopped
    | .refused _ => .stopped) = .running 99 := by decide +kernel

end Sys2Proof.Tests
end

section
/-! SUPPORT. What the internal operations of the part can change, said once. Every operation on jobs, handshakes, notices and timers is
a run of a few kinds of small changes, each of which leaves the profile store, the table, the response slots and the ports' own
requests for the grant to themselves. Invariants and frames are proved of the small changes and read off for every operation. -/

namespace Sys2Proof.Machine

/-! ### The small changes -/

/-- The part of the state that says which jobs stand where (R2, R121): the entry statuses, the queue, the groups, the zone that waits
for an automatic check, the engine state, the active job and the stacked jobs. -/
structure Work where
  statuses : Vector EntryStatus 192
  queue : List JobRecord
  groups : List Group
  zone : Option Nat
  state : EngineState
  active : Option JobRecord
  stack : List JobRecord

/-- Which jobs stand where in a state. -/
def State.work (s : State) : Work :=
  ⟨s.statuses, s.jobs.queue, s.jobs.groups, s.jobs.pendingZone, s.engine.state, s.engine.active.map SearchRecord.job,
   s.stack.map SearchRecord.job⟩

/-- What a run of small changes may reach beside handshakes, timers, merge counts, pulses and the engine's own requests for the grant:
jobs and where they stand; the completion list of a port; the details of all notices, not only of WITHDRAWN and QUEUE_SPACE; the
settings of a port; the Sample Path beyond its FIFO; the Position Frame beyond home capture and settle test; the selected head. -/
structure Scope where
  jobs : Bool := false
  lists : Port → Bool := fun _ => false
  details : Bool := false
  ports : Port → Bool := fun _ => false
  sample : Bool := false
  frame : Bool := false
  selected : Bool := false

/-- What a small change leaves of a port's record. -/
structure LinkPort.Keeps (c : Scope) (p : Port) (l x : LinkPort) : Prop where
  slot : x.slot = l.slot
  cursor : x.cursor = l.cursor
  sound : l.sound → x.sound
  standing : c.ports p = false → x.standing = l.standing
  closed : c.ports p = false → l.attached = false → x.notices = l.notices
  list : c.lists p = false → x.completions = l.completions ∧ x.overflow = l.overflow
  details : c.details = false → ∀ src, src ≠ .withdrawn → src ≠ .queueSpace →
    x.notices.details.get src = l.notices.details.get src

/-- The Position Frame without home capture and settle test. -/
def PositionFrame.still (f : PositionFrame) : PositionFrame := { f with home := .idle, settle := .none, settleTimer := .stopped }

/-- The Sample Path without its FIFO. -/
def SamplePath.still (sp : SamplePath) : SamplePath := { sp with fifo := [] }

/-- The engine's own operations under the grant. -/
def TableOp.isEngine : TableOp → Bool
  | .e0LookUp => true
  | .commit => true
  | .groupPublish => true
  | _ => false

/-- One small change. -/
inductive Move (c : Scope) (s : State) : State → Prop
  | port (p : Port) (x : LinkPort) (h : LinkPort.Keeps c p (s.port p) x) : Move c s (s.setPort p x)
  | work (v : Vector EntryStatus 192) (e : Engine) (q : JobQueue) (l : List SearchRecord)
      (hr : e.resetReplies = s.engine.resetReplies) (hs : s.store.profile.sound → s.jobs.sound → q.sound)
      (hw : c.jobs = false → ({ s with statuses := v, engine := e, jobs := q, stack := l } : State).work = s.work) :
      Move c s { s with statuses := v, engine := e, jobs := q, stack := l }
  | handshake (h : HandshakeUnit) (hs : s.handshake.sound → h.sound)
      (hc : c.selected = false → h.selected = s.handshake.selected) : Move c s (s.setHandshake h)
  | sample (sp : SamplePath) (hs : s.store.profile.sound → s.sample.sound → sp.sound)
      (hc : c.sample = false → sp.still = s.sample.still) : Move c s (s.setSample sp)
  | frame (f : PositionFrame) (hs : s.store.profile.sound → s.frame.sound → f.sound)
      (hc : c.frame = false → f.still = s.frame.still) : Move c s (s.setFrame f)
  | ask (op : TableOp) (h : op.isEngine = true) : Move c s (askGrant .engine op s)
  | withdraw : Move c s (withdrawAsk .engine s)
  | release (op : TableOp) (h : s.arbiter.holder = some (.engine, op)) : Move c s (release s)

/-- A run of small changes. -/
def Moves (c : Scope) : State → State → Prop := Relation.ReflTransGen (Move c)

namespace Moves

variable {c : Scope} {s t u : State}

theorem refl (s : State) : Moves c s s := Relation.ReflTransGen.refl

theorem trans (h : Moves c s t) (h' : Moves c t u) : Moves c s u := Relation.ReflTransGen.trans h h'

/-- A run and one before it, the later first: so read, the operation that ends a composition says what comes before it. -/
theorem after (h' : Moves c t u) (h : Moves c s t) : Moves c s u := h.trans h'

theorem single (h : Move c s t) : Moves c s t := Relation.ReflTransGen.single h

/-- A value that every small change keeps is kept by a run of them. -/
theorem keeps {α : Type} (f : State → α) (hf : ∀ s t, Move c s t → f t = f s) (h : Moves c s t) : f t = f s := by
  induction h with
  | refl => rfl
  | tail _ hm ih => exact (hf _ _ hm).trans ih

/-- A property that every small change keeps is kept by a run of them. -/
theorem maintains {P : State → Prop} (hP : ∀ s t, Move c s t → P s → P t) (h : Moves c s t) (hs : P s) : P t := by
  induction h with
  | refl => exact hs
  | tail _ hm ih => exact hP _ _ hm ih

end Moves

/-! ### What every run keeps -/

theorem Move.store {c : Scope} {s t : State} (h : Move c s t) : t.store = s.store := by
  cases h with
  | ask op _ => exact State.store_of_kept (askGrant_kept .engine op s)
  | release => exact State.store_of_kept (release_kept s)
  | _ => rfl

theorem Move.table {c : Scope} {s t : State} (h : Move c s t) : t.table = s.table := by
  cases h with
  | ask op _ => exact State.table_of_kept (askGrant_kept .engine op s)
  | release => exact State.table_of_kept (release_kept s)
  | _ => rfl

theorem Move.pending {c : Scope} {s t : State} (h : Move c s t) : t.pending = s.pending := by
  cases h with
  | ask op _ => exact State.pending_of_kept (askGrant_kept .engine op s)
  | release => exact State.pending_of_kept (release_kept s)
  | _ => rfl

theorem Moves.store {c : Scope} {s t : State} (h : Moves c s t) : t.store = s.store := h.keeps State.store fun _ _ => Move.store

theorem Moves.table {c : Scope} {s t : State} (h : Moves c s t) : t.table = s.table := h.keeps State.table fun _ _ => Move.table

theorem Moves.pending {c : Scope} {s t : State} (h : Moves c s t) : t.pending = s.pending :=
  h.keeps State.pending fun _ _ => Move.pending

end Sys2Proof.Machine
end

section
/-! SUPPORT. What the operations of the Table Arbiter do to the grant, the waiting set, the hold timer and the response slots, said
once (R156 to R170): a release passes the grant on, an asking joins the waiting set, and an expiry under which records are placed
answers the port whose block read it cuts. -/

namespace Sys2Proof.Machine

/-! ### What they leave aside -/

/-- The state without the arbiter, the response slots and the cursors. -/
def State.aside (s : State) : State :=
  { s with
    arbiter := .reset
    ports := ⟨{ s.ports.w with slot := .empty, cursor := none }, { s.ports.p with slot := .empty, cursor := none },
      { s.ports.d with slot := .empty, cursor := none }⟩ }

theorem State.aside_setPort {s : State} {p : Port} {x : LinkPort}
    (h : ({ x with slot := .empty, cursor := none } : LinkPort) = { s.port p with slot := .empty, cursor := none }) :
    (s.setPort p x).aside = s.aside := by
  cases p <;> simp_all [State.aside, State.setPort, PerPort.set, State.port, PerPort.get]

@[simp] theorem setArbiter_aside (s : State) (a : Arbiter) : (s.setArbiter a).aside = s.aside := rfl

@[simp] theorem setSlot_aside (s : State) (p : Port) (x : Slot) : (s.setSlot p x).aside = s.aside := State.aside_setPort rfl

@[simp] theorem setCursor_aside (s : State) (p : Port) (x : Option Cursor) : (s.setCursor p x).aside = s.aside :=
  State.aside_setPort rfl

@[simp] theorem answer_aside (p : Port) (tag : Byte) (a : Answer) (s : State) : (answer p tag a s).aside = s.aside := by
  simp [answer]

@[simp] theorem answerPending_aside (p : Port) (a : Answer) (s : State) : (answerPending p a s).aside = s.aside := by
  unfold answerPending
  split <;> simp

@[simp] theorem grant_aside (c : Client) (op : TableOp) (s : State) : (grant c op s).aside = s.aside := rfl

@[simp] theorem release_aside (s : State) : (release s).aside = s.aside := by
  obtain ⟨a, h⟩ := release_setArbiter s
  rw [h, setArbiter_aside]

@[simp] theorem finishBlockRead_aside (p : Port) (a : Assembly) (cut : Bool) (s : State) :
    (finishBlockRead p a cut s).aside = s.aside := by
  simp [finishBlockRead]

@[simp] theorem expireHold_aside (s : State) : (expireHold s).aside = s.aside := by
  unfold expireHold
  split
  · split <;> simp
  · rfl

@[simp] theorem completeAssembly_aside (s : State) : (completeAssembly s).aside = s.aside := by
  unfold completeAssembly
  split <;> simp

@[simp] theorem startHold_aside (s : State) : (startHold s).aside = s.aside := by
  unfold startHold
  split <;> simp

@[simp] theorem askGrant_aside (c : Client) (op : TableOp) (s : State) : (askGrant c op s).aside = s.aside := by
  unfold askGrant
  split
  · rfl
  · dsimp only
    split <;> simp

@[simp] theorem withdrawAsk_aside (c : Client) (s : State) : (withdrawAsk c s).aside = s.aside := rfl

@[simp] theorem proceed_aside (n : Nat) (s : State) : (proceed n s).aside = s.aside := by
  obtain ⟨h, e⟩ := proceed_setArbiter n s
  rw [e, setArbiter_aside]

theorem LinkPort.eq_of_bare {l m : LinkPort}
    (h : ({ l with slot := .empty, cursor := none } : LinkPort) = { m with slot := .empty, cursor := none }) :
    l = { m with slot := l.slot, cursor := l.cursor } := by
  cases l
  cases m
  simp_all

theorem State.port_of_aside {s t : State} (h : t.aside = s.aside) (p : Port) :
    t.port p = { s.port p with slot := (t.port p).slot, cursor := (t.port p).cursor } := by
  have hp := congrArg (fun x => x.port p) h
  apply LinkPort.eq_of_bare
  cases p <;> exact hp

theorem State.statuses_of_aside {s t : State} (h : t.aside = s.aside) : t.statuses = s.statuses := by
  have := congrArg State.statuses h
  exact this

theorem State.engine_of_aside {s t : State} (h : t.aside = s.aside) : t.engine = s.engine := by
  have := congrArg State.engine h
  exact this

theorem State.jobs_of_aside {s t : State} (h : t.aside = s.aside) : t.jobs = s.jobs := by
  have := congrArg State.jobs h
  exact this

theorem State.stack_of_aside {s t : State} (h : t.aside = s.aside) : t.stack = s.stack := by
  have := congrArg State.stack h
  exact this

theorem State.handshake_of_aside {s t : State} (h : t.aside = s.aside) : t.handshake = s.handshake := by
  have := congrArg State.handshake h
  exact this

theorem State.sample_of_aside {s t : State} (h : t.aside = s.aside) : t.sample = s.sample := by
  have := congrArg State.sample h
  exact this

theorem State.frame_of_aside {s t : State} (h : t.aside = s.aside) : t.frame = s.frame := by
  have := congrArg State.frame h
  exact this

theorem State.store_of_aside {s t : State} (h : t.aside = s.aside) : t.store = s.store := by
  have := congrArg State.store h
  exact this

theorem State.table_of_aside {s t : State} (h : t.aside = s.aside) : t.table = s.table := by
  have := congrArg State.table h
  exact this

theorem State.pending_of_aside {s t : State} (h : t.aside = s.aside) : t.pending = s.pending := by
  have := congrArg State.pending h
  exact this

theorem State.work_of_aside {s t : State} (h : t.aside = s.aside) : t.work = s.work := by
  simp only [State.work, State.statuses_of_aside h, State.engine_of_aside h, State.jobs_of_aside h, State.stack_of_aside h]

/-! ### Release, asking and cutting by cases -/

theorem State.assembling_eq_some {s : State} {p : Port} {op : TableOp} {a : Assembly} :
    s.assembling = some (p, op, a) ↔ s.arbiter.holder = some (Port.client p, op) ∧ op.assembly = some a := by
  unfold State.assembling
  cases hh : s.arbiter.holder with
  | none => simp
  | some h =>
    obtain ⟨c, o⟩ := h
    cases c <;> cases p <;> cases ho : o.assembly <;> simp_all [Client.port, Port.client] <;> grind

/-- A release grants a waiter, or leaves no holder (R158, R159). -/
theorem release_cases (s : State) :
    (∃ c op, s.arbiter.waiting.get c = some op ∧ release s = grant c op s)
      ∨ release s = s.setArbiter { s.arbiter with holder := none, hold := .stopped } := by
  unfold release
  split
  · split
    · exact .inl ⟨_, _, ‹_›, rfl⟩
    · exact .inr rfl
  · exact .inr rfl

/-- With nobody waiting a release leaves the arbiter FREE (R159). -/
theorem release_unwaited {s : State} (h : ∀ c, s.arbiter.waiting.get c = none) :
    release s = s.setArbiter { s.arbiter with holder := none, hold := .stopped } := by
  obtain ⟨c, op, hw, -⟩ | hr := release_cases s
  · rw [h c] at hw
    exact absurd hw (by simp)
  · exact hr

/-- A client joins the waiting set with its operation (R157). -/
def joinWaiting (c : Client) (op : TableOp) (s : State) : State :=
  s.setArbiter { s.arbiter with waiting := s.arbiter.waiting.set c (some op) }

/-- A client that asks is granted, or joins the waiting set, which can start or expire the hold timer, or cuts the block read under
the grant (R157, R161, R162). -/
theorem askGrant_cases (c : Client) (op : TableOp) (s : State) :
    (s.arbiter.holder = none ∧ askGrant c op s = grant c op s)
      ∨ (∃ x, (x = s.arbiter.hold ∨ x = .expired ∨ x = .running (s.arbiter.holdTime * 10))
        ∧ askGrant c op s = s.setArbiter { s.arbiter with waiting := s.arbiter.waiting.set c (some op), hold := x })
      ∨ ∃ p o a, s.assembling = some (p, o, a) ∧ a.placed ≠ [] ∧ askGrant c op s = finishBlockRead p a true (joinWaiting c op s) := by
  unfold askGrant
  split
  · exact .inl ⟨‹_›, rfl⟩
  · refine .inr ?_
    dsimp only
    split
    · unfold startHold
      split
      · unfold expireHold
        split
        · rename_i p o a ha
          split
          · exact .inl ⟨.expired, by simp, rfl⟩
          · exact .inr ⟨p, o, a, ha, ‹_›, rfl⟩
        · exact .inl ⟨.expired, by simp, rfl⟩
      · exact .inl ⟨.running (s.arbiter.holdTime * 10), by simp, rfl⟩
    · exact .inl ⟨s.arbiter.hold, by simp, rfl⟩

/-! ### Settings of the arbiter (R156) -/

/-- The settings of the arbiter. -/
def Arbiter.settings (a : Arbiter) : PerClient Nat × Bool × Nat := (a.priority, a.preemption, a.holdTime)

theorem answerPending_arbiter (p : Port) (a : Answer) (s : State) : (answerPending p a s).arbiter = s.arbiter := by
  unfold answerPending
  split <;> rfl

@[simp] theorem release_settings (s : State) : (release s).arbiter.settings = s.arbiter.settings := by
  obtain ⟨c, op, -, h⟩ | h := release_cases s <;> rw [h] <;> rfl

@[simp] theorem finishBlockRead_settings (p : Port) (a : Assembly) (cut : Bool) (s : State) :
    (finishBlockRead p a cut s).arbiter.settings = s.arbiter.settings := by
  simp [finishBlockRead, answerPending_arbiter]

@[simp] theorem askGrant_settings (c : Client) (op : TableOp) (s : State) :
    (askGrant c op s).arbiter.settings = s.arbiter.settings := by
  obtain ⟨-, h⟩ | ⟨x, -, h⟩ | ⟨p, o, a, -, -, h⟩ := askGrant_cases c op s
  · rw [h]; rfl
  · rw [h]; rfl
  · rw [h, finishBlockRead_settings]; rfl

@[simp] theorem withdrawAsk_settings (c : Client) (s : State) : (withdrawAsk c s).arbiter.settings = s.arbiter.settings := by
  unfold withdrawAsk State.setArbiter
  dsimp only
  split <;> rfl

@[simp] theorem expireHold_settings (s : State) : (expireHold s).arbiter.settings = s.arbiter.settings := by
  unfold expireHold
  split
  · split
    · rfl
    · simp
  · rfl

@[simp] theorem proceed_settings (n : Nat) (s : State) : (proceed n s).arbiter.settings = s.arbiter.settings := by
  obtain ⟨h, e⟩ := proceed_setArbiter n s
  rw [e]
  rfl

@[simp] theorem completeAssembly_settings (s : State) : (completeAssembly s).arbiter.settings = s.arbiter.settings := by
  unfold completeAssembly
  split <;> simp

/-! ### Operations in hand (R157, R186) -/

/-- The operations of a port at the arbiter: under the grant and waiting for it. -/
def State.atTable (s : State) (p : Port) : Nat :=
  (s.arbiter.holder.any fun h => h.1 == Port.client p).toNat + (s.arbiter.waiting.get (Port.client p)).isSome.toNat

/-- The operations of a port that are not at the arbiter: a load or a save, and resets that wait for a commit. -/
def State.apart (s : State) (p : Port) : Nat :=
  (p == .workstation && match s.store.state with
      | .loading (some _) => true
      | .saving _ => true
      | _ => false).toNat
    + (s.engine.resetReplies.filter fun x => x.port == p).length

theorem State.inHand_eq (s : State) (p : Port) : s.inHand p = s.atTable p + s.apart p := by
  exact Nat.add_assoc _ _ _

theorem State.apart_congr {s t : State} (hs : t.store.state = s.store.state) (he : t.engine.resetReplies = s.engine.resetReplies)
    (p : Port) : t.apart p = s.apart p := by
  simp only [State.apart, hs, he]

theorem State.apart_of_aside {s t : State} (h : t.aside = s.aside) (p : Port) : t.apart p = s.apart p :=
  State.apart_congr (by rw [State.store_of_aside h]) (by rw [State.engine_of_aside h]) p

theorem Port.client_injective {p q : Port} : Port.client p = Port.client q ↔ p = q := by
  cases p <;> cases q <;> decide

/-- The grant counts for the client that receives it, whose own waiting request it ends. -/
theorem grant_atTable (c : Client) (op : TableOp) (s : State) (q : Port) :
    (grant c op s).atTable q = if c = Port.client q then 1 else (s.arbiter.waiting.get (Port.client q)).isSome.toNat := by
  by_cases h : c = Port.client q
  · simp [State.atTable, grant, PerClient.get_set, h]
  · simp [State.atTable, grant, PerClient.get_set, h, Ne.symm h]

@[simp] theorem setArbiter_apart (s : State) (a : Arbiter) (q : Port) : (s.setArbiter a).apart q = s.apart q := rfl

@[simp] theorem joinWaiting_apart (c : Client) (op : TableOp) (s : State) (q : Port) : (joinWaiting c op s).apart q = s.apart q := rfl

theorem joinWaiting_atTable_of_ne {c : Client} {op : TableOp} {s : State} {q : Port} (h : c ≠ Port.client q) :
    (joinWaiting c op s).atTable q = s.atTable q := by
  simp [joinWaiting, State.atTable, PerClient.get_set, h.symm]

theorem joinWaiting_atTable_self {op : TableOp} {s : State} {q : Port} (h : s.atTable q = 0) :
    (joinWaiting (Port.client q) op s).atTable q = 1
      ∧ (s.arbiter.holder.any fun x => x.1 == Port.client q).toNat = 0 := by
  have hh : (s.arbiter.holder.any fun x => x.1 == Port.client q).toNat = 0 := by
    simp only [State.atTable] at h
    omega
  refine ⟨?_, hh⟩
  simp only [joinWaiting, State.atTable, State.setArbiter, PerClient.get_set, hh]
  simp

/-- A release takes the holder's operation off and keeps every other. -/
theorem release_atTable (s : State) (q : Port) :
    (release s).atTable q + (s.arbiter.holder.any fun h => h.1 == Port.client q).toNat = s.atTable q := by
  obtain ⟨c, op, hw, h⟩ | h := release_cases s
  · rw [h, grant_atTable]
    by_cases hc : c = Port.client q
    · subst hc
      simp [State.atTable, hw]
      omega
    · simp [State.atTable, hc]
      omega
  · rw [h]
    simp [State.atTable]
    omega

/-- What an operation of another client may do to a port: nothing, or the end of one of the port's operations with its answer. -/
def State.settlesAt (s t : State) (q : Port) : Prop :=
  (t.inHand q = s.inHand q ∧ (t.port q).slot = (s.port q).slot ∧ (t.port q).cursor = (s.port q).cursor)
    ∨ (t.inHand q + 1 = s.inHand q ∧ ∀ i, (s.port q).slot = .pending i → ∃ r, (t.port q).slot = .ready r)

/-- The slot of a port is PENDING exactly while one operation is in hand for it. -/
def State.slotSound (s : State) (q : Port) : Prop :=
  s.inHand q = match (s.port q).slot with
    | .pending _ => 1
    | .empty => 0
    | .ready _ => 0

theorem State.slotsSound_iff (s : State) : s.slotsSound ↔ ∀ q, s.slotSound q := by
  unfold State.slotsSound State.slotSound
  exact Iff.rfl

theorem State.slotSound_congr {s t : State} {q : Port} (hi : t.inHand q = s.inHand q)
    (hs : (t.port q).slot = (s.port q).slot) : t.slotSound q ↔ s.slotSound q := by
  simp only [State.slotSound, hi, hs]

theorem State.slotSound_pending {s : State} {q : Port} {i : Instr} (h : (s.port q).slot = .pending i) :
    s.slotSound q ↔ s.inHand q = 1 := by
  simp only [State.slotSound, h]

theorem State.slotSound_empty {s : State} {q : Port} (h : (s.port q).slot = .empty) : s.slotSound q ↔ s.inHand q = 0 := by
  simp only [State.slotSound, h]

theorem State.slotSound_ready {s : State} {q : Port} {r : Response} (h : (s.port q).slot = .ready r) :
    s.slotSound q ↔ s.inHand q = 0 := by
  simp only [State.slotSound, h]

/-- A port with an operation in hand has a PENDING slot. -/
theorem State.slotSound.pending_of_pos {s : State} {q : Port} (h : s.slotSound q) (hp : 0 < s.inHand q) :
    s.inHand q = 1 ∧ ∃ i, (s.port q).slot = .pending i := by
  cases hs : (s.port q).slot with
  | empty => rw [State.slotSound_empty hs] at h; omega
  | pending i => exact ⟨(State.slotSound_pending hs).mp h, i, rfl⟩
  | ready r => rw [State.slotSound_ready hs] at h; omega

theorem State.settlesAt.slotSound {s t : State} {q : Port} (h : s.settlesAt t q) (hs : s.slotSound q) : t.slotSound q := by
  obtain ⟨hi, hslot, -⟩ | ⟨hi, hslot⟩ := h
  · exact (State.slotSound_congr hi hslot).mpr hs
  · obtain ⟨h1, i, hp⟩ := hs.pending_of_pos (by omega)
    obtain ⟨r, hr⟩ := hslot i hp
    exact (State.slotSound_ready hr).mpr (by omega)

/-- A port with nothing in hand is left alone. -/
theorem State.settlesAt.idle {s t : State} {q : Port} (h : s.settlesAt t q) (hs : s.inHand q = 0) :
    t.inHand q = 0 ∧ (t.port q).slot = (s.port q).slot ∧ (t.port q).cursor = (s.port q).cursor := by
  obtain ⟨hi, hslot, hc⟩ | ⟨hi, -⟩ := h
  · exact ⟨hi.trans hs, hslot, hc⟩
  · omega

/-! ### The parts of a block read's end -/

theorem answerPending_port_of_ne {p q : Port} {a : Answer} {s : State} (h : q ≠ p) :
    (answerPending p a s).port q = s.port q := by
  unfold answerPending
  split
  · simp [answer, State.setSlot, h]
  · rfl
  · rfl

theorem answerPending_slot {p : Port} {a : Answer} {s : State} {i : Instr} (h : (s.port p).slot = .pending i) :
    ((answerPending p a s).port p).slot = .ready (s.responseOf p i.tag a) := by
  unfold answerPending
  rw [h]
  exact answer_slot s p i.tag a

/-- A slot that is not PENDING is left (R186). -/
theorem answerPending_of_not_pending {p : Port} {a : Answer} {s : State} (h : ∀ i, (s.port p).slot ≠ .pending i) :
    answerPending p a s = s := by
  unfold answerPending
  split
  · exact absurd ‹_› (h _)
  · rfl
  · rfl

@[simp] theorem answerPending_arbiter_eq (p : Port) (a : Answer) (s : State) : (answerPending p a s).arbiter = s.arbiter :=
  answerPending_arbiter p a s

@[simp] theorem release_ports (s : State) : (release s).ports = s.ports := by
  obtain ⟨a, h⟩ := release_setArbiter s
  rw [h]
  rfl

@[simp] theorem release_port (s : State) (q : Port) : (release s).port q = s.port q := by
  simp only [State.port, release_ports]

/-- The end of a block read is a release of the grant and touches one port alone. -/
theorem finishBlockRead_port_of_ne {p q : Port} {a : Assembly} {cut : Bool} {s : State} (h : q ≠ p) :
    (finishBlockRead p a cut s).port q = s.port q := by
  simp [finishBlockRead, answerPending_port_of_ne h, State.setCursor, h]

theorem finishBlockRead_slot {p : Port} {a : Assembly} {cut : Bool} {s : State} {i : Instr}
    (h : (s.port p).slot = .pending i) : ∃ r, ((finishBlockRead p a cut s).port p).slot = .ready r := by
  unfold finishBlockRead
  rw [release_port]
  exact ⟨_, answerPending_slot (i := i) (by simp [State.setCursor, h])⟩

theorem finishBlockRead_atTable (p : Port) (a : Assembly) (cut : Bool) (s : State) (q : Port) :
    (finishBlockRead p a cut s).atTable q + (s.arbiter.holder.any fun h => h.1 == Port.client q).toNat = s.atTable q := by
  have h := release_atTable (answerPending p
    { preempted := cut, more := (cut || decide (Config.blockRecords ≤ a.placed.length)) && a.remains s,
      records := a.placed.length, payload := (a.placed.map (·.2)).flatten }
    (s.setCursor p (if ((cut || decide (Config.blockRecords ≤ a.placed.length)) && a.remains s) = true
      then some ⟨a.following, a.last⟩ else none))) q
  simpa [State.atTable, finishBlockRead] using h

/-- The end of the block read under a port's grant settles that port's operation and no other's. -/
theorem finishBlockRead_settles {p : Port} {op : TableOp} {a : Assembly} {cut : Bool} {s : State}
    (h : s.arbiter.holder = some (Port.client p, op)) (q : Port) : s.settlesAt (finishBlockRead p a cut s) q := by
  have hi := finishBlockRead_atTable p a cut s q
  have ha := State.apart_of_aside (finishBlockRead_aside p a cut s) q
  rw [h] at hi
  unfold State.settlesAt
  rw [State.inHand_eq, State.inHand_eq, ha]
  by_cases hq : q = p
  · subst hq
    exact .inr ⟨by simp at hi; omega, fun i hp => finishBlockRead_slot hp⟩
  · have hne : (Port.client p == Port.client q) = false := by
      rw [beq_eq_false_iff_ne]
      exact fun e => hq (Port.client_injective.mp e).symm
    exact .inl ⟨by simp [hne] at hi; omega, by rw [finishBlockRead_port_of_ne hq], by rw [finishBlockRead_port_of_ne hq]⟩

/-- A release by the engine leaves every port's operations in hand. -/
theorem release_settles {c : Client} {op : TableOp} {s : State} {q : Port} (h : s.arbiter.holder = some (c, op))
    (hc : c ≠ Port.client q) : s.settlesAt (release s) q := by
  have hi := release_atTable s q
  have hne : (c == Port.client q) = false := beq_eq_false_iff_ne.mpr hc
  rw [h] at hi
  refine .inl ⟨?_, by rw [release_port], by rw [release_port]⟩
  rw [State.inHand_eq, State.inHand_eq, State.apart_of_aside (release_aside s)]
  simp [hne] at hi
  omega

/-- The asking of one client settles at most an operation of another port. -/
theorem askGrant_settles {c : Client} {op : TableOp} {s : State} {q : Port} (hc : c ≠ Port.client q) :
    s.settlesAt (askGrant c op s) q := by
  have hj : (joinWaiting c op s).inHand q = s.inHand q := by
    rw [State.inHand_eq, State.inHand_eq, joinWaiting_atTable_of_ne hc, joinWaiting_apart]
  obtain ⟨hh, h⟩ | ⟨x, -, h⟩ | ⟨p, o, a, hx, -, h⟩ := askGrant_cases c op s
  · rw [h]
    refine .inl ⟨?_, rfl, rfl⟩
    rw [State.inHand_eq, State.inHand_eq, grant_atTable, State.apart_of_aside (grant_aside c op s)]
    simp [State.atTable, hh, hc]
  · rw [h]
    exact .inl ⟨hj, rfl, rfl⟩
  · rw [h]
    have hs := finishBlockRead_settles (a := a) (cut := true) (s := joinWaiting c op s)
      (State.assembling_eq_some.mp hx).1 q
    unfold State.settlesAt at hs ⊢
    rw [hj] at hs
    exact hs

/-- A port with nothing in hand that asks has its operation in hand, and its slot stays. -/
theorem askGrant_own {p : Port} {op : TableOp} {s : State} (h0 : s.inHand p = 0) :
    (askGrant (Port.client p) op s).inHand p = 1
      ∧ ((askGrant (Port.client p) op s).port p).slot = (s.port p).slot := by
  have hcount := s.inHand_eq p
  have hat : s.atTable p = 0 := by omega
  have hap : s.apart p = 0 := by omega
  obtain ⟨hj, hh⟩ := joinWaiting_atTable_self (op := op) hat
  obtain ⟨-, h⟩ | ⟨x, -, h⟩ | ⟨r, o, a, hx, -, h⟩ := askGrant_cases (Port.client p) op s
  · rw [h, State.inHand_eq, grant_atTable, State.apart_of_aside (grant_aside _ op s), hap]
    exact ⟨by simp, rfl⟩
  · rw [h, State.inHand_eq, setArbiter_apart, hap]
    exact ⟨hj, rfl⟩
  · have hr : p ≠ r := by
      rintro rfl
      simp [(State.assembling_eq_some.mp hx).1] at hh
    have hi := finishBlockRead_atTable r a true (joinWaiting (Port.client p) op s) p
    rw [hj] at hi
    rw [h, State.inHand_eq, finishBlockRead_port_of_ne hr, State.apart_of_aside (finishBlockRead_aside r a true _),
      joinWaiting_apart, hap]
    refine ⟨?_, rfl⟩
    simp only [joinWaiting, State.setArbiter, hh] at hi ⊢
    omega

/-- A withdrawn request of another client changes nothing for a port. -/
theorem withdrawAsk_settles {c : Client} {s : State} {q : Port} (hc : c ≠ Port.client q) :
    s.settlesAt (withdrawAsk c s) q := by
  refine .inl ⟨?_, rfl, rfl⟩
  rw [State.inHand_eq, State.inHand_eq, State.apart_of_aside (withdrawAsk_aside c s)]
  unfold State.atTable withdrawAsk State.setArbiter
  dsimp only
  split <;> simp [PerClient.get_set, hc.symm]

end Sys2Proof.Machine
end

section
/-! SUPPORT. What the grant's operations keep of the arbiter: no operation outside the table, an emptying that waits, an assembly with
no record placed, and the ranges of the settings, the hold timer and the cursors (R1, R156, R162, R167, R203). -/

namespace Sys2Proof.Machine

/-! ### Operations in the table (R1) -/

theorem State.settleOp_inTable {s : State} {c : Client} {op : TableOp} (h : op.inTable = true) : (s.settleOp c op).inTable = true := by
  cases op <;> simp_all [State.settleOp, TableOp.inTable]

theorem TableOp.inTable_of_isEngine {op : TableOp} (h : op.isEngine = true) : op.inTable = true := by
  cases op <;> simp_all [TableOp.isEngine, TableOp.inTable]

theorem grant_opsInTable {c : Client} {op : TableOp} {s : State} (h : s.arbiter.opsInTable) (ho : op.inTable = true) :
    (grant c op s).arbiter.opsInTable := by
  obtain ⟨-, hw⟩ := h
  refine ⟨fun x hx => ?_, fun b o hb => ?_⟩
  · simp only [grant, State.setArbiter, Option.some.injEq] at hx
    subst hx
    exact State.settleOp_inTable ho
  · simp only [grant, State.setArbiter, PerClient.get_set] at hb
    split at hb
    · simp at hb
    · exact hw b o hb

theorem release_opsInTable {s : State} (h : s.arbiter.opsInTable) : (release s).arbiter.opsInTable := by
  obtain ⟨c, op, hw, hr⟩ | hr := release_cases s
  · rw [hr]
    exact grant_opsInTable h (h.2 c op hw)
  · rw [hr]
    exact ⟨fun x hx => by simp [State.setArbiter] at hx, h.2⟩

theorem finishBlockRead_opsInTable {p : Port} {a : Assembly} {cut : Bool} {s : State} (h : s.arbiter.opsInTable) :
    (finishBlockRead p a cut s).arbiter.opsInTable := by
  unfold finishBlockRead
  apply release_opsInTable
  simpa using h

theorem joinWaiting_opsInTable {c : Client} {op : TableOp} {s : State} (h : s.arbiter.opsInTable) (ho : op.inTable = true) :
    (joinWaiting c op s).arbiter.opsInTable := by
  refine ⟨h.1, fun b o hb => ?_⟩
  simp only [joinWaiting, State.setArbiter, PerClient.get_set] at hb
  split at hb
  · simp_all
  · exact h.2 b o hb

theorem askGrant_opsInTable {c : Client} {op : TableOp} {s : State} (h : s.arbiter.opsInTable) (ho : op.inTable = true) :
    (askGrant c op s).arbiter.opsInTable := by
  obtain ⟨-, e⟩ | ⟨x, -, e⟩ | ⟨p, o, a, -, -, e⟩ := askGrant_cases c op s
  · rw [e]
    exact grant_opsInTable h ho
  · rw [e]
    exact joinWaiting_opsInTable h ho
  · rw [e]
    exact finishBlockRead_opsInTable (joinWaiting_opsInTable h ho)

/-- A withdrawal takes one request off the waiting set and leaves the holder and the other requests. -/
theorem withdrawAsk_arbiter (c : Client) (s : State) : ∃ x, (x = s.arbiter.hold ∨ x = .stopped)
    ∧ (withdrawAsk c s).arbiter = { s.arbiter with waiting := s.arbiter.waiting.set c none, hold := x } := by
  unfold withdrawAsk State.setArbiter
  dsimp only
  split
  · exact ⟨_, .inl rfl, rfl⟩
  · exact ⟨_, .inr rfl, rfl⟩

theorem withdrawAsk_opsInTable {c : Client} {s : State} (h : s.arbiter.opsInTable) : (withdrawAsk c s).arbiter.opsInTable := by
  obtain ⟨x, -, e⟩ := withdrawAsk_arbiter c s
  rw [e]
  refine ⟨h.1, fun b o hb => ?_⟩
  simp only [PerClient.get_set] at hb
  split at hb
  · simp at hb
  · exact h.2 b o hb

/-! ### An emptying that is asked for (R26, R203) -/

theorem grant_emptying_own (clamped : Bool) (payload : List Byte) (s : State) :
    (grant .w (.emptyTable clamped payload) s).arbiter.emptying := ⟨clamped, payload, .inl rfl⟩

theorem grant_emptying {c : Client} {op : TableOp} {s : State} (h : s.arbiter.emptying)
    (hh : ∀ clamped payload, s.arbiter.holder ≠ some (.w, .emptyTable clamped payload))
    (hw : c = .w → s.arbiter.waiting.w = some op) : (grant c op s).arbiter.emptying := by
  obtain ⟨x, l, hx | hx⟩ := h
  · exact absurd hx (hh x l)
  · by_cases hc : c = .w
    · subst hc
      rw [hw rfl, Option.some.injEq] at hx
      subst hx
      exact grant_emptying_own x l s
    · refine ⟨x, l, .inr ?_⟩
      have hne : Client.w ≠ c := fun e => hc e.symm
      have := PerClient.get_set s.arbiter.waiting c .w none
      rw [if_neg hne] at this
      exact this.trans hx

theorem release_emptying {s : State} (h : s.arbiter.emptying)
    (hh : ∀ clamped payload, s.arbiter.holder ≠ some (.w, .emptyTable clamped payload)) : (release s).arbiter.emptying := by
  obtain ⟨c, op, hw, hr⟩ | hr := release_cases s
  · rw [hr]
    exact grant_emptying h hh fun hc => by subst hc; exact hw
  · rw [hr]
    obtain ⟨x, l, hx | hx⟩ := h
    · exact absurd hx (hh x l)
    · exact ⟨x, l, .inr hx⟩

theorem finishBlockRead_emptying {p : Port} {op : TableOp} {a b : Assembly} {cut : Bool} {s : State} (h : s.arbiter.emptying)
    (hh : s.arbiter.holder = some (Port.client p, op)) (ho : op.assembly = some b) :
    (finishBlockRead p a cut s).arbiter.emptying := by
  unfold finishBlockRead
  apply release_emptying
  · simpa using h
  · intro x l e
    simp only [answerPending_arbiter_eq, State.setCursor_arbiter, hh, Option.some.injEq, Prod.mk.injEq] at e
    rw [e.2] at ho
    simp [TableOp.assembly] at ho

theorem askGrant_emptying {c : Client} {op : TableOp} {s : State} (h : s.arbiter.emptying) (hc : c ≠ .w) :
    (askGrant c op s).arbiter.emptying := by
  have hj : (joinWaiting c op s).arbiter.emptying := by
    obtain ⟨x, l, hx | hx⟩ := h
    · exact ⟨x, l, .inl hx⟩
    · have := PerClient.get_set s.arbiter.waiting c .w (some op)
      rw [if_neg hc.symm] at this
      exact ⟨x, l, .inr (this.trans hx)⟩
  obtain ⟨hf, e⟩ | ⟨x, -, e⟩ | ⟨p, o, a, hx, -, e⟩ := askGrant_cases c op s
  · rw [e]
    exact grant_emptying h (by simp [hf]) fun hw => absurd hw hc
  · rw [e]
    exact hj
  · rw [e]
    obtain ⟨hh, ho⟩ := State.assembling_eq_some.mp hx
    exact finishBlockRead_emptying hj hh ho

/-- Port W's request to empty the table stands at the arbiter once it has asked (R26, R203). -/
theorem askGrant_emptying_own (clamped : Bool) (payload : List Byte) (s : State) :
    (askGrant .w (.emptyTable clamped payload) s).arbiter.emptying := by
  have hj : (joinWaiting .w (.emptyTable clamped payload) s).arbiter.emptying := ⟨clamped, payload, .inr rfl⟩
  obtain ⟨-, e⟩ | ⟨x, -, e⟩ | ⟨p, o, a, hx, -, e⟩ := askGrant_cases .w (.emptyTable clamped payload) s
  · rw [e]
    exact grant_emptying_own clamped payload s
  · rw [e]
    exact hj
  · rw [e]
    obtain ⟨hh, ho⟩ := State.assembling_eq_some.mp hx
    exact finishBlockRead_emptying hj hh ho

theorem withdrawAsk_emptying {c : Client} {s : State} (h : s.arbiter.emptying) (hc : c ≠ .w) :
    (withdrawAsk c s).arbiter.emptying := by
  obtain ⟨x, -, e⟩ := withdrawAsk_arbiter c s
  rw [e]
  obtain ⟨x, l, hx | hx⟩ := h
  · exact ⟨x, l, .inl hx⟩
  · have := PerClient.get_set s.arbiter.waiting c .w none
    rw [if_neg hc.symm] at this
    exact ⟨x, l, .inr (this.trans hx)⟩

/-! ### An assembly with no record placed (R162) -/

/-- The block read under the grant, if any, has placed no record, so that no expiry of the hold timer cuts it. -/
def State.uncut (s : State) : Prop := ∀ p op a, s.assembling = some (p, op, a) → a.placed = []

theorem State.settleOp_placed {s : State} {c : Client} {op : TableOp} {a : Assembly} (h : (s.settleOp c op).assembly = some a) :
    a = s.startOf c := by
  cases op <;> simp_all [State.settleOp, TableOp.assembly]

theorem State.startOf_placed (s : State) (c : Client) : (s.startOf c).placed = [] := by
  unfold State.startOf LinkPort.assembly
  split
  · split <;> rfl
  · rfl

theorem grant_uncut (c : Client) (op : TableOp) (s : State) : (grant c op s).uncut := by
  intro p o a h
  obtain ⟨hh, ha⟩ := State.assembling_eq_some.mp h
  simp only [grant, State.setArbiter, Option.some.injEq, Prod.mk.injEq] at hh
  rw [← hh.2] at ha
  rw [State.settleOp_placed ha]
  exact State.startOf_placed s c

theorem release_uncut (s : State) : (release s).uncut := by
  obtain ⟨c, op, -, hr⟩ | hr := release_cases s
  · rw [hr]
    exact grant_uncut c op s
  · rw [hr]
    intro p o a h
    simp [State.assembling, State.setArbiter] at h

theorem askGrant_uncut {c : Client} {op : TableOp} {s : State} (h : s.uncut) :
    (askGrant c op s).uncut ∧ (askGrant c op s).ports = s.ports := by
  obtain ⟨-, e⟩ | ⟨x, -, e⟩ | ⟨p, o, a, hx, hp, -⟩ := askGrant_cases c op s
  · rw [e]
    exact ⟨grant_uncut c op s, rfl⟩
  · rw [e]
    exact ⟨h, rfl⟩
  · exact absurd (h p o a hx) hp

theorem withdrawAsk_uncut {c : Client} {s : State} (h : s.uncut) : (withdrawAsk c s).uncut := by
  obtain ⟨x, -, e⟩ := withdrawAsk_arbiter c s
  intro p o a ha
  rw [State.assembling_eq_some, e] at ha
  exact h p o a (State.assembling_eq_some.mpr ha)

/-! ### Ranges (R156, R167) -/

/-- Every cursor ends inside the table (R167). -/
def State.cursorsInRange (s : State) : Prop := ∀ p c, (s.port p).cursor = some c → c.last ≤ 191

theorem State.startOf_last {s : State} (h : s.cursorsInRange) (c : Client) : (s.startOf c).last ≤ 191 := by
  unfold State.startOf LinkPort.assembly
  split
  · split
    · exact h _ _ ‹_›
    · exact Nat.zero_le _
  · exact Nat.zero_le _

theorem grant_inRange {c : Client} {op : TableOp} {s : State} (h : s.arbiter.inRange) (hc : s.cursorsInRange) :
    (grant c op s).arbiter.inRange := by
  obtain ⟨hp, ht, -, -⟩ := h
  refine ⟨hp, ht, fun x hx => by simp [grant, State.setArbiter] at hx, fun b o a hh ha => ?_⟩
  simp only [grant, State.setArbiter, Option.some.injEq, Prod.mk.injEq] at hh
  rw [← hh.2] at ha
  rw [State.settleOp_placed ha]
  exact State.startOf_last hc c

theorem release_inRange {s : State} (h : s.arbiter.inRange) (hc : s.cursorsInRange) : (release s).arbiter.inRange := by
  obtain ⟨c, op, -, hr⟩ | hr := release_cases s
  · rw [hr]
    exact grant_inRange h hc
  · rw [hr]
    obtain ⟨hp, ht, -, -⟩ := h
    exact ⟨hp, ht, fun x hx => by simp [State.setArbiter] at hx, fun b o a hh _ => by simp [State.setArbiter] at hh⟩

theorem withdrawAsk_inRange {c : Client} {s : State} (h : s.arbiter.inRange) : (withdrawAsk c s).arbiter.inRange := by
  obtain ⟨x, hx, e⟩ := withdrawAsk_arbiter c s
  obtain ⟨hp, ht, hr, ha⟩ := h
  rw [e]
  refine ⟨hp, ht, fun y hy => ?_, ha⟩
  obtain rfl | rfl := hx
  · exact hr y hy
  · simp at hy

theorem Assembly.following_le_of_remains {s : State} {a : Assembly} (h : a.remains s = true) : a.following ≤ a.last := by
  simp only [Assembly.remains, List.any_eq_true, Bool.and_eq_true, decide_eq_true_eq] at h
  obtain ⟨i, -, ⟨h1, h2⟩, -⟩ := h
  omega

theorem LinkPort.sound_of_slot {l : LinkPort} (x : Slot) (h : l.sound) : ({ l with slot := x } : LinkPort).sound := h

theorem LinkPort.sound_of_cursor {l : LinkPort} {c : Option Cursor} (h : l.sound)
    (hc : ∀ x, c = some x → x.next ≤ x.last ∧ x.last ≤ 191) : ({ l with cursor := c } : LinkPort).sound := by
  obtain ⟨h1, h2, h3, h4, h5, h6, h7, -⟩ := h
  exact ⟨h1, h2, h3, h4, h5, h6, h7, hc⟩

theorem State.ranged.cursorsInRange {s : State} (h : ∀ p, (s.port p).sound) : s.cursorsInRange := by
  intro p c hc
  obtain ⟨-, -, -, -, -, -, -, h8⟩ := h p
  exact (h8 c hc).2

theorem setPort_sound {s : State} {p : Port} {x : LinkPort} (h : ∀ q, (s.port q).sound) (hx : x.sound) (q : Port) :
    ((s.setPort p x).port q).sound := by
  rw [State.port_setPort_eq]
  split
  · exact hx
  · exact h q

theorem answerPending_sound {p : Port} {a : Answer} {s : State} (h : ∀ q, (s.port q).sound) (q : Port) :
    ((answerPending p a s).port q).sound := by
  unfold answerPending
  split
  · exact setPort_sound h (LinkPort.sound_of_slot _ (h p)) q
  · exact h q
  · exact h q

/-- The end of a block read keeps the ranges of the arbiter and of the ports (R167, R170). -/
theorem finishBlockRead_ranges {p : Port} {a : Assembly} {cut : Bool} {s : State} (h : s.arbiter.inRange)
    (hp : ∀ q, (s.port q).sound) (ha : a.last ≤ 191) :
    (finishBlockRead p a cut s).arbiter.inRange ∧ ∀ q, ((finishBlockRead p a cut s).port q).sound := by
  unfold finishBlockRead
  dsimp only
  set more := (cut || decide (Config.blockRecords ≤ a.placed.length)) && a.remains s with hm
  have hcur : ∀ q, ((s.setCursor p (if more = true then some ⟨a.following, a.last⟩ else none)).port q).sound := by
    refine setPort_sound hp (LinkPort.sound_of_cursor (hp p) fun x hx => ?_)
    split at hx
    · rename_i hmore
      rw [hm, Bool.and_eq_true] at hmore
      cases hx
      exact ⟨Assembly.following_le_of_remains hmore.2, ha⟩
    · simp at hx
  refine ⟨release_inRange (by simpa using h) (State.ranged.cursorsInRange (answerPending_sound hcur)), fun q => ?_⟩
  rw [release_port]
  exact answerPending_sound hcur q

theorem askGrant_ranges {c : Client} {op : TableOp} {s : State} (h : s.arbiter.inRange) (hp : ∀ q, (s.port q).sound) :
    (askGrant c op s).arbiter.inRange ∧ ∀ q, ((askGrant c op s).port q).sound := by
  obtain ⟨-, e⟩ | ⟨x, hx, e⟩ | ⟨p, o, a, hx, -, e⟩ := askGrant_cases c op s
  · rw [e]
    exact ⟨grant_inRange h (State.ranged.cursorsInRange hp), hp⟩
  · rw [e]
    refine ⟨?_, hp⟩
    obtain ⟨h1, h2, h3, h4⟩ := h
    refine ⟨h1, h2, fun y hy => ?_, h4⟩
    simp only [State.setArbiter] at hy
    obtain rfl | rfl | rfl := hx
    · exact h3 y hy
    · simp at hy
    · cases hy
      omega
  · rw [e]
    obtain ⟨hh, ho⟩ := State.assembling_eq_some.mp hx
    exact finishBlockRead_ranges (s := joinWaiting c op s) h hp (h.2.2.2 _ _ _ hh ho)

theorem State.ranged_of_aside {s t : State} (h : s.ranged) (ht : t.aside = s.aside) (ha : t.arbiter.inRange)
    (hp : ∀ p, (t.port p).sound) : t.ranged := by
  obtain ⟨h1, h2, h3, h4, h5, -, h7, -⟩ := h
  unfold State.ranged
  rw [State.store_of_aside ht, State.frame_of_aside ht, State.sample_of_aside ht, State.handshake_of_aside ht,
    State.jobs_of_aside ht, State.table_of_aside ht]
  exact ⟨h1, h2, h3, h4, h5, ha, h7, hp⟩

end Sys2Proof.Machine
end

section
/-! SUPPORT. What every run of small changes keeps: the settings, the operations in hand, the ranges, and, by its scope, the standing
of the ports, the completion lists, the details of notices and the places of the jobs. -/

namespace Sys2Proof.Machine

variable {c : Scope} {s t : State}

/-! ### The arbiter and the slots -/

theorem Move.settings (h : Move c s t) : t.arbiter.settings = s.arbiter.settings := by
  cases h with
  | ask op _ => exact askGrant_settings .engine op s
  | withdraw => exact withdrawAsk_settings .engine s
  | release => exact release_settings s
  | _ => rfl

theorem Moves.settings (h : Moves c s t) : t.arbiter.settings = s.arbiter.settings :=
  h.keeps (fun s => s.arbiter.settings) fun _ _ => Move.settings

theorem Move.resetReplies (h : Move c s t) : t.engine.resetReplies = s.engine.resetReplies := by
  cases h with
  | work _ _ _ _ hr => exact hr
  | ask op _ => rw [State.engine_of_aside (askGrant_aside .engine op s)]
  | release => rw [State.engine_of_aside (release_aside s)]
  | _ => rfl

theorem Moves.resetReplies (h : Moves c s t) : t.engine.resetReplies = s.engine.resetReplies :=
  h.keeps (fun s => s.engine.resetReplies) fun _ _ => Move.resetReplies

/-- The engine is no port's client. -/
theorem Port.engine_ne_client (p : Port) : Client.engine ≠ Port.client p := by cases p <;> decide

theorem State.settlesAt_of_parts {q : Port} (ha : t.arbiter = s.arbiter) (hs : t.store = s.store)
    (hr : t.engine.resetReplies = s.engine.resetReplies) (hl : (t.port q).slot = (s.port q).slot)
    (hc : (t.port q).cursor = (s.port q).cursor) : s.settlesAt t q := by
  refine .inl ⟨?_, hl, hc⟩
  rw [State.inHand_eq, State.inHand_eq, State.apart_congr (by rw [hs]) hr]
  simp only [State.atTable, ha]

theorem Move.settles (h : Move c s t) (q : Port) : s.settlesAt t q := by
  cases h with
  | port p x hk =>
    refine State.settlesAt_of_parts (t := s.setPort p x) rfl rfl rfl ?_ ?_ <;> rw [State.port_setPort_eq]
    · split
      · rw [‹q = p›]; exact hk.slot
      · rfl
    · split
      · rw [‹q = p›]; exact hk.cursor
      · rfl
  | work v e q' l hr => exact State.settlesAt_of_parts rfl rfl hr rfl rfl
  | ask op _ => exact askGrant_settles (Port.engine_ne_client q)
  | withdraw => exact withdrawAsk_settles (Port.engine_ne_client q)
  | release op h => exact release_settles h (Port.engine_ne_client q)
  | _ => exact State.settlesAt_of_parts rfl rfl rfl rfl rfl

theorem Moves.slotSound {q : Port} (h : Moves c s t) (hs : s.slotSound q) : t.slotSound q :=
  h.maintains (P := fun s => s.slotSound q) (fun _ _ hm hs => (hm.settles q).slotSound hs) hs

/-- A port with nothing in hand keeps its slot and its cursor. -/
theorem Moves.idle {q : Port} (h : Moves c s t) (hs : s.inHand q = 0) :
    t.inHand q = 0 ∧ (t.port q).slot = (s.port q).slot ∧ (t.port q).cursor = (s.port q).cursor := by
  refine h.maintains (P := fun t => t.inHand q = 0 ∧ (t.port q).slot = (s.port q).slot ∧ (t.port q).cursor = (s.port q).cursor)
    (fun x y hm hx => ?_) ⟨hs, rfl, rfl⟩
  obtain ⟨h0, hl, hc⟩ := hx
  obtain ⟨h0', hl', hc'⟩ := (hm.settles q).idle h0
  exact ⟨h0', hl'.trans hl, hc'.trans hc⟩

theorem Moves.opsInTable (h : Moves c s t) (hs : s.arbiter.opsInTable) : t.arbiter.opsInTable := by
  refine h.maintains (P := fun s => s.arbiter.opsInTable) (fun x y hm hx => ?_) hs
  cases hm with
  | ask op ho => exact askGrant_opsInTable hx (TableOp.inTable_of_isEngine ho)
  | withdraw => exact withdrawAsk_opsInTable hx
  | release => exact release_opsInTable hx
  | _ => exact hx

theorem Moves.emptying (h : Moves c s t) (hs : s.arbiter.emptying) : t.arbiter.emptying := by
  refine h.maintains (P := fun s => s.arbiter.emptying) (fun x y hm hx => ?_) hs
  cases hm with
  | ask op ho => exact askGrant_emptying hx (by decide)
  | withdraw => exact withdrawAsk_emptying hx (by decide)
  | release op h => exact release_emptying hx (by simp [h])
  | _ => exact hx

/-- While no record is placed under the grant, no slot is answered and no cursor moves. -/
theorem Moves.uncut (h : Moves c s t) (hs : s.uncut) :
    t.uncut ∧ ∀ q, (t.port q).slot = (s.port q).slot ∧ (t.port q).cursor = (s.port q).cursor := by
  refine h.maintains
    (P := fun t => t.uncut ∧ ∀ q, (t.port q).slot = (s.port q).slot ∧ (t.port q).cursor = (s.port q).cursor)
    (fun x y hm hx => ?_) ⟨hs, fun q => ⟨rfl, rfl⟩⟩
  obtain ⟨hu, hx⟩ := hx
  cases hm with
  | port p l hk =>
    refine ⟨hu, fun q => ?_⟩
    rw [State.port_setPort_eq]
    split
    · subst q
      exact ⟨hk.slot.trans (hx p).1, hk.cursor.trans (hx p).2⟩
    · exact hx q
  | ask op ho =>
    obtain ⟨hu', hp⟩ := askGrant_uncut (c := .engine) (op := op) hu
    refine ⟨hu', fun q => ?_⟩
    simp only [State.port, hp]
    exact hx q
  | withdraw => exact ⟨withdrawAsk_uncut hu, hx⟩
  | release => exact ⟨release_uncut x, fun q => by rw [release_port]; exact hx q⟩
  | _ => exact ⟨hu, hx⟩

/-! ### Ranges -/

theorem Move.ranged (h : Move c s t) (hs : s.ranged) : t.ranged := by
  obtain ⟨h1, h2, h3, h4, h5, h6, h7, h8⟩ := hs
  cases h with
  | port p x hk => exact ⟨h1, h2, h3, h4, h5, h6, h7, setPort_sound h8 (hk.sound (h8 p))⟩
  | work v e q l hr hq => exact ⟨h1, h2, h3, h4, hq h1 h5, h6, h7, h8⟩
  | handshake x hx => exact ⟨h1, h2, h3, hx h4, h5, h6, h7, h8⟩
  | sample x hx => exact ⟨h1, h2, hx h1 h3, h4, h5, h6, h7, h8⟩
  | frame x hx => exact ⟨h1, hx h1 h2, h3, h4, h5, h6, h7, h8⟩
  | ask op _ =>
    obtain ⟨ha, hp⟩ := askGrant_ranges (c := .engine) (op := op) h6 h8
    exact State.ranged_of_aside ⟨h1, h2, h3, h4, h5, h6, h7, h8⟩ (askGrant_aside .engine op s) ha hp
  | withdraw => exact State.ranged_of_aside ⟨h1, h2, h3, h4, h5, h6, h7, h8⟩ (withdrawAsk_aside .engine s) (withdrawAsk_inRange h6) h8
  | release =>
    exact State.ranged_of_aside ⟨h1, h2, h3, h4, h5, h6, h7, h8⟩ (release_aside s)
      (release_inRange h6 (State.ranged.cursorsInRange h8)) fun q => by rw [release_port]; exact h8 q

theorem Moves.ranged (h : Moves c s t) (hs : s.ranged) : t.ranged := h.maintains (fun _ _ => Move.ranged) hs

/-! ### What the scope leaves out -/

/-- Outside the slot and the cursor a small change reaches a port only by a change of its record. -/
theorem Move.port_cases (h : Move c s t) (q : Port) :
    LinkPort.Keeps c q (s.port q) (t.port q)
      ∨ t.port q = { s.port q with slot := (t.port q).slot, cursor := (t.port q).cursor } := by
  cases h with
  | port p x hk =>
    rw [State.port_setPort_eq]
    split
    · subst q
      exact .inl hk
    · exact .inr rfl
  | ask op _ => exact .inr (State.port_of_aside (askGrant_aside .engine op s) q)
  | release => exact .inr (State.port_of_aside (release_aside s) q)
  | _ => exact .inr rfl

theorem Move.standing {q : Port} (hc : c.ports q = false) (h : Move c s t) : (t.port q).standing = (s.port q).standing := by
  obtain hk | he := h.port_cases q
  · exact hk.standing hc
  · rw [he]; rfl

theorem Moves.standing {q : Port} (hc : c.ports q = false) (h : Moves c s t) : (t.port q).standing = (s.port q).standing :=
  h.keeps (fun s => (s.port q).standing) fun _ _ => Move.standing hc

theorem Moves.attached {q : Port} (hc : c.ports q = false) (h : Moves c s t) : (t.port q).attached = (s.port q).attached :=
  congrArg (·.1) (h.standing hc)

theorem Moves.dropped {q : Port} (hc : c.ports q = false) (h : Moves c s t) : (t.port q).dropped = (s.port q).dropped :=
  congrArg (·.2.1) (h.standing hc)

theorem Moves.window {q : Port} (hc : c.ports q = false) (h : Moves c s t) : (t.port q).window = (s.port q).window :=
  congrArg (·.2.2.1) (h.standing hc)

theorem Moves.mask {q : Port} (hc : c.ports q = false) (h : Moves c s t) : (t.port q).notices.mask = (s.port q).notices.mask :=
  congrArg (·.2.2.2.1) (h.standing hc)

/-- A DETACHED port keeps its Notice Unit. -/
theorem Moves.closed {q : Port} (hc : c.ports q = false) (h : Moves c s t) (hs : (s.port q).attached = false) :
    (t.port q).attached = false ∧ (t.port q).notices = (s.port q).notices := by
  refine h.maintains (P := fun t => (t.port q).attached = false ∧ (t.port q).notices = (s.port q).notices)
    (fun x y hm hx => ?_) ⟨hs, rfl⟩
  obtain ⟨ha, hn⟩ := hx
  refine ⟨(congrArg (·.1) (hm.standing hc)).trans ha, ?_⟩
  obtain hk | he := hm.port_cases q
  · exact (hk.closed hc ha).trans hn
  · rw [he]; exact hn

theorem Moves.completions {q : Port} (hc : c.lists q = false) (h : Moves c s t) :
    (t.port q).completions = (s.port q).completions ∧ (t.port q).overflow = (s.port q).overflow := by
  have := h.keeps (fun s => ((s.port q).completions, (s.port q).overflow)) fun x y hm => by
    obtain hk | he := hm.port_cases q
    · simp only [hk.list hc]
    · rw [he]
  exact ⟨congrArg Prod.fst this, congrArg Prod.snd this⟩

theorem Moves.detail {q : Port} {src : Source} (hc : c.details = false) (h : Moves c s t) (hw : src ≠ .withdrawn)
    (hq : src ≠ .queueSpace) : (t.port q).notices.details.get src = (s.port q).notices.details.get src :=
  h.keeps (fun s => (s.port q).notices.details.get src) fun x y hm => by
    obtain hk | he := hm.port_cases q
    · exact hk.details hc src hw hq
    · rw [he]

theorem Moves.work (hc : c.jobs = false) (h : Moves c s t) : t.work = s.work :=
  h.keeps State.work fun x y hm => by
    cases hm with
    | work _ _ _ _ _ _ hw => exact hw hc
    | ask op _ => exact State.work_of_aside (askGrant_aside .engine op x)
    | release => exact State.work_of_aside (release_aside x)
    | _ => rfl

theorem Moves.selected (hc : c.selected = false) (h : Moves c s t) : t.handshake.selected = s.handshake.selected :=
  h.keeps (fun s => s.handshake.selected) fun x y hm => by
    cases hm with
    | handshake _ _ hs => exact hs hc
    | ask op _ => rw [State.handshake_of_aside (askGrant_aside .engine op x)]
    | release => rw [State.handshake_of_aside (release_aside x)]
    | _ => rfl

theorem Moves.sample (hc : c.sample = false) (h : Moves c s t) : t.sample.still = s.sample.still :=
  h.keeps (fun s => s.sample.still) fun x y hm => by
    cases hm with
    | sample _ _ hs => exact hs hc
    | ask op _ => rw [State.sample_of_aside (askGrant_aside .engine op x)]
    | release => rw [State.sample_of_aside (release_aside x)]
    | _ => rfl

theorem Moves.frame (hc : c.frame = false) (h : Moves c s t) : t.frame.still = s.frame.still :=
  h.keeps (fun s => s.frame.still) fun x y hm => by
    cases hm with
    | frame _ _ hs => exact hs hc
    | ask op _ => rw [State.frame_of_aside (askGrant_aside .engine op x)]
    | release => rw [State.frame_of_aside (release_aside x)]
    | _ => rfl

end Sys2Proof.Machine
end

section
/-! SUPPORT. The operations of the notices, the handshakes, the queue and the engine are runs of small changes: one lemma for each, with
the scope that it needs. -/

namespace Sys2Proof.Machine

variable {c : Scope}

/-! ### The kinds of small changes, applied -/

theorem setJobs_moves (hc : c.jobs = true) {s : State} {q : JobQueue} (hs : s.store.profile.sound → s.jobs.sound → q.sound) :
    Moves c s (s.setJobs q) :=
  .single (.work s.statuses s.engine q s.stack rfl hs (by simp [hc]))

/-- The QUEUE_SPACE marks, the ids to come and the drift counter are no job's place. -/
theorem setJobs_moves_quiet {s : State} {q : JobQueue} (hs : s.store.profile.sound → s.jobs.sound → q.sound)
    (hq : q.queue = s.jobs.queue) (hg : q.groups = s.jobs.groups) (hz : q.pendingZone = s.jobs.pendingZone) :
    Moves c s (s.setJobs q) :=
  .single (.work s.statuses s.engine q s.stack rfl hs fun _ => by simp [State.work, hq, hg, hz])

theorem setEngine_moves (hc : c.jobs = true) {s : State} {e : Engine} (hr : e.resetReplies = s.engine.resetReplies) :
    Moves c s (s.setEngine e) :=
  .single (.work s.statuses e s.jobs s.stack hr (fun _ h => h) (by simp [hc]))

theorem setEngine_moves_quiet {s : State} {e : Engine} (hr : e.resetReplies = s.engine.resetReplies)
    (hs : e.state = s.engine.state) (ha : e.active.map SearchRecord.job = s.engine.active.map SearchRecord.job) :
    Moves c s (s.setEngine e) :=
  .single (.work s.statuses e s.jobs s.stack hr (fun _ h => h) fun _ => by simp [State.work, hs, ha])

theorem setStack_moves (hc : c.jobs = true) (s : State) (l : List SearchRecord) : Moves c s { s with stack := l } :=
  .single (.work s.statuses s.engine s.jobs l rfl (fun _ h => h) (by simp [hc]))

theorem setStatus_moves (hc : c.jobs = true) (w : JobWork) (st : EntryStatus) (s : State) : Moves c s (setStatus w st s) := by
  unfold setStatus
  split
  · exact .single (.work _ s.engine s.jobs s.stack rfl (fun _ h => h) (by simp [hc]))
  · exact .refl s

theorem setHandshake_moves {s : State} {h : HandshakeUnit} (hs : s.handshake.sound → h.sound)
    (hc : h.selected = s.handshake.selected) : Moves c s (s.setHandshake h) := .single (.handshake h hs fun _ => hc)

theorem flushFifo_moves (s : State) : Moves c s (flushFifo s) :=
  .single (.sample { s.sample with fifo := [] } (fun _ h => h) fun _ => rfl)

/-- Home capture and the settle test with its timer are replaced. -/
theorem stillFrame_moves (s : State) (h : HomeState) (x : SettleTest) (y : Timer) :
    Moves c s { s with frame := { s.frame with home := h, settle := x, settleTimer := y } } :=
  .single (.frame { s.frame with home := h, settle := x, settleTimer := y } (fun _ h => h) fun _ => rfl)

theorem clearSettle_moves (s : State) : Moves c s (clearSettle s) := stillFrame_moves s s.frame.home .none .stopped

theorem dropHome_moves (s : State) : Moves c s (dropHome s) := stillFrame_moves s _ s.frame.settle s.frame.settleTimer

theorem setEngineState_moves (hc : c.jobs = true) (e : EngineState) (s : State) : Moves c s (setEngineState e s) :=
  setEngine_moves hc rfl

theorem setActive_moves (hc : c.jobs = true) (r : Option SearchRecord) (s : State) : Moves c s (setActive r s) :=
  setEngine_moves hc rfl

/-- The search record of the active job is replaced by one of the same job. -/
theorem setActive_moves_quiet {r r' : SearchRecord} {s : State} (h : s.engine.active = some r) (hj : r'.job = r.job) :
    Moves c s (setActive (some r') s) := setEngine_moves_quiet rfl rfl (by simp [h, hj])

theorem askEngine_moves {op : TableOp} (h : op.isEngine = true) (s : State) : Moves c s (askGrant .engine op s) :=
  .single (.ask op h)

theorem withdrawAsk_moves (s : State) : Moves c s (withdrawAsk .engine s) := .single .withdraw

theorem withdrawLookUp_moves (s : State) : Moves c s (withdrawLookUp s) := by
  unfold withdrawLookUp
  split
  · exact withdrawAsk_moves s
  · exact .refl s

/-! ### Notices -/

/-- The settings of a Notice Unit (R179, R180). -/
def NoticeUnit.settings (u : NoticeUnit) : PerSource Bool × PerSource Bool × LineMode × Bool × Nat :=
  (u.mask, u.inService, u.mode, u.tracking, u.baseCode)

theorem setNotices_moves {p : Port} {u : NoticeUnit} {s : State} (ha : (s.port p).attached = true)
    (hu : u.settings = (s.port p).notices.settings)
    (hm : ∀ src, (s.port p).notices.merge.get src ≤ 255 → u.merge.get src ≤ 255)
    (hd : c.details = false → ∀ src, src ≠ .withdrawn → src ≠ .queueSpace →
      u.details.get src = (s.port p).notices.details.get src) : Moves c s (s.setNotices p u) := by
  simp only [NoticeUnit.settings, Prod.mk.injEq] at hu
  obtain ⟨h1, h2, h3, h4, h5⟩ := hu
  refine .single (.port p _ ⟨rfl, rfl, fun hs => ?_, fun _ => ?_, fun _ hf => ?_, fun _ => ⟨rfl, rfl⟩, hd⟩)
  · obtain ⟨s1, s2, s3, s4, s5⟩ := hs
    exact ⟨s1, s2, by simpa [h5] using s3, fun src => hm src (s4 src), s5⟩
  · simp only [LinkPort.standing, h1, h2, h3, h4, h5]
  · rw [ha] at hf
    exact absurd hf (by simp)

theorem satSucc_le {cap n : Nat} (h : n ≤ cap) : satSucc cap n ≤ cap := by
  unfold satSucc
  split <;> omega

theorem pulseCause_moves (p : Port) (s : State) : Moves c s (pulseCause p s) := by
  unfold pulseCause
  dsimp only
  split
  · rename_i h
    exact setNotices_moves h.1 rfl (fun _ h => h) fun _ _ _ _ => rfl
  · exact .refl s

theorem pulseOnset_moves (b : State) (p : Port) (s : State) : Moves c s (pulseOnset b p s) := by
  unfold pulseOnset
  split
  · exact pulseCause_moves p s
  · exact .refl s

theorem pulseIfEligible_moves (p : Port) (s : State) : Moves c s (pulseIfEligible p s) := by
  unfold pulseIfEligible
  split
  · exact pulseCause_moves p s
  · exact .refl s

theorem reforming_moves {f : State → State} {s : State} (h : Moves c s (f s)) : Moves c s (reforming f s) :=
  (h.trans (pulseOnset_moves s .workstation _)).trans
    ((pulseOnset_moves s .positioner _).trans (pulseOnset_moves s .adapter _))

theorem raiseMerge_moves (p : Port) (src : Source) (s : State) : Moves c s (raiseMerge p src s) := by
  unfold raiseMerge
  dsimp only
  split
  · rename_i h
    refine setNotices_moves h rfl (fun x hx => ?_) fun _ _ _ _ => rfl
    simp only [PerSource.get_set]
    split
    · subst x
      exact satSucc_le hx
    · exact hx
  · exact .refl s

/-- A source whose detail is in the scope of every run, or a run whose scope has all details. -/
def Scope.tells (c : Scope) (src : Source) : Prop := c.details = true ∨ src = .withdrawn ∨ src = .queueSpace

theorem storeDetail_moves {src : Source} (hc : c.tells src) (p : Port) (x : Detail) (s : State) :
    Moves c s (storeDetail p src x s) := by
  unfold storeDetail
  dsimp only
  split
  · rename_i h
    refine setNotices_moves h rfl (fun _ h => h) fun hd y hw hq => ?_
    simp only [PerSource.get_set]
    split
    · subst y
      obtain hd' | rfl | rfl := hc
      · rw [hd] at hd'
        exact absurd hd' (by simp)
      · exact absurd rfl hw
      · exact absurd rfl hq
    · rfl
  · exact .refl s

theorem post_moves {src : Source} (hc : c.tells src) (x : Detail) (p : Port) (s : State) : Moves c s (post src x p s) :=
  reforming_moves ((storeDetail_moves hc p x s).trans (raiseMerge_moves p src _))

theorem postFault_moves (hc : c.details = true) (x : Detail) (s : State) : Moves c s (postFault x s) :=
  (post_moves (.inl hc) x .workstation s).trans (post_moves (.inl hc) x .positioner _)

theorem postWD_moves (hc : c.details = true) (src : Source) (x : Detail) (s : State) : Moves c s (postWD src x s) :=
  (post_moves (.inl hc) x .workstation s).trans (post_moves (.inl hc) x .adapter _)

/-! ### Completion lists -/

theorem setCompletions_moves {p : Port} (hc : c.lists p = true) (s : State) (l : List CompletionRecord) :
    Moves c s (s.setCompletions p l) :=
  .single (.port p _ ⟨rfl, rfl, fun h => h, fun _ => rfl, fun _ _ => rfl, by simp [hc], fun _ _ _ _ => rfl⟩)

theorem writeCompletion_moves {p : Port} (hc : c.lists p = true) (r : CompletionRecord) (s : State) :
    Moves c s (writeCompletion p r s) := by
  unfold writeCompletion
  split
  · apply reforming_moves
    dsimp only
    split
    · exact (setCompletions_moves hc s _).trans (raiseMerge_moves p _ _)
    · exact setCompletions_moves hc s _
  · refine .single (.port p _ ⟨rfl, rfl, fun h => ?_, fun _ => rfl, fun _ _ => rfl, by simp [hc], fun _ _ _ _ => rfl⟩)
    obtain ⟨h1, h2, h3⟩ := h
    exact ⟨h1, satSucc_le h2, h3⟩

theorem writeRecord_moves {j : JobRecord} (hc : c.lists j.submitter.port = true) (r : CompletionRecord) (s : State) :
    Moves c s (writeRecord j r s) := writeCompletion_moves hc r s

/-! ### Handshakes -/

theorem nextSequence_range (n : Nat) : 1 ≤ nextSequence n ∧ nextSequence n ≤ 255 := by
  unfold nextSequence
  split <;> omega

theorem setMove_moves {m : Option MoveRequest} {s : State}
    (h : s.handshake.sound → ∀ x, m = some x → 1 ≤ x.sequence ∧ x.sequence ≤ 255) : Moves c s (setMove m s) := by
  have one : Moves c s { s with handshake := { s.handshake with move := m } } :=
    setHandshake_moves (fun hs => by
      obtain ⟨h1, h2, h3, -, h5⟩ := id hs
      exact ⟨h1, h2, h3, h hs, h5⟩) rfl
  apply reforming_moves
  dsimp only
  split
  · exact one.trans (raiseMerge_moves .positioner .moveRequest _)
  · exact one

theorem setHead_moves {r : Option HeadRequest} {s : State}
    (h : s.handshake.sound → ∀ x, r = some x → 1 ≤ x.sequence ∧ x.sequence ≤ 255) : Moves c s (setHead r s) := by
  have one : Moves c s { s with handshake := { s.handshake with head := r } } :=
    setHandshake_moves (fun hs => by
      obtain ⟨h1, h2, h3, h4, -⟩ := id hs
      exact ⟨h1, h2, h3, h4, h hs⟩) rfl
  apply reforming_moves
  dsimp only
  split
  · exact one.trans (raiseMerge_moves .adapter .headRequest _)
  · exact one

theorem endMove_moves (e : MoveEnd) (s : State) : Moves c s (endMove e s) := by
  unfold endMove
  split
  · exact .refl s
  · exact .after (clearSettle_moves _) (.after (setMove_moves fun _ _ hx => by simp at hx) (setHandshake_moves (fun h => h) rfl))

theorem releaseMove_moves (s : State) : Moves c s (releaseMove s) := endMove_moves .released s

theorem postMoveWithdrawn_moves (n : Nat) (x : Cause) (s : State) : Moves c s (postMoveWithdrawn n x s) :=
  post_moves (.inr (.inl rfl)) _ _ s

theorem withdrawMove_moves (x : Cause) (s : State) : Moves c s (withdrawMove x s) := by
  unfold withdrawMove
  split
  · exact .refl s
  · exact (endMove_moves _ s).trans (postMoveWithdrawn_moves _ _ _)

theorem timeOutMove_moves (s : State) : Moves c s (timeOutMove s) := by
  unfold timeOutMove
  split
  · exact .refl s
  · exact (endMove_moves _ s).trans (postMoveWithdrawn_moves _ _ _)

theorem placeMove_moves (s : State) : Moves c s (placeMove s) := by
  unfold placeMove
  split
  · exact .refl s
  · rename_i r hr
    dsimp only
    refine .after (setMove_moves fun _ x hx => ?_) (.after (setHandshake_moves (fun h => ?_) rfl)
      (.after (releaseMove_moves _) (setActive_moves_quiet hr rfl)))
    · cases hx
      exact nextSequence_range _
    · obtain ⟨-, h2⟩ := h
      exact ⟨(nextSequence_range _).2, h2⟩

theorem setMovePhase_moves (ph : MovePhase) (s : State) : Moves c s (setMovePhase ph s) := by
  unfold setMovePhase
  split
  · exact .refl s
  · rename_i m hm
    refine setMove_moves fun hs x hx => ?_
    obtain ⟨-, -, -, h4, -⟩ := hs
    cases hx
    exact h4 m hm

theorem endHead_moves (e : HeadEnd) (s : State) : Moves c s (endHead e s) := by
  unfold endHead
  split
  · exact .refl s
  · exact .after (setHead_moves fun _ _ hx => by simp at hx) (setHandshake_moves (fun h => h) rfl)

theorem releaseHead_moves (s : State) : Moves c s (releaseHead s) := endHead_moves .released s

theorem postHeadWithdrawn_moves (n : Nat) (x : Cause) (s : State) : Moves c s (postHeadWithdrawn n x s) :=
  post_moves (.inr (.inl rfl)) _ _ s

theorem withdrawHead_moves (x : Cause) (s : State) : Moves c s (withdrawHead x s) := by
  unfold withdrawHead
  split
  · exact .refl s
  · exact (endHead_moves _ s).trans (postHeadWithdrawn_moves _ _ _)

theorem timeOutHead_moves (s : State) : Moves c s (timeOutHead s) := by
  unfold timeOutHead
  split
  · exact .refl s
  · exact (endHead_moves _ s).trans (postHeadWithdrawn_moves _ _ _)

theorem placeHeadFor_moves (h j : Nat) (s : State) : Moves c s (placeHeadFor h j s) := by
  unfold placeHeadFor
  refine .after (setHead_moves fun _ x hx => ?_) (setHandshake_moves (fun hs => ?_) rfl)
  · cases hx
    exact nextSequence_range _
  · obtain ⟨h1, -, h3⟩ := hs
    exact ⟨h1, (nextSequence_range _).2, h3⟩

theorem placeHead_moves (s : State) : Moves c s (placeHead s) := by
  unfold placeHead
  split
  · exact .refl s
  · split
    · exact placeHeadFor_moves _ _ s
    · exact .refl s

theorem setHeadPhase_moves (ph : HeadPhase) (s : State) : Moves c s (setHeadPhase ph s) := by
  unfold setHeadPhase
  split
  · exact .refl s
  · rename_i r hr
    refine setHead_moves fun hs x hx => ?_
    obtain ⟨-, -, -, -, h5⟩ := hs
    cases hx
    exact h5 r hr

theorem releaseBoth_moves (s : State) : Moves c s (releaseBoth s) := (releaseMove_moves s).trans (releaseHead_moves _)

theorem withdrawBoth_moves (x : Cause) (s : State) : Moves c s (withdrawBoth x s) :=
  (withdrawMove_moves x s).trans (withdrawHead_moves x _)

/-! ### The queue -/

theorem firstFree_range (held : List Nat) {cap : Nat} (hc : 1 ≤ cap) (fuel : Nat) {n : Nat} (h1 : 1 ≤ n) (h2 : n ≤ cap) :
    1 ≤ firstFree held cap fuel n ∧ firstFree held cap fuel n ≤ cap := by
  induction fuel generalizing n with
  | zero => exact ⟨h1, h2⟩
  | succ fuel ih =>
    unfold firstFree
    split
    · split
      · exact ih (by omega) (by omega)
      · exact ih (Nat.le_refl 1) hc
    · exact ⟨h1, h2⟩

theorem idAfter_range {cap n : Nat} (hc : 1 ≤ cap) (h2 : n ≤ cap) : 1 ≤ idAfter cap n ∧ idAfter cap n ≤ cap := by
  unfold idAfter
  split <;> omega

theorem acceptWith_moves (hc : c.jobs = true) (f : JobRecord → List JobRecord → List JobRecord) (w : JobWork) (x : JobClass)
    (b : Submitter) (g l : Option Nat) (s : State) : Moves c s (acceptWith f w x b g l s) := by
  refine .after (setStatus_moves hc w .queued _) (setJobs_moves hc fun _ hs => ?_)
  obtain ⟨h1, h2, h3⟩ := hs
  obtain ⟨-, hf⟩ := firstFree_range s.heldIds (by omega) 255 h1 h2
  obtain ⟨ha, hb⟩ := idAfter_range (cap := 255) (by omega) hf
  exact ⟨ha, hb, h3⟩

theorem accept_moves (hc : c.jobs = true) (w : JobWork) (x : JobClass) (b : Submitter) (g l : Option Nat) (s : State) :
    Moves c s (accept w x b g l s) := acceptWith_moves hc enqueue w x b g l s

theorem acceptAll_moves (hc : c.jobs = true) (x : JobClass) (g : Nat) (l : List (Nat × Nat)) (s : State) :
    Moves c s (acceptAll x g l s) := by
  induction l generalizing s with
  | nil => exact .refl s
  | cons y rest ih => exact (accept_moves hc _ _ _ _ _ s).trans (ih _)

theorem armSpace_moves (p : Port) (s : State) : Moves c s (armSpace p s) := by
  cases p with
  | workstation => exact setJobs_moves_quiet (fun _ h => h) rfl rfl rfl
  | positioner => exact setJobs_moves_quiet (fun _ h => h) rfl rfl rfl
  | adapter => exact .refl s

theorem postSpace_moves (s : State) : Moves c s (postSpace s) := by
  unfold postSpace
  dsimp only
  have one : Moves c s (s.setJobs { s.jobs with spaceW := false, spaceP := false }) :=
    setJobs_moves_quiet (fun _ h => h) rfl rfl rfl
  have tell : ∀ p t, Moves c t (post .queueSpace (.queueSpace s.freeSlots) p t) := fun p t => post_moves (.inr (.inr rfl)) _ p t
  split <;> split
  · exact (one.trans (tell .workstation _)).trans (tell .positioner _)
  · exact one.trans (tell .positioner _)
  · exact one.trans (tell .workstation _)
  · exact one

theorem memberGone_moves (hc : c.jobs = true) (g : Option Nat) (s : State) : Moves c s (memberGone g s) := by
  unfold memberGone
  split
  · exact .refl s
  · exact setJobs_moves hc fun _ h => h

theorem driftInterval_le {pr : Profile} (h : pr.sound) : pr.driftInterval ≤ 255 := by
  have h23 := (h.1 (23, 0) (by decide)).2
  simp only [Profile.range, Profile.param] at h23
  omega

theorem countDrift_moves (hc : c.jobs = true) (w : JobWork) (s : State) : Moves c s (countDrift w s) := by
  unfold countDrift
  split
  · split
    · rename_i hlt
      refine setJobs_moves hc fun hp hs => ?_
      obtain ⟨h1, h2, h3, h4, h5⟩ := hs
      have := driftInterval_le hp
      exact ⟨h1, h2, h3, h4, by simp only; omega⟩
    · exact .refl s
  · exact .refl s
  · exact .refl s

theorem clearDrift_sound {q : JobQueue} (h : q.sound) : ({ q with drift := 0, pendingZone := none } : JobQueue).sound := by
  obtain ⟨h1, h2, h3, h4, -⟩ := h
  exact ⟨h1, h2, h3, h4, Nat.zero_le _⟩

theorem clearDrift_moves (hc : c.jobs = true) (s : State) : Moves c s (clearDrift s) :=
  setJobs_moves hc fun _ h => clearDrift_sound h

theorem insertCheck_moves (hc : c.jobs = true) (s : State) : Moves c s (insertCheck s) := by
  unfold insertCheck
  split
  · exact .refl s
  · split
    · exact .after (setJobs_moves hc fun _ h => clearDrift_sound h) (acceptWith_moves hc _ _ _ _ _ _ s)
    · exact .refl s

theorem accountEnd_moves (hc : c.jobs = true) (j : JobRecord) (s : State) : Moves c s (accountEnd j s) :=
  ((memberGone_moves hc j.group s).trans (countDrift_moves hc j.work _)).trans (insertCheck_moves hc _)

theorem dropQueued_moves (hc : c.jobs = true) (j : JobRecord) (s : State) : Moves c s (dropQueued j s) :=
  .after (setStatus_moves hc j.work .idle _) (setJobs_moves hc fun _ h => h)

theorem dropStacked_moves (hc : c.jobs = true) (r : SearchRecord) (s : State) : Moves c s (dropStacked r s) :=
  (setStack_moves hc s _).trans (setStatus_moves hc r.job.work .idle _)

theorem cancelQueued_moves (hc : c.jobs = true) {j : JobRecord} (hl : c.lists j.submitter.port = true) (s : State) :
    Moves c s (cancelQueued j s) :=
  ((dropQueued_moves hc j s).trans (writeRecord_moves hl _ _)).trans (memberGone_moves hc j.group _)

theorem cancelStacked_moves (hc : c.jobs = true) {r : SearchRecord} (hl : c.lists r.job.submitter.port = true) (s : State) :
    Moves c s (cancelStacked r s) :=
  ((dropStacked_moves hc r s).trans (writeRecord_moves hl _ _)).trans (memberGone_moves hc r.job.group _)

theorem forQueued_moves {f : JobRecord → State → State} (hf : ∀ j s, Moves c s (f j s)) (l : List JobRecord) (s : State) :
    Moves c s (forQueued f l s) := by
  induction l generalizing s with
  | nil => exact .refl s
  | cons j rest ih => exact (hf j s).trans (ih _)

theorem forStacked_moves {f : SearchRecord → State → State} (hf : ∀ r s, Moves c s (f r s)) (l : List SearchRecord) (s : State) :
    Moves c s (forStacked f l s) := by
  induction l generalizing s with
  | nil => exact .refl s
  | cons r rest ih => exact (hf r s).trans (ih _)

/-! ### The engine -/

theorem beginWork_moves (hc : c.jobs = true) (r : SearchRecord) (s : State) : Moves c s (beginWork r s) := by
  have start : Moves c s (setStatus r.job.work .measuring (setActive (some r) (dropHome s))) :=
    ((dropHome_moves s).trans (setActive_moves hc _ _)).trans (setStatus_moves hc _ _ _)
  have state : ∀ e, Moves c s (setEngineState e (setStatus r.job.work .measuring (setActive (some r) (dropHome s)))) :=
    fun e => start.trans (setEngineState_moves hc e _)
  unfold beginWork
  dsimp only
  split
  · exact (state .moveWait).trans (placeMove_moves _)
  · split
    · exact (state .headWait).trans (placeHead_moves _)
    · exact (state .headWait).trans (askEngine_moves rfl _)
  · split
    · exact (state .headWait).trans (placeHead_moves _)
    · exact (state .headWait).trans (askEngine_moves rfl _)

theorem takeHead_moves (hc : c.jobs = true) (s : State) : Moves c s (takeHead s) := by
  unfold takeHead
  split
  · exact .refl s
  · exact .after (beginWork_moves hc _ _) (.after (postSpace_moves _) (setJobs_moves hc fun _ h => h))

theorem dropDwell_moves (s : State) : Moves c s (dropDwell s) := by
  unfold dropDwell
  dsimp only
  split
  · exact .after (flushFifo_moves _) (setEngine_moves_quiet rfl rfl rfl)
  · exact setEngine_moves_quiet rfl rfl rfl

theorem preempt_moves (hc : c.jobs = true) (s : State) : Moves c s (preempt s) := by
  unfold preempt
  split
  · exact .refl s
  · exact ((((dropDwell_moves s).trans (withdrawLookUp_moves _)).trans (withdrawBoth_moves _ _)).trans
      ((setStack_moves hc _ _).trans (setStatus_moves hc _ _ _))).trans (takeHead_moves hc _)

theorem tryPreempt_moves (hc : c.jobs = true) (s : State) : Moves c s (tryPreempt s) := by
  unfold tryPreempt
  split
  · exact preempt_moves hc s
  · exact .refl s

theorem resumeTop_moves (hc : c.jobs = true) (s : State) : Moves c s (resumeTop s) := by
  unfold resumeTop
  split
  · exact .refl s
  · exact (setStack_moves hc s _).trans (beginWork_moves hc _ _)

theorem enterPublish_moves (hc : c.jobs = true) (s : State) : Moves c s (enterPublish s) :=
  .after (askEngine_moves rfl _) (setEngine_moves hc rfl)

theorem advance_moves (hc : c.jobs = true) (s : State) : Moves c s (advance s) := by
  unfold advance
  split
  · split
    · exact enterPublish_moves hc s
    · split
      · split
        · exact (resumeTop_moves hc s).trans (tryPreempt_moves hc _)
        · exact .refl s
      · split
        · split
          · exact takeHead_moves hc s
          · exact .refl s
        · exact .refl s
  · exact tryPreempt_moves hc s

theorem clearActive_moves (hc : c.jobs = true) (r : SearchRecord) (s : State) : Moves c s (clearActive r s) :=
  (setStatus_moves hc r.job.work .idle s).trans (setEngine_moves hc rfl)

theorem afterJob_moves (hc : c.jobs = true) (f b : Bool) (s : State) : Moves c s (afterJob f b s) := by
  unfold afterJob
  split
  · exact .after (enterPublish_moves hc _) (setEngine_moves hc rfl)
  · split
    · exact setEngine_moves hc rfl
    · exact .after (advance_moves hc _) (setEngine_moves hc rfl)

theorem leaveWork_moves (s : State) : Moves c s (leaveWork s) := (dropDwell_moves s).trans (withdrawLookUp_moves _)

/-- The scope has the list to which the active job reports, unless the job ends CLEARED. -/
def Scope.reports (c : Scope) (o : JobOutcome) (s : State) : Prop :=
  o ≠ .cleared → ∀ r, s.engine.active = some r → c.lists r.job.submitter.port = true

theorem closeJob_moves (hc : c.jobs = true) {o : JobOutcome} {s : State} (hl : c.reports o s) : Moves c s (closeJob o s) := by
  unfold closeJob
  split
  · exact .refl s
  · rename_i r hr
    have leave : Moves c s (withdrawBoth (.ended o) (leaveWork s)) := (leaveWork_moves s).trans (withdrawBoth_moves _ _)
    dsimp only
    split
    · exact leave.trans (clearActive_moves hc _ _)
    · exact ((leave.trans (writeRecord_moves (hl ‹_› r hr) _ _)).trans (clearActive_moves hc _ _)).trans (accountEnd_moves hc _ _)

theorem endJob_moves (hc : c.jobs = true) {o : JobOutcome} {s : State} (hl : c.reports o s) : Moves c s (endJob o s) := by
  unfold endJob
  split
  · exact .refl s
  · exact (closeJob_moves hc hl).trans (afterJob_moves hc _ _ _)

theorem endArrived_moves (hc : c.jobs = true) {r : SearchRecord} (hl : c.lists r.job.submitter.port = true) (s : State) :
    Moves c s (endArrived r s) :=
  ((((leaveWork_moves s).trans (releaseBoth_moves _)).trans (writeRecord_moves hl _ _)).trans
    ((clearActive_moves hc _ _).trans (accountEnd_moves hc _ _))).trans (afterJob_moves hc _ _ _)

theorem stageJob_moves (hc : c.jobs = true) (o : JobOutcome) (part : StagedPart) (s : State) : Moves c s (stageJob o part s) :=
  .after (askEngine_moves rfl _) (.after (setEngine_moves hc rfl) ((leaveWork_moves s).trans (releaseBoth_moves _)))

theorem takeFault_moves (hc : c.jobs = true) {o : JobOutcome} {s : State} (hl : c.reports o s) : Moves c s (takeFault o s) := by
  unfold takeFault
  split
  · exact setEngineState_moves hc _ s
  · exact endJob_moves hc hl
  · exact endJob_moves hc hl
  · exact endJob_moves hc hl
  · exact endJob_moves hc hl
  · exact setEngine_moves hc rfl
  · exact setEngine_moves hc rfl
  · exact .refl s

end Sys2Proof.Machine
end

section
/-! SUPPORT. The search, the handshakes' turns, the Sample Path and the Position Frame as runs of small changes. -/

namespace Sys2Proof.Machine

variable {c : Scope}

theorem Scope.reports_of_lists (hl : ∀ p, c.lists p = true) (o : JobOutcome) (s : State) : c.reports o s :=
  fun _ _ _ => hl _

/-! ### The states of a job -/

theorem startDwell_moves (hc : c.jobs = true) (s : State) : Moves c s (startDwell s) :=
  .after (flushFifo_moves _) (setEngine_moves hc rfl)

theorem enterDwell_moves (hc : c.jobs = true) (hl : ∀ p, c.lists p = true) (s : State) : Moves c s (enterDwell s) := by
  unfold enterDwell
  split
  · exact endJob_moves hc (Scope.reports_of_lists hl _ s)
  · exact startDwell_moves hc s

theorem enterSettling_moves (hc : c.jobs = true) (hl : ∀ p, c.lists p = true) (s : State) : Moves c s (enterSettling s) := by
  unfold enterSettling
  split
  · exact endJob_moves hc (Scope.reports_of_lists hl _ s)
  · exact setEngineState_moves hc _ s

theorem headReady_moves (hc : c.jobs = true) (hl : ∀ p, c.lists p = true) (s : State) : Moves c s (headReady s) := by
  have ready : Moves c s (setHeadPhase .ready (s.setHandshake { s.handshake with headSettle := .stopped })) :=
    .after (setHeadPhase_moves _ _) (setHandshake_moves (fun h => h) rfl)
  unfold headReady
  dsimp only
  split
  · split
    · exact (ready.trans (setEngineState_moves hc _ _)).trans (placeMove_moves _)
    · split
      · exact ready.trans (setEngineState_moves hc _ _)
      · exact ready.trans (setEngineState_moves hc _ _)
      · exact ready.trans (enterSettling_moves hc hl _)
      · exact ready.trans (enterDwell_moves hc hl _)
  · exact ready

theorem settleMet_moves (hc : c.jobs = true) (hl : ∀ p, c.lists p = true) (s : State) : Moves c s (settleMet s) := by
  unfold settleMet
  dsimp only
  set s' := setMovePhase .settled _ with hs'
  have met : Moves c s s' := .after (setMovePhase_moves _ _) (.after (setHandshake_moves (fun h => h) rfl)
    (stillFrame_moves s s.frame.home .met .stopped))
  split
  · split
    · split
      · exact met.trans (enterDwell_moves hc hl _)
      · exact met.trans (endArrived_moves hc (hl _) _)
    · exact met
  · exact met

theorem settleEvaluate_moves (hc : c.jobs = true) (hl : ∀ p, c.lists p = true) (s : State) : Moves c s (settleEvaluate s) := by
  unfold settleEvaluate
  split
  · split
    · exact settleMet_moves hc hl s
    · exact stillFrame_moves s s.frame.home .timing _
  · exact stillFrame_moves s s.frame.home .outside .stopped

theorem settleLoss_moves (hc : c.jobs = true) (hl : ∀ p, c.lists p = true) (s : State) : Moves c s (settleLoss s) := by
  unfold settleLoss
  dsimp only
  set s' := setMovePhase .done _ with hs'
  have loss : Moves c s s' := .after (setMovePhase_moves _ _) (.after (setHandshake_moves (fun h => h) rfl)
    (stillFrame_moves s s.frame.home .outside .stopped))
  split
  · exact (loss.trans (dropDwell_moves _)).trans (enterSettling_moves hc hl _)
  · exact loss

theorem settleSample_moves (hc : c.jobs = true) (hl : ∀ p, c.lists p = true) (s : State) : Moves c s (settleSample s) := by
  unfold settleSample
  split
  · exact .refl s
  · split
    · exact settleEvaluate_moves hc hl s
    · exact .refl s
  · split
    · exact .refl s
    · exact stillFrame_moves s s.frame.home .outside .stopped
  · split
    · exact .refl s
    · exact settleLoss_moves hc hl s

/-! ### The search -/

theorem countReject_moves (hc : c.jobs = true) (s : State) : Moves c s (countReject s) := by
  unfold countReject
  split
  · exact .refl s
  · dsimp only
    split
    · exact .after (stageJob_moves hc _ _ _) (setEngine_moves hc rfl)
    · exact setEngine_moves hc rfl

theorem goTo_moves (hc : c.jobs = true) (r : SearchRecord) (s : State) : Moves c s (goTo r s) :=
  (((dropDwell_moves s).trans (setEngineState_moves hc _ _)).trans (setActive_moves hc _ _)).trans (placeMove_moves _)

theorem applyDwell_moves (hc : c.jobs = true) (r : SearchRecord) (mean : Int) (s : State) : Moves c s (applyDwell r mean s) := by
  have stage : ∀ x o part, Moves c s (stageJob o part (setActive x s)) := fun x o part =>
    (setActive_moves hc x s).trans (stageJob_moves hc o part _)
  unfold applyDwell
  split
  · exact goTo_moves hc _ s
  · unfold applyStep
    dsimp only
    split
    · exact stage _ _ _
    · exact goTo_moves hc _ s
  · unfold applyVerify
    dsimp only
    split
    · exact stage _ _ _
    · split
      · exact stage _ _ _
      · split
        · exact stage _ _ _
        · exact goTo_moves hc _ s

theorem completeDwell_moves (hc : c.jobs = true) (r : SearchRecord) (s : State) : Moves c s (completeDwell r s) := by
  unfold completeDwell
  dsimp only
  split
  · exact (setActive_moves hc _ s).trans (applyDwell_moves hc _ _ _)
  · split
    · exact stageJob_moves hc _ _ s
    · exact (setActive_moves hc _ s).trans (startDwell_moves hc _)

theorem countAccept_moves (hc : c.jobs = true) (x : Int) (s : State) : Moves c s (countAccept x s) := by
  unfold countAccept
  split
  · exact .refl s
  · dsimp only
    split
    · exact .after (completeDwell_moves hc _ _) (setEngine_moves hc rfl)
    · exact setEngine_moves hc rfl

/-! ### The Sample Path -/

theorem setSample_moves (hc : c.sample = true) {s : State} {sp : SamplePath}
    (h : s.store.profile.sound → s.sample.sound → sp.sound) : Moves c s (s.setSample sp) := .single (.sample sp h (by simp [hc]))

theorem Profile.sound.wedges_le {pr : Profile} (h : pr.sound) : pr.wedges ≤ 512 := by
  have h4 := (h.1 (4, 0) (by decide)).2
  simp only [Profile.range, Profile.param] at h4
  omega

theorem SamplePath.sound.advance {sp : SamplePath} (h : sp.sound) {w : Nat} (hw : w ≤ 512) : (sp.advance w).sound := by
  obtain ⟨h1, h2, h3⟩ := h
  unfold SamplePath.advance
  split
  · exact ⟨Nat.zero_le _, Nat.mod_lt _ (by omega), h3⟩
  · exact ⟨by simp only; omega, h2, h3⟩

theorem State.wedgesPerRevolution_le {s : State} (h : s.store.profile.sound) : s.wedgesPerRevolution ≤ 512 := by
  unfold State.wedgesPerRevolution
  split
  · exact h.wedges_le
  · exact Nat.le_refl _

theorem SamplePath.sound.runs {sp : SamplePath} (h : sp.sound) {locked : Bool} {missed good : Nat} {loss : LossTimer}
    (hm : missed ≤ 8) (hg : good ≤ 4) :
    ({ sp with locked := locked, missedRun := missed, goodRun := good, loss := loss } : SamplePath).sound := by
  obtain ⟨h1, h2, -, -, h5⟩ := h
  exact ⟨h1, h2, hm, hg, h5⟩

theorem servoLost_moves (hc : c.sample = true) (hd : c.details = true) (s : State) : Moves c s (servoLost s) :=
  .after (post_moves (.inl hd) _ _ _) (.after (flushFifo_moves _)
    (setSample_moves hc fun _ h => h.runs (Nat.zero_le _) (Nat.zero_le _)))

theorem servoRegained_moves (hc : c.sample = true) (hd : c.details = true) (s : State) : Moves c s (servoRegained s) :=
  .after (post_moves (.inl hd) _ _ _) (setSample_moves hc fun _ h => h.runs (Nat.zero_le _) (Nat.zero_le _))

theorem judgeLock_moves (hc : c.sample = true) (hd : c.details = true) (good : Bool) (s : State) : Moves c s (judgeLock good s) := by
  unfold judgeLock
  split
  · split
    · exact setSample_moves hc fun _ h => h.runs (Nat.zero_le _) (by obtain ⟨-, -, -, h4, -⟩ := h; exact h4)
    · split
      · exact servoLost_moves hc hd s
      · exact setSample_moves hc fun _ h => h.runs (by omega) (by obtain ⟨-, -, -, h4, -⟩ := h; exact h4)
  · split
    · split
      · exact servoRegained_moves hc hd s
      · exact setSample_moves hc fun _ h => h.runs (by obtain ⟨-, -, h3, -⟩ := h; exact h3) (by omega)
    · exact setSample_moves hc fun _ h => h.runs (by obtain ⟨-, -, h3, -⟩ := h; exact h3) (Nat.zero_le _)

theorem joinFifo_moves (hj : c.jobs = true) (hc : c.sample = true) (r : WedgeRecord) (s : State) : Moves c s (joinFifo r s) := by
  unfold joinFifo
  split
  · exact setSample_moves hc fun _ h => h
  · refine .after (countReject_moves hj _) (setSample_moves hc fun _ h => ?_)
    obtain ⟨h1, h2, h3, h4, h5, h6, h7⟩ := h
    exact ⟨h1, h2, h3, h4, h5, satSucc_le h6, h7⟩

theorem wedgeArrival_moves (hj : c.jobs = true) (hc : c.sample = true) (hd : c.details = true) (r : WedgeRecord) (s : State) :
    Moves c s (wedgeArrival r s) := by
  have count : Moves c s (s.setSample (s.sample.advance s.wedgesPerRevolution)) :=
    setSample_moves hc fun hp h => h.advance (State.wedgesPerRevolution_le hp)
  unfold wedgeArrival
  dsimp only
  split
  · exact (count.trans (judgeLock_moves hc hd _ _)).trans (joinFifo_moves hj hc r _)
  · exact count.trans (judgeLock_moves hc hd _ _)

theorem startWindow_moves (hc : c.sample = true) (s : State) : Moves c s (startWindow s) := setSample_moves hc fun _ h => h

theorem SamplePath.sound.nextRevolution {sp : SamplePath} (h : sp.sound) {aligned : Bool} {slips : Nat} (hs : slips ≤ 65535) :
    ({ sp with wedge := 0, aligned := aligned, slips := slips } : SamplePath).nextRevolution.sound := by
  obtain ⟨-, -, h3, h4, -, h6⟩ := h
  exact ⟨Nat.zero_le _, Nat.mod_lt _ (by omega), h3, h4, hs, h6⟩

theorem alignCounter_moves (hc : c.sample = true) (s : State) : Moves c s (alignCounter s) :=
  setSample_moves hc fun _ h => h.nextRevolution (by obtain ⟨-, -, -, -, h5, -⟩ := h; exact h5)

theorem restartDwell_moves (s : State) : Moves c s (restartDwell s) := by
  unfold restartDwell
  split
  · exact setEngine_moves_quiet rfl rfl rfl
  · exact .refl s

theorem indexSlip_moves (hc : c.sample = true) (hd : c.details = true) (s : State) : Moves c s (indexSlip s) :=
  .after (restartDwell_moves _) (.after (post_moves (.inl hd) _ _ _) (.after (flushFifo_moves _)
    (setSample_moves hc fun _ h => h.nextRevolution (by obtain ⟨-, -, -, -, h5, -⟩ := h; exact satSucc_le h5))))

theorem SamplePath.sound.countKind {sp : SamplePath} (h : sp.sound) (k : Class) : (sp.countKind k).sound := by
  obtain ⟨h1, h2, h3, h4, h5, h6, h7, h8, h9, h10⟩ := h
  cases k with
  | accepted _ => exact ⟨h1, h2, h3, h4, h5, h6, h7, h8, h9, h10⟩
  | noSync => exact ⟨h1, h2, h3, h4, h5, h6, satSucc_le h7, h8, h9, h10⟩
  | dropout => exact ⟨h1, h2, h3, h4, h5, h6, h7, satSucc_le h8, h9, h10⟩
  | noTid => exact ⟨h1, h2, h3, h4, h5, h6, h7, h8, satSucc_le h9, h10⟩
  | far => exact ⟨h1, h2, h3, h4, h5, h6, h7, h8, h9, satSucc_le h10⟩

theorem takeSample_moves (hj : c.jobs = true) (hc : c.sample = true) (r : WedgeRecord) (rest : List WedgeRecord) (s : State) :
    Moves c s (takeSample r rest s) := by
  have count : Moves c s (s.setSample (({ s.sample with fifo := rest } : SamplePath).countKind
      (classify s.store.profile.burstFloor s.targetTrack r))) :=
    setSample_moves hc fun _ h => SamplePath.sound.countKind (sp := { s.sample with fifo := rest }) h _
  unfold takeSample applyClass
  dsimp only
  split
  · exact count.trans (countAccept_moves hj _ _)
  · exact count.trans (countReject_moves hj _)
  · exact count.trans (countReject_moves hj _)
  · exact count.trans (countReject_moves hj _)
  · exact count.trans (countReject_moves hj _)

/-! ### The Position Frame -/

theorem setFrame_moves (hc : c.frame = true) {s : State} {f : PositionFrame}
    (h : s.store.profile.sound → s.frame.sound → f.sound) : Moves c s (s.setFrame f) := .single (.frame f h (by simp [hc]))

theorem testTravel_moves (hj : c.jobs = true) (hl : ∀ p, c.lists p = true) (hd : c.details = true) (hc : c.frame = true) (s : State) :
    Moves c s (testTravel s) := by
  have look : ∀ x, Moves c s { s with frame := { s.frame with travel := x } } := fun x => setFrame_moves hc fun _ h => h
  unfold testTravel
  dsimp only
  split
  · split
    · exact .after (takeFault_moves hj (Scope.reports_of_lists hl _ _)) (.after (postFault_moves hd _ _) (look _))
    · exact look _
  · exact .refl s

theorem positionerFault_moves (hj : c.jobs = true) (hl : ∀ p, c.lists p = true) (hd : c.details = true) (s : State) :
    Moves c s (positionerFault s) :=
  .after (takeFault_moves hj (Scope.reports_of_lists hl _ _)) (postFault_moves hd _ s)

theorem encoderFault_moves (hj : c.jobs = true) (hl : ∀ p, c.lists p = true) (hd : c.details = true) (hc : c.frame = true) (s : State) :
    Moves c s (encoderFault s) :=
  .after (takeFault_moves hj (Scope.reports_of_lists hl _ _)) (.after (postFault_moves hd _ _) (setFrame_moves hc fun _ h => by
    obtain ⟨h1, h2, h3, h4⟩ := h
    exact ⟨h1, h2, satSucc_le h3, h4⟩))

theorem wrap24_range (x : Int) : -8388608 ≤ wrap24 x ∧ wrap24 x ≤ 8388607 := by
  unfold wrap24
  omega

theorem InputFilter.step_run {f : InputFilter} {n : Nat} (x : Bool) (hn : n ≤ 8) (hf : f.run ≤ 8) : (f.step n x).run ≤ 8 := by
  unfold InputFilter.step
  split
  · exact Nat.zero_le _
  · split
    · exact Nat.zero_le _
    · simp only
      omega

theorem PositionFrame.sound.filtered {f : PositionFrame} (h : f.sound) (a b z pf : Bool) : (f.filtered a b z pf).sound := by
  obtain ⟨h1, h2, h3, h4, h5, h6, h7, h8, h9⟩ := h
  exact ⟨h1, h2, h3, h4, h5, InputFilter.step_run a h5 h6, InputFilter.step_run b h5 h7, InputFilter.step_run z h5 h8,
    InputFilter.step_run pf h5 h9⟩

theorem PositionFrame.sound.counted {f : PositionFrame} (h : f.sound) {x : Int} (hx : -8388608 ≤ x ∧ x ≤ 8388607) (y : HomeState) :
    ({ f with count := x, home := y } : PositionFrame).sound := by
  obtain ⟨-, -, h3⟩ := h
  exact ⟨hx.1, hx.2, h3⟩

theorem countStage_moves (hj : c.jobs = true) (hl : ∀ p, c.lists p = true) (hd : c.details = true) (hc : c.frame = true)
    (b : PositionFrame) (s : State) : Moves c s (countStage b s) := by
  unfold countStage
  split
  · exact encoderFault_moves hj hl hd hc s
  · exact setFrame_moves hc fun _ h => h.counted (wrap24_range _) _

theorem Profile.sound.homeValue_range {pr : Profile} (h : pr.sound) : -8388608 ≤ pr.homeValue ∧ pr.homeValue ≤ 8388607 :=
  h.1 (26, 0) (by decide)

theorem captureStage_moves (hc : c.frame = true) (b : PositionFrame) (s : State) : Moves c s (captureStage b s) := by
  unfold captureStage
  split
  · exact setFrame_moves hc fun hp h => h.counted hp.homeValue_range _
  · exact .refl s

theorem filterSample_moves (hj : c.jobs = true) (hl : ∀ p, c.lists p = true) (hd : c.details = true) (hc : c.frame = true)
    (a b z pf : Bool) (s : State) : Moves c s (filterSample a b z pf s) := by
  have travel : ∀ b s, Moves c s (travelStage b s) := fun b s => by
    unfold travelStage
    split
    · exact .refl s
    · exact testTravel_moves hj hl hd hc s
  have pfault : ∀ b s, Moves c s (pfaultStage b s) := fun b s => by
    unfold pfaultStage
    split
    · exact positionerFault_moves hj hl hd s
    · exact .refl s
  have settle : ∀ b s, Moves c s (settleStage b s) := fun b s => by
    unfold settleStage
    split
    · exact .refl s
    · exact settleSample_moves hj hl s
  exact .after (settle _ _) (.after (pfault _ _) (.after (travel _ _) (.after (captureStage_moves hc _ _)
    (.after (countStage_moves hj hl hd hc _ _) (setFrame_moves hc fun _ h => h.filtered a b z pf)))))

theorem firstFilterSample_moves (hj : c.jobs = true) (hl : ∀ p, c.lists p = true) (hd : c.details = true) (hc : c.frame = true)
    (a b z pf : Bool) (s : State) : Moves c s (firstFilterSample a b z pf s) := by
  have levels : Moves c s (s.setFrame { s.frame with
      encA := ⟨a, 0⟩, encB := ⟨b, 0⟩, encZ := ⟨z, 0⟩, pfault := ⟨pf, 0⟩, sampled := true }) :=
    setFrame_moves hc fun _ h => by
      obtain ⟨h1, h2, h3, h4, h5, -⟩ := h
      exact ⟨h1, h2, h3, h4, h5, Nat.zero_le _, Nat.zero_le _, Nat.zero_le _, Nat.zero_le _⟩
  unfold firstFilterSample
  dsimp only
  split
  · exact levels.trans (positionerFault_moves hj hl hd _)
  · exact levels

end Sys2Proof.Machine
end

section
/-! SUPPORT. The commands by what they reach: those that answer at once after a run of small changes, those that ask for the grant,
and the events that are such a run. -/

namespace Sys2Proof.Machine

variable {c : Scope}

/-! ### What a request comes to -/

/-- A request is dropped, refused, or handed to its block with the slot PENDING, past the checks of R191. -/
theorem request_cases (i : Instr) (p : Port) (a : Access) (body : State → State) (s : State) :
    ((s.port p).slot ≠ .empty ∧ request i p a body s = dropRequest p s)
      ∨ ((s.port p).slot = .empty ∧ ∃ st, request i p a body s = answer p i.tag { status := st } (s.setSlot p (.pending i)))
      ∨ ((s.port p).slot = .empty ∧ s.commonRefusal p a = none ∧ request i p a body s = body (s.setSlot p (.pending i))) := by
  unfold request
  split
  · split
    · exact .inr (.inl ⟨‹_›, _, rfl⟩)
    · exact .inr (.inr ⟨‹_›, ‹_›, rfl⟩)
  · exact .inl ⟨‹_›, rfl⟩

/-- Past the common refusals the sender is one of those the request is accepted from (R191). -/
theorem State.sender_of_commonRefusal {s : State} {p : Port} {a : Access} (h : s.commonRefusal p a = none) : p ∈ a.senders := by
  unfold State.commonRefusal at h
  split at h
  · simp at h
  · split at h
    · simp at h
    · simpa using ‹¬ p ∉ a.senders›

/-- An answer at once, after a run of small changes. -/
def Answers (c : Scope) (p : Port) (s t : State) : Prop := ∃ tag a u, Moves c s u ∧ t = answer p tag a u

/-- A cursor that stays, or one whose range lies in the table (R167). -/
def LinkPort.admits (l : LinkPort) (x : Option Cursor) : Prop :=
  x = l.cursor ∨ ∃ y, x = some y ∧ y.next ≤ y.last ∧ y.last ≤ 191

/-- An asking for the grant with an operation in the table, after a run of small changes and a new cursor. -/
def Asks (c : Scope) (p : Port) (s t : State) : Prop :=
  ∃ op u x, Moves c s u ∧ (s.store.profile.sound → op.inTable = true) ∧ (u.port p).admits x
    ∧ t = askGrant (Port.client p) op (u.setCursor p x)

/-- A request that is dropped, answered at once after a run of small changes, or asks for the grant after one. -/
def Served (c : Scope) (p : Port) (s t : State) : Prop :=
  ((s.port p).slot ≠ .empty ∧ t = dropRequest p s)
    ∨ ((s.port p).slot = .empty ∧ ∃ i, Answers c p (s.setSlot p (.pending i)) t ∨ Asks c p (s.setSlot p (.pending i)) t)

theorem request_served {i : Instr} {p : Port} {a : Access} {body : State → State}
    (h : ∀ s, Answers c p s (body s) ∨ Asks c p s (body s)) (s : State) : Served c p s (request i p a body s) := by
  obtain ⟨hs, e⟩ | ⟨hs, st, e⟩ | ⟨hs, -, e⟩ := request_cases i p a body s
  · exact .inl ⟨hs, e⟩
  · exact .inr ⟨hs, i, .inl ⟨_, _, _, .refl _, e⟩⟩
  · rw [e]
    exact .inr ⟨hs, i, h _⟩

@[simp] theorem State.setCursor_self (s : State) (p : Port) : s.setCursor p (s.port p).cursor = s := by
  cases p <;> rfl

theorem askGrant_asks {p : Port} {op : TableOp} {s u : State} (hm : Moves c s u) (h : s.store.profile.sound → op.inTable = true) :
    Asks c p s (askGrant (Port.client p) op u) := ⟨op, u, _, hm, h, .inl rfl, by rw [State.setCursor_self]⟩

theorem reply_answers {p : Port} {s u : State} (tag : Byte) (l : List Byte) (h : Moves c s u) : Answers c p s (reply p tag l u) :=
  ⟨tag, _, u, h, rfl⟩

theorem refuse_answers {p : Port} {s u : State} (tag : Byte) (st : Status) (h : Moves c s u) : Answers c p s (refuse p tag st u) :=
  ⟨tag, _, u, h, rfl⟩

theorem answer_answers {p : Port} {s u : State} (tag : Byte) (a : Answer) (h : Moves c s u) : Answers c p s (answer p tag a u) :=
  ⟨tag, _, u, h, rfl⟩

/-! ### Link ports and notices -/

theorem setPort_moves {p : Port} {x : LinkPort} {s : State} (hp : c.ports p = true) (hd : c.details = true)
    (hslot : x.slot = (s.port p).slot) (hcur : x.cursor = (s.port p).cursor) (hs : (s.port p).sound → x.sound)
    (hl : x.completions = (s.port p).completions ∧ x.overflow = (s.port p).overflow) : Moves c s (s.setPort p x) :=
  .single (.port p x ⟨hslot, hcur, hs, by simp [hp], by simp [hp], fun _ => hl, by simp [hd]⟩)

theorem setNotices_moves_settings {p : Port} {u : NoticeUnit} {s : State} (hp : c.ports p = true) (hd : c.details = true)
    (hb : (s.port p).notices.baseCode ≤ 15 → u.baseCode ≤ 15)
    (hm : ∀ src, (s.port p).notices.merge.get src ≤ 255 → u.merge.get src ≤ 255) : Moves c s (s.setNotices p u) :=
  setPort_moves hp hd rfl rfl (fun hs => by
    obtain ⟨h1, h2, h3, h4, h5⟩ := hs
    exact ⟨h1, h2, hb h3, fun src => hm src (h4 src), h5⟩) ⟨rfl, rfl⟩

theorem detachPort_moves {p : Port} (hp : c.ports p = true) (hd : c.details = true) (s : State) : Moves c s (detachPort p s) :=
  .after (setNotices_moves_settings hp hd (fun h => h) fun _ h => h) (setPort_moves hp hd rfl rfl (fun h => h) ⟨rfl, rfl⟩)

theorem windowArg_sound {base size : Byte} {w : Window} (h : windowArg base size = some w) :
    w.size ∈ [1, 2, 4, 8, 16] ∧ w.base % w.size = 0 ∧ w.base + w.size ≤ 16 := by
  unfold windowArg at h
  split at h
  · rename_i n hn
    split at h
    · cases h
      have hsize : n = 1 ∨ n = 2 ∨ n = 4 ∨ n = 8 ∨ n = 16 := by
        unfold sizeArg at hn
        split at hn
        · rename_i hs
          cases hn
          obtain rfl | rfl | rfl | rfl | rfl := hs <;> decide
        · simp at hn
      obtain rfl | rfl | rfl | rfl | rfl := hsize <;> simp <;> omega
    · simp at h
  · simp at h

theorem setWindowOf_moves {p : Port} {w : Window} (hp : c.ports p = true) (hd : c.details = true)
    (hw : w.size ∈ [1, 2, 4, 8, 16] ∧ w.base % w.size = 0 ∧ w.base + w.size ≤ 16) (s : State) : Moves c s (setWindowOf p w s) :=
  setPort_moves hp hd rfl rfl (fun hs => by
    obtain ⟨h1, h2, h3, h4, -, -, -, h8⟩ := hs
    exact ⟨h1, h2, h3, h4, hw.1, hw.2.1, hw.2.2, h8⟩) ⟨rfl, rfl⟩

theorem takeSource_moves {p : Port} (hp : c.ports p = true) (hd : c.details = true) (src : Source) (s : State) :
    Moves c s (takeSource p src s) :=
  setNotices_moves_settings hp hd (fun h => h) fun x hx => by
    simp only [NoticeUnit.take, PerSource.get_set]
    split
    · exact Nat.zero_le _
    · exact hx

theorem setMode_moves {p : Port} {m : LineMode} {tr : Bool} {b : Nat} (hp : c.ports p = true) (hd : c.details = true) (hb : b ≤ 15)
    (s : State) : Moves c s (setMode p m tr b s) :=
  .after (pulseIfEligible_moves p _) (setNotices_moves_settings hp hd (fun _ => hb) fun _ h => h)

theorem setOverflow_moves {p : Port} (hl : c.lists p = true) (s : State) : Moves c s (setOverflow p 0 s) :=
  .single (.port p _ ⟨rfl, rfl, fun h => by
    obtain ⟨h1, -, h3⟩ := h
    exact ⟨h1, Nat.zero_le _, h3⟩, fun _ => rfl, fun _ _ => rfl, by simp [hl], fun _ _ _ _ => rfl⟩)

/-! ### Jobs -/

theorem submitJob_answers (hc : c.jobs = true) (p : Port) (tag : Byte) (w : JobWork) (x : JobClass) (b : Submitter) (l : Option Nat)
    (s : State) : Answers c p s (submitJob p tag w x b l s) :=
  reply_answers tag _ ((accept_moves hc w x b none l s).trans (advance_moves hc _))

theorem refuseSubmission_answers (p : Port) (tag : Byte) (st : Status) (s : State) : Answers c p s (refuseSubmission p tag st s) := by
  unfold refuseSubmission
  split
  · exact refuse_answers tag st (armSpace_moves p s)
  · exact refuse_answers tag st (.refl s)

theorem openGroup_moves (hc : c.jobs = true) (n : Nat) (b : Bool) (s : State) : Moves c s (openGroup n b s) :=
  setJobs_moves hc fun _ h => by
    obtain ⟨h1, h2, h3, h4, h5⟩ := h
    obtain ⟨-, hf⟩ := firstFree_range (s.jobs.groups.map Group.id) (by omega) 15 h3 h4
    obtain ⟨ha, hb⟩ := idAfter_range (cap := 15) (by omega) hf
    exact ⟨h1, h2, ha, hb, h5⟩

theorem submitSweep_answers (hc : c.jobs = true) (p : Port) (tag : Byte) (x : JobClass) (b : Bool) (m : List (Nat × Nat)) (k : Nat)
    (s : State) : Answers c p s (submitSweep p tag x b m k s) :=
  reply_answers tag _ (((openGroup_moves hc _ _ s).trans (acceptAll_moves hc _ _ _ _)).trans (advance_moves hc _))

theorem cancelJob_answers (hc : c.jobs = true) (hl : ∀ p, c.lists p = true) (p : Port) (tag : Byte) (x : JobPlace) (s : State) :
    Answers c p s (cancelJob p tag x s) := by
  unfold cancelJob
  split
  · exact reply_answers tag _ (((cancelQueued_moves hc (hl _) s).trans (postSpace_moves _)).trans (advance_moves hc _))
  · split
    · exact reply_answers tag _ (endJob_moves hc (Scope.reports_of_lists hl _ s))
    · exact refuse_answers tag _ (.refl s)
  · exact reply_answers tag _ ((cancelStacked_moves hc (hl _) s).trans (advance_moves hc _))

theorem cancelForm_answers (hc : c.jobs = true) (hl : ∀ p, c.lists p = true) (p : Port) (tag id : Byte) (s : State) :
    Answers c p s (cancelForm p tag id s) := by
  unfold cancelForm
  split
  · exact refuse_answers tag _ (.refl s)
  · split
    · exact refuse_answers tag _ (.refl s)
    · split
      · exact refuse_answers tag _ (.refl s)
      · exact cancelJob_answers hc hl p tag _ s

theorem cancelMembers_answers (hc : c.jobs = true) (hl : ∀ p, c.lists p = true) (p : Port) (tag : Byte) (id : Nat) (s : State) :
    Answers c p s (cancelMembers p tag id s) := by
  have mark : Moves c s (markCancelled id s) := setJobs_moves hc fun _ h => h
  have queued : ∀ l s, Moves c s (forQueued cancelQueued l s) := forQueued_moves fun j s => cancelQueued_moves hc (hl _) s
  have stacked : ∀ l s, Moves c s (forStacked cancelStacked l s) := forStacked_moves fun r s => cancelStacked_moves hc (hl _) s
  unfold cancelMembers
  dsimp only
  apply reply_answers
  split <;> split
  · exact ((mark.trans (queued _ _)).trans (stacked _ _)).trans (endJob_moves hc (Scope.reports_of_lists hl _ _))
  · exact (((mark.trans (queued _ _)).trans (postSpace_moves _)).trans (stacked _ _)).trans
      (endJob_moves hc (Scope.reports_of_lists hl _ _))
  · exact ((mark.trans (queued _ _)).trans (stacked _ _)).trans (advance_moves hc _)
  · exact (((mark.trans (queued _ _)).trans (postSpace_moves _)).trans (stacked _ _)).trans (advance_moves hc _)

theorem cancelGroupForm_answers (hc : c.jobs = true) (hl : ∀ p, c.lists p = true) (p : Port) (tag id : Byte) (s : State) :
    Answers c p s (cancelGroupForm p tag id s) := by
  unfold cancelGroupForm
  split
  · exact refuse_answers tag _ (.refl s)
  · split
    · exact refuse_answers tag _ (.refl s)
    · split
      · exact refuse_answers tag _ (.refl s)
      · split
        · exact refuse_answers tag _ (.refl s)
        · exact cancelMembers_answers hc hl p tag _ s

/-! ### Handshakes -/

theorem acceptMoveDone_moves (hc : c.jobs = true) (hl : ∀ p, c.lists p = true) (n : Byte) (s : State) :
    Moves c s (acceptMoveDone n s) := by
  have test : ∀ s, Moves c s (startSettleTest n s) := fun s => by
    unfold startSettleTest
    split
    · split
      · exact settleEvaluate_moves hc hl s
      · exact .refl s
    · exact .refl s
  unfold acceptMoveDone
  dsimp only
  split
  · exact ((setMovePhase_moves _ s).trans (enterSettling_moves hc hl _)).trans (test _)
  · exact (setMovePhase_moves _ s).trans (test _)

theorem refuseMove_moves (hc : c.jobs = true) (hl : ∀ p, c.lists p = true) (n : Byte) (s : State) : Moves c s (refuseMove n s) :=
  (endMove_moves _ s).trans (endJob_moves hc (Scope.reports_of_lists hl _ _))

theorem refuseHead_moves (hc : c.jobs = true) (hl : ∀ p, c.lists p = true) (n : Byte) (s : State) : Moves c s (refuseHead n s) :=
  (endHead_moves _ s).trans (endJob_moves hc (Scope.reports_of_lists hl _ _))

theorem enterDelay_moves (hc : c.jobs = true) (hl : ∀ p, c.lists p = true) (s : State) : Moves c s (enterDelay s) := by
  have delay : Moves c s (setHeadPhase .delay (s.setHandshake { s.handshake with
      headTimeout := .stopped, headSettle := startMs s.store.profile.headSettleDelay })) :=
    .after (setHeadPhase_moves _ _) (setHandshake_moves (fun h => h) rfl)
  unfold enterDelay
  dsimp only
  split
  · exact delay.trans (headReady_moves hc hl _)
  · split
    · exact delay.trans (endJob_moves hc (Scope.reports_of_lists hl _ _))
    · exact delay

theorem reissueHead_moves (hc : c.jobs = true) (r : HeadRequest) (s : State) : Moves c s (reissueHead r s) := by
  have back : ∀ s, Moves c s (setEngineState .headWait (dropDwell s)) := fun s =>
    (dropDwell_moves s).trans (setEngineState_moves hc _ _)
  unfold reissueHead
  dsimp only
  split
  · exact ((endHead_moves _ s).trans (back _)).trans (placeHeadFor_moves _ _ _)
  · exact ((endHead_moves _ s).trans (back _)).trans (placeHeadFor_moves _ _ _)
  · exact ((endHead_moves _ s).trans (back _)).trans (placeHeadFor_moves _ _ _)
  · exact (endHead_moves _ s).trans (placeHeadFor_moves _ _ _)

theorem reportHead_moves (hc : c.jobs = true) (h : Nat) (s : State) : Moves c s (reportHead h s) := by
  unfold reportHead
  split
  · exact .refl s
  · split
    · exact .refl s
    · exact .refl s
    · split
      · exact .refl s
      · exact reissueHead_moves hc _ s
    · split
      · exact .refl s
      · exact reissueHead_moves hc _ s

theorem selectHead_moves (hs : c.selected = true) {h : Nat} (hh : h ≤ 15) (s : State) : Moves c s (selectHead h s) := by
  unfold selectHead
  split
  · exact .refl s
  · refine .after (flushFifo_moves _) (.single (.handshake _ (fun hx => ?_) (by simp [hs])))
    obtain ⟨h1, h2, -, h4⟩ := hx
    refine ⟨h1, h2, fun n hn => ?_, h4⟩
    cases hn
    exact hh

theorem headReport_moves (hc : c.jobs = true) (hl : ∀ p, c.lists p = true) (hs : c.selected = true) (n : Byte) {h : Nat} (hh : h ≤ 15)
    (s : State) : Moves c s (headReport n h s).2 := by
  have answered : ∀ r s, Moves c s (answerHead r h s) := fun r s => by
    unfold answerHead
    split
    · exact enterDelay_moves hc hl s
    · exact (endHead_moves _ s).trans (endJob_moves hc (Scope.reports_of_lists hl _ _))
  have select := selectHead_moves (c := c) hs hh s
  unfold headReport
  dsimp only
  split
  · exact select.trans (reportHead_moves hc h _)
  · split
    · exact select.trans (answered _ _)
    · exact select.trans (answered _ _)
    · exact select.trans (reportHead_moves hc h _)
    · exact select.trans (reportHead_moves hc h _)

/-! ### The commands that answer at once, and the events -/

/-- The scope of work on jobs. -/
def Scope.working : Scope := { jobs := true, lists := fun _ => true }

/-- The scope of a port's settings. -/
def Scope.settings : Scope := { ports := fun _ => true, details := true }

/-- The scope of an event of the Sample Path. -/
def Scope.sampling : Scope := { jobs := true, lists := fun _ => true, sample := true, details := true }

/-- The scope of a filter sample. -/
def Scope.position : Scope := { jobs := true, lists := fun _ => true, frame := true, details := true }

/-- The scope of CLEAR BENCH, which empties the completion lists and their merge counts at every port. -/
def Scope.clearing : Scope := { jobs := true, lists := fun _ => true, ports := fun _ => true, details := true }

/-- What a command reaches that answers or asks for the grant at once, or is an event beside the slots; the other commands are told
one by one. -/
def Instr.reach : Instr → Option Scope
  | .identify _ _ => some {}
  | .readQueue _ _ _ => some {}
  | .takeMove _ _ => some {}
  | .takeHeadRequest _ _ => some {}
  | .readHandshake _ _ => some {}
  | .home _ _ => some {}
  | .readArbitration _ _ => some {}
  | .readParameter _ _ _ _ => some {}
  | .droppedRequest _ => some {}
  | .frameError _ _ => some {}
  | .publish _ _ => some {}
  | .discardStaged _ _ _ _ _ => some {}
  | .seedEntry _ _ _ _ _ _ => some {}
  | .clearEntry _ _ _ _ => some {}
  | .readEntry _ _ _ _ => some {}
  | .readTable _ _ _ _ => some {}
  | .readNext _ _ => some {}
  | .clearBench _ _ => some .clearing
  | .detach _ _ => some .settings
  | .setWindow _ _ _ _ _ => some .settings
  | .takeNotice _ _ => some .settings
  | .endService _ _ => some .settings
  | .setNoticeMask _ _ _ => some .settings
  | .setNoticeMode _ _ _ _ _ => some .settings
  | .attnPulseEnd _ => some .settings
  | .attnSecondPulse _ => some .settings
  | .takeCompletion _ _ => some { lists := fun _ => true }
  | .submitMeasure _ _ _ _ _ _ => some .working
  | .submitSweep _ _ _ _ _ _ _ _ => some .working
  | .submitReferenceCheck _ _ _ => some .working
  | .submitMove _ _ _ => some .working
  | .cancel _ _ _ _ => some .working
  | .cancelGroup _ _ _ => some .working
  | .resumeEngine _ _ => some .working
  | .moveDone _ _ _ => some .working
  | .moveRefused _ _ _ _ => some .working
  | .headRefused _ _ _ _ => some .working
  | .settleTimerExpiry => some .working
  | .moveTimeoutExpiry => some .working
  | .headSelectTimeoutExpiry => some .working
  | .headSettleTimerExpiry => some .working
  | .e0Lookup => some .working
  | .headSelected _ _ _ _ => some { Scope.working with selected := true }
  | .readPosition _ _ _ => some { frame := true }
  | .readServo _ _ _ => some { sample := true }
  | .indexPulse => some { sample := true, details := true }
  | .wedgeRecord _ => some .sampling
  | .wedgeWindowExpiry => some .sampling
  | .servoLossTimeoutExpiry => some .sampling
  | .sampleTake => some .sampling
  | .filterSample _ _ _ _ => some .position
  | _ => none

/-- A command with a reach is an event that is a run of small changes, or a request that is served within them. -/
def Reaches (c : Scope) (s t : State) : Prop := Moves c s t ∨ ∃ p, Served c p s t

/-- A command answers a next state within a scope. -/
def Instr.Within (i : Instr) (c : Scope) (s : State) : Prop := ∃ t, exec i s = .next t ∧ Reaches c s t

theorem Instr.Within.served {i : Instr} {p : Port} {a : Access} {body : State → State} {s : State}
    (he : exec i s = .next (request i p a body s)) (h : ∀ s, Answers c p s (body s)) : Instr.Within i c s :=
  ⟨_, he, .inr ⟨p, request_served (fun s => .inl (h s)) s⟩⟩

theorem Instr.Within.asked {i : Instr} {p : Port} {a : Access} {body : State → State} {s : State}
    (he : exec i s = .next (request i p a body s)) (h : ∀ s, Answers c p s (body s) ∨ Asks c p s (body s)) : Instr.Within i c s :=
  ⟨_, he, .inr ⟨p, request_served h s⟩⟩

theorem Instr.Within.event {i : Instr} {s t : State} (he : exec i s = .next t) (h : Moves c s t) : Instr.Within i c s :=
  ⟨t, he, .inl h⟩

end Sys2Proof.Machine
end

section
/-! SUPPORT. Each command that answers at once, and each event beside the slots, with what it reaches. -/

namespace Sys2Proof.Machine

/-! ### Requests that change no job -/

theorem exec_identify_within (p : Port) (tag : Byte) (s : State) : Instr.Within (.identify p tag) {} s := by
  refine Instr.Within.served rfl fun s => ?_
  exact reply_answers tag _ (.refl s)

theorem exec_readQueue_within (p : Port) (tag start : Byte) (s : State) : Instr.Within (.readQueue p tag start) {} s := by
  refine Instr.Within.served rfl fun s => ?_
  split
  · exact refuse_answers tag _ (.refl s)
  · exact answer_answers tag _ (.refl s)

theorem exec_takeMove_within (p : Port) (tag : Byte) (s : State) : Instr.Within (.takeMove p tag) {} s := by
  refine Instr.Within.served rfl fun s => ?_
  split
  · exact refuse_answers tag _ (.refl s)
  · split
    · exact reply_answers tag _ (setMovePhase_moves .taken s)
    · exact reply_answers tag _ (.refl s)
    · exact refuse_answers tag _ (.refl s)
    · exact refuse_answers tag _ (.refl s)

theorem exec_takeHeadRequest_within (p : Port) (tag : Byte) (s : State) : Instr.Within (.takeHeadRequest p tag) {} s := by
  refine Instr.Within.served rfl fun s => ?_
  split
  · exact refuse_answers tag _ (.refl s)
  · split
    · exact reply_answers tag _ (setHeadPhase_moves .taken s)
    · exact reply_answers tag _ (.refl s)
    · exact refuse_answers tag _ (.refl s)
    · exact refuse_answers tag _ (.refl s)

theorem exec_readHandshake_within (p : Port) (tag : Byte) (s : State) : Instr.Within (.readHandshake p tag) {} s := by
  refine Instr.Within.served rfl fun s => ?_
  exact reply_answers tag _ (.refl s)

theorem exec_home_within (p : Port) (tag : Byte) (s : State) : Instr.Within (.home p tag) {} s := by
  refine Instr.Within.served rfl fun s => ?_
  dsimp only
  split
  · exact refuse_answers tag _ (.refl s)
  · exact reply_answers tag _ (stillFrame_moves s .waiting s.frame.settle s.frame.settleTimer)

theorem exec_readArbitration_within (p : Port) (tag : Byte) (s : State) : Instr.Within (.readArbitration p tag) {} s := by
  refine Instr.Within.served rfl fun s => ?_
  exact reply_answers tag _ (.refl s)

theorem exec_readParameter_within (p : Port) (tag number index : Byte) (s : State) : Instr.Within (.readParameter p tag number index) {} s := by
  refine Instr.Within.served rfl fun s => ?_
  split
  · exact refuse_answers tag _ (.refl s)
  · split
    · exact refuse_answers tag _ (.refl s)
    · exact refuse_answers tag _ (.refl s)
    · exact reply_answers tag _ (.refl s)
    · exact reply_answers tag _ (.refl s)

theorem exec_readPosition_within (p : Port) (tag clear : Byte) (s : State) : Instr.Within (.readPosition p tag clear) { frame := true } s := by
  refine Instr.Within.served rfl fun s => ?_
  dsimp only
  split
  · exact refuse_answers tag _ (.refl s)
  · exact reply_answers tag _ (.refl s)
  · split
    · exact refuse_answers tag _ (.refl s)
    · refine reply_answers tag _ (setFrame_moves rfl fun _ h => ?_)
      obtain ⟨h1, h2, -, h4⟩ := h
      exact ⟨h1, h2, Nat.zero_le _, h4⟩

theorem exec_readServo_within (p : Port) (tag clear : Byte) (s : State) : Instr.Within (.readServo p tag clear) { sample := true } s := by
  refine Instr.Within.served rfl fun s => ?_
  split
  · exact refuse_answers tag _ (.refl s)
  · exact reply_answers tag _ (.refl s)
  · split
    · exact refuse_answers tag _ (.refl s)
    · refine reply_answers tag _ (setSample_moves rfl fun _ h => ?_)
      obtain ⟨h1, h2, h3, h4, -⟩ := h
      exact ⟨h1, h2, h3, h4, Nat.zero_le _, Nat.zero_le _, Nat.zero_le _, Nat.zero_le _, Nat.zero_le _, Nat.zero_le _⟩

/-! ### Ports, notices and completion lists -/

theorem exec_detach_within (p : Port) (tag : Byte) (s : State) : Instr.Within (.detach p tag) .settings s := by
  refine Instr.Within.served rfl fun s => ?_
  split
  · exact reply_answers tag _ (detachPort_moves rfl rfl s)
  · exact reply_answers tag _ (.refl s)

theorem exec_setWindow_within (p : Port) (tag target base size : Byte) (s : State) : Instr.Within (.setWindow p tag target base size) .settings s := by
  refine Instr.Within.served rfl fun s => ?_
  split
  · exact reply_answers tag _ (setWindowOf_moves rfl rfl (windowArg_sound ‹_›) s)
  · exact refuse_answers tag _ (.refl s)

theorem exec_takeNotice_within (p : Port) (tag : Byte) (s : State) : Instr.Within (.takeNotice p tag) .settings s := by
  refine Instr.Within.served rfl fun s => ?_
  split
  · exact refuse_answers tag _ (.refl s)
  · exact reply_answers tag _ (takeSource_moves rfl rfl _ s)

theorem exec_endService_within (p : Port) (tag : Byte) (s : State) : Instr.Within (.endService p tag) .settings s := by
  refine Instr.Within.served rfl fun s => ?_
  split
  · exact refuse_answers tag _ (.refl s)
  · exact reply_answers tag _ (.after (pulseIfEligible_moves p _) (setNotices_moves_settings rfl rfl (fun h => h) fun _ h => h))

theorem exec_setNoticeMask_within (p : Port) (tag : Byte) (sources : BitVec 16) (s : State) : Instr.Within (.setNoticeMask p tag sources) .settings s := by
  refine Instr.Within.served rfl fun s => ?_
  exact reply_answers tag _ (.after (pulseIfEligible_moves p _) (setNotices_moves_settings rfl rfl (fun h => h) fun _ h => h))

theorem baseArg_le {b : Byte} {n : Nat} (h : baseArg b = some n) : n ≤ 15 := by
  unfold baseArg at h
  split at h
  · cases h
    assumption
  · simp at h

theorem exec_setNoticeMode_within (p : Port) (tag mode tracking base : Byte) (s : State) : Instr.Within (.setNoticeMode p tag mode tracking base) .settings s := by
  refine Instr.Within.served rfl fun s => ?_
  dsimp only
  split
  · exact reply_answers tag _ (setMode_moves rfl rfl (baseArg_le ‹_›) s)
  · exact refuse_answers tag _ (.refl s)

theorem exec_takeCompletion_within (p : Port) (tag : Byte) (s : State) : Instr.Within (.takeCompletion p tag) { lists := fun _ => true } s := by
  refine Instr.Within.served rfl fun s => ?_
  split
  · exact answer_answers tag _ (setOverflow_moves rfl s)
  · exact answer_answers tag _ ((setCompletions_moves rfl s _).trans (setOverflow_moves rfl _))

theorem exec_attnPulseEnd_within (p : Port) (s : State) : Instr.Within (.attnPulseEnd p) .settings s := by
  refine Instr.Within.event rfl ?_
  split
  · exact setNotices_moves_settings rfl rfl (fun h => h) fun _ h => h
  · exact setNotices_moves_settings rfl rfl (fun h => h) fun _ h => h
  · exact .refl s
  · exact .refl s

theorem exec_attnSecondPulse_within (p : Port) (s : State) : Instr.Within (.attnSecondPulse p) .settings s := by
  refine Instr.Within.event rfl ?_
  split
  · exact setNotices_moves_settings rfl rfl (fun h => h) fun _ h => h
  · exact .refl s
  · exact .refl s

/-! ### Jobs -/

theorem exec_submitMeasure_within (p : Port) (tag head zone cls limit : Byte) (s : State) : Instr.Within (.submitMeasure p tag head zone cls limit) .working s := by
  refine Instr.Within.served rfl fun s => ?_
  split
  · split
    · exact refuseSubmission_answers p tag _ s
    · exact submitJob_answers rfl p tag _ _ _ _ s
  · exact refuse_answers tag _ (.refl s)

theorem exec_submitReferenceCheck_within (p : Port) (tag zone : Byte) (s : State) : Instr.Within (.submitReferenceCheck p tag zone) .working s := by
  refine Instr.Within.served rfl fun s => ?_
  split
  · exact refuseSubmission_answers p tag _ s
  · exact submitJob_answers rfl p tag _ _ _ _ s

theorem exec_submitMove_within (p : Port) (tag : Byte) (target : CountWord) (s : State) : Instr.Within (.submitMove p tag target) .working s := by
  refine Instr.Within.served rfl fun s => ?_
  dsimp only
  split
  · exact refuseSubmission_answers p tag _ s
  · exact answer_answers tag _ ((accept_moves rfl _ _ _ _ _ s).trans (advance_moves rfl _))

theorem exec_submitSweep_within (p : Port) (tag firstHead lastHead firstZone lastZone cls publishAtEnd : Byte) (s : State) : Instr.Within (.submitSweep p tag firstHead lastHead firstZone lastZone cls publishAtEnd) .working s := by
  refine Instr.Within.served rfl fun s => ?_
  dsimp only
  split
  · split
    · exact refuse_answers tag _ (.refl s)
    · split
      · exact reply_answers tag _ (.refl s)
      · split
        · exact refuseSubmission_answers p tag _ s
        · exact submitSweep_answers rfl p tag _ _ _ _ s
  · exact refuse_answers tag _ (.refl s)

theorem exec_cancel_within (p : Port) (tag id groupFlag : Byte) (s : State) : Instr.Within (.cancel p tag id groupFlag) .working s := by
  refine Instr.Within.served rfl fun s => ?_
  split
  · exact refuse_answers tag _ (.refl s)
  · exact cancelGroupForm_answers rfl (fun _ => rfl) p tag id s
  · exact cancelForm_answers rfl (fun _ => rfl) p tag id s

theorem exec_cancelGroup_within (p : Port) (tag id : Byte) (s : State) : Instr.Within (.cancelGroup p tag id) .working s := by
  refine Instr.Within.served rfl fun s => ?_
  exact cancelGroupForm_answers rfl (fun _ => rfl) p tag id s

theorem exec_resumeEngine_within (p : Port) (tag : Byte) (s : State) : Instr.Within (.resumeEngine p tag) .working s := by
  refine Instr.Within.served rfl fun s => ?_
  dsimp only
  split
  · exact refuse_answers tag _ (.refl s)
  · split
    · exact reply_answers tag _ ((setEngineState_moves rfl .idle s).trans (advance_moves rfl _))
    · exact reply_answers tag _ (.refl s)

/-! ### Handshakes -/

theorem exec_moveDone_within (p : Port) (tag sequence : Byte) (s : State) : Instr.Within (.moveDone p tag sequence) .working s := by
  refine Instr.Within.served rfl fun s => ?_
  dsimp only
  split
  · exact refuse_answers tag _ (.refl s)
  · split
    · exact reply_answers tag _ (acceptMoveDone_moves rfl (fun _ => rfl) _ s)
    · exact reply_answers tag _ (acceptMoveDone_moves rfl (fun _ => rfl) _ s)
    · exact reply_answers tag _ (.refl s)
    · exact reply_answers tag _ (.refl s)

theorem exec_moveRefused_within (p : Port) (tag sequence reason : Byte) (s : State) : Instr.Within (.moveRefused p tag sequence reason) .working s := by
  refine Instr.Within.served rfl fun s => ?_
  split
  · exact refuse_answers tag _ (.refl s)
  · split
    · exact reply_answers tag _ (refuseMove_moves rfl (fun _ => rfl) _ s)
    · exact reply_answers tag _ (refuseMove_moves rfl (fun _ => rfl) _ s)
    · exact refuse_answers tag _ (.refl s)
    · exact refuse_answers tag _ (.refl s)

theorem exec_headRefused_within (p : Port) (tag sequence reason : Byte) (s : State) : Instr.Within (.headRefused p tag sequence reason) .working s := by
  refine Instr.Within.served rfl fun s => ?_
  split
  · exact refuse_answers tag _ (.refl s)
  · split
    · exact reply_answers tag _ (refuseHead_moves rfl (fun _ => rfl) _ s)
    · exact reply_answers tag _ (refuseHead_moves rfl (fun _ => rfl) _ s)
    · exact refuse_answers tag _ (.refl s)
    · exact refuse_answers tag _ (.refl s)

theorem exec_headSelected_within (p : Port) (tag sequence head : Byte) (s : State) : Instr.Within (.headSelected p tag sequence head) { Scope.working with selected := true } s := by
  refine Instr.Within.served rfl fun s => ?_
  dsimp only
  split
  · exact refuse_answers tag _ (.refl s)
  · exact refuse_answers tag _ (headReport_moves rfl (fun _ => rfl) rfl sequence (by omega) s)

theorem exec_settleTimerExpiry_within (s : State) : Instr.Within .settleTimerExpiry .working s := by
  refine Instr.Within.event rfl ?_
  split
  · exact settleMet_moves rfl (fun _ => rfl) s
  · exact .refl s

theorem exec_moveTimeoutExpiry_within (s : State) : Instr.Within .moveTimeoutExpiry .working s := by
  refine Instr.Within.event rfl ?_
  split
  · exact (timeOutMove_moves s).trans (endJob_moves rfl (Scope.reports_of_lists (fun _ => rfl) _ _))
  · exact .refl s
  · exact .refl s

theorem exec_headSelectTimeoutExpiry_within (s : State) : Instr.Within .headSelectTimeoutExpiry .working s := by
  refine Instr.Within.event rfl ?_
  split
  · exact (timeOutHead_moves s).trans (endJob_moves rfl (Scope.reports_of_lists (fun _ => rfl) _ _))
  · exact .refl s
  · exact .refl s

theorem exec_headSettleTimerExpiry_within (s : State) : Instr.Within .headSettleTimerExpiry .working s := by
  refine Instr.Within.event rfl ?_
  split
  · exact headReady_moves rfl (fun _ => rfl) s
  · exact .refl s

/-! ### The Sample Path and the Position Frame -/

theorem exec_indexPulse_within (s : State) : Instr.Within .indexPulse { sample := true, details := true } s := by
  refine Instr.Within.event rfl ?_
  split
  · exact alignCounter_moves rfl s
  · split
    · exact .refl s
    · exact indexSlip_moves rfl rfl s

theorem exec_wedgeRecord_within (r : WedgeRecord) (s : State) : Instr.Within (.wedgeRecord r) .sampling s := by
  exact Instr.Within.event rfl ((startWindow_moves rfl s).trans (wedgeArrival_moves rfl rfl rfl r _))

theorem exec_wedgeWindowExpiry_within (s : State) : Instr.Within .wedgeWindowExpiry .sampling s := by
  refine Instr.Within.event rfl ?_
  split
  · exact (startWindow_moves rfl s).trans (wedgeArrival_moves rfl rfl rfl _ _)
  · exact .refl s
  · exact .refl s

theorem exec_servoLossTimeoutExpiry_within (s : State) : Instr.Within .servoLossTimeoutExpiry .sampling s := by
  have expire : Moves .sampling s (s.setSample { s.sample with loss := .expired }) := setSample_moves rfl fun _ h => h
  refine Instr.Within.event rfl ?_
  split
  · dsimp only
    split
    · exact expire.trans (endJob_moves rfl (Scope.reports_of_lists (fun _ => rfl) _ _))
    · exact expire
  · exact .refl s
  · exact .refl s

theorem exec_sampleTake_within (s : State) : Instr.Within .sampleTake .sampling s := by
  refine Instr.Within.event rfl ?_
  split
  · split
    · exact takeSample_moves rfl rfl _ _ s
    · exact .refl s
  · exact .refl s

theorem exec_filterSample_within (a b z pf : Bool) (s : State) : Instr.Within (.filterSample a b z pf) .position s := by
  refine Instr.Within.event rfl ?_
  split
  · exact filterSample_moves rfl (fun _ => rfl) rfl rfl a b z pf s
  · exact firstFilterSample_moves rfl (fun _ => rfl) rfl rfl a b z pf s

/-! ### The grant, CLEAR BENCH and the slot -/

theorem State.tableCheck_inTable {s : State} {p : Port} {h z : Nat} (hc : s.tableCheck p h z = none) (hs : s.store.profile.sound) :
    h < 16 ∧ z < 12 := by
  unfold State.tableCheck at hc
  split at hc
  · simp at hc
  · rename_i hh
    simp only [Profile.holds, Bool.and_eq_false_iff, decide_eq_false_iff_not, not_or, not_not] at hh
    have h1 := (hs.1 (1, 0) (by decide)).2
    have h2 := (hs.1 (2, 0) (by decide)).2
    simp only [Profile.range, Profile.param] at h1 h2
    omega

/-- A request that names an entry is refused, or asks for the grant with the entry in the table (R1). -/
theorem askForEntry_serves {op : TableOp} {h z : Nat} (ho : h < 16 → z < 12 → op.inTable = true) (p : Port) (tag : Byte) (s : State) :
    Answers {} p s (askForEntry p tag h z op s) ∨ Asks {} p s (askForEntry p tag h z op s) := by
  unfold askForEntry
  split
  · exact .inl (refuse_answers tag _ (.refl s))
  · exact .inr (askGrant_asks (.refl s) fun hs => by
      obtain ⟨hh, hz⟩ := State.tableCheck_inTable ‹_› hs
      exact ho hh hz)

theorem exec_publish_within (p : Port) (tag : Byte) (s : State) : Instr.Within (.publish p tag) {} s := by
  refine Instr.Within.asked rfl fun s => ?_
  exact .inr (askGrant_asks (.refl s) fun _ => rfl)

theorem exec_discardStaged_within (p : Port) (tag form head zone : Byte) (s : State) :
    Instr.Within (.discardStaged p tag form head zone) {} s := by
  refine Instr.Within.asked rfl fun s => ?_
  split
  · exact .inl (refuse_answers tag _ (.refl s))
  · exact .inr (askGrant_asks (.refl s) fun _ => rfl)
  · exact askForEntry_serves (by simp +contextual [TableOp.inTable]) p tag s

theorem exec_seedEntry_within (p : Port) (tag head zone form : Byte) (count : CountWord) (s : State) :
    Instr.Within (.seedEntry p tag head zone form count) {} s := by
  refine Instr.Within.asked rfl fun s => ?_
  split
  · exact .inl (refuse_answers tag _ (.refl s))
  · exact askForEntry_serves (by simp +contextual [TableOp.inTable]) p tag s
  · exact askForEntry_serves (by simp +contextual [TableOp.inTable]) p tag s

theorem exec_clearEntry_within (p : Port) (tag head zone : Byte) (s : State) : Instr.Within (.clearEntry p tag head zone) {} s := by
  refine Instr.Within.asked rfl fun s => ?_
  exact askForEntry_serves (by simp +contextual [TableOp.inTable]) p tag s

theorem exec_readEntry_within (p : Port) (tag head zone : Byte) (s : State) : Instr.Within (.readEntry p tag head zone) {} s := by
  refine Instr.Within.asked rfl fun s => ?_
  exact askForEntry_serves (by simp +contextual [TableOp.inTable]) p tag s

theorem exec_readTable_within (p : Port) (tag start count : Byte) (s : State) : Instr.Within (.readTable p tag start count) {} s := by
  refine Instr.Within.asked rfl fun s => ?_
  split
  · exact .inl (refuse_answers tag _ (.refl s))
  · rename_i h
    have hcount : count.toNat ≠ 0 := fun e => h (.inr (.inl (BitVec.eq_of_toNat_eq e)))
    refine .inr ⟨_, s, _, .refl s, fun _ => rfl, .inr ⟨_, rfl, ?_, ?_⟩, rfl⟩
    · simp only
      omega
    · simp only
      omega

theorem exec_readNext_within (p : Port) (tag : Byte) (s : State) : Instr.Within (.readNext p tag) {} s := by
  refine Instr.Within.asked rfl fun s => ?_
  split
  · exact .inl (refuse_answers tag _ (.refl s))
  · exact .inr (askGrant_asks (.refl s) fun _ => rfl)

section ClearBench

variable {c : Scope} (hj : c.jobs = true)

include hj

theorem settleEngine_moves (s : State) : Moves c s (settleEngine s) := setEngine_moves hj rfl

/-- Step 1 of R24 is a run of small changes. -/
theorem clearEngine_moves (s : State) : Moves c s (clearEngine s) := by
  have close : Moves c s (settleEngine (closeJob .cleared s)) :=
    (closeJob_moves hj fun h => absurd rfl h).trans (settleEngine_moves hj _)
  unfold clearEngine
  split
  · exact .refl s
  · exact .refl s
  · unfold clearCommit
    split
    · exact setEngine_moves hj rfl
    · split
      · exact ((withdrawAsk_moves s).trans (clearActive_moves hj _ _)).trans (settleEngine_moves hj _)
      · exact (withdrawAsk_moves s).trans (settleEngine_moves hj _)
  · unfold clearPublish
    split
    · exact setEngine_moves hj rfl
    · exact (withdrawAsk_moves s).trans (settleEngine_moves hj _)
  · exact close
  · exact close
  · exact close
  · exact close

/-- Steps 2 and 3 of R24 are a run of small changes. -/
theorem clearJobs_moves (s : State) : Moves c s (clearJobs s) := by
  have drop : Moves c s (forQueued dropQueued s.jobs.queue (forStacked dropStacked s.stack s)) :=
    (forStacked_moves (dropStacked_moves hj) _ s).trans (forQueued_moves (dropQueued_moves hj) _ _)
  have empty : ∀ u : State, Moves c u { u with stack := [], jobs := .reset } := fun u =>
    .single (.work u.statuses u.engine .reset [] rfl (fun _ _ => ⟨by decide, by decide, by decide, by decide, by decide⟩) (by simp [hj]))
  unfold clearJobs
  dsimp only
  split
  · exact (drop.trans (postSpace_moves _)).trans (empty _)
  · exact drop.trans (empty _)

end ClearBench

theorem clearList_moves {c : Scope} {p : Port} (hp : c.ports p = true) (hd : c.details = true) (hl : c.lists p = true) (s : State) :
    Moves c s (clearList p s) := by
  refine .single (.port p _ ⟨rfl, rfl, fun h => ?_, by simp [hp], by simp [hp], by simp [hl], by simp [hd]⟩)
  obtain ⟨h1, -, h3, h4, h5⟩ := h
  refine ⟨h1, Nat.zero_le _, h3, fun src => ?_, h5⟩
  simp only [PerSource.get_set]
  split
  · exact Nat.zero_le _
  · split
    · exact Nat.zero_le _
    · exact h4 src

theorem clearWork_moves (s : State) : Moves .clearing s (clearWork s) :=
  .after (clearList_moves rfl rfl rfl _) (.after (clearList_moves rfl rfl rfl _) (.after (clearList_moves rfl rfl rfl _)
    ((clearEngine_moves rfl s).trans (clearJobs_moves rfl _))))

theorem exec_clearBench_within (p : Port) (tag : Byte) (s : State) : Instr.Within (.clearBench p tag) .clearing s := by
  refine Instr.Within.asked rfl fun s => ?_
  exact .inr (askGrant_asks (clearWork_moves s) fun _ => rfl)

theorem lookUp_moves {c : Scope} (hc : c.jobs = true) {op : TableOp} {s : State} (h : s.arbiter.holder = some (.engine, op))
    (r : SearchRecord) : Moves c s (lookUp r s) := by
  have free : Moves c s (release s) := .single (.release op h)
  unfold lookUp
  split
  · exact free
  · exact (free.trans (setActive_moves hc _ _)).trans (placeHead_moves _)

theorem exec_e0Lookup_within (s : State) : Instr.Within .e0Lookup .working s := by
  refine Instr.Within.event rfl ?_
  split
  · rename_i h
    have hh : s.arbiter.holder = some (.engine, .e0LookUp) := by simpa [Arbiter.engineHolds] using h
    split
    · exact lookUp_moves rfl hh _
    · exact .single (.release _ hh)
  · exact .refl s

theorem exec_droppedRequest_within (p : Port) (s : State) : Instr.Within (.droppedRequest p) {} s := by
  refine ⟨_, rfl, ?_⟩
  split
  · exact .inl (.refl s)
  · exact .inr ⟨p, .inl ⟨‹_›, rfl⟩⟩

theorem exec_frameError_within (p : Port) (bytes : List Byte) (s : State) : Instr.Within (.frameError p bytes) {} s := by
  refine ⟨_, rfl, ?_⟩
  split
  · exact .inl (.refl s)
  · split
    · exact .inr ⟨p, .inr ⟨‹_›, .frameError p bytes, .inl ⟨_, _, _, .refl _, (refuse_setSlot s p _ _ _).symm⟩⟩⟩
    · exact .inr ⟨p, .inl ⟨‹_›, rfl⟩⟩

/-! ### Together -/

/-- Every command with a reach answers a next state within it. -/
theorem exec_within {i : Instr} {c : Scope} (h : Instr.reach i = some c) (s : State) : Instr.Within i c s := by
  cases i <;> try contradiction
  all_goals cases h
  case droppedRequest => exact exec_droppedRequest_within _ s
  case frameError => exact exec_frameError_within _ _ s
  case publish => exact exec_publish_within _ _ s
  case discardStaged => exact exec_discardStaged_within _ _ _ _ _ s
  case seedEntry => exact exec_seedEntry_within _ _ _ _ _ _ s
  case clearEntry => exact exec_clearEntry_within _ _ _ _ s
  case readEntry => exact exec_readEntry_within _ _ _ _ s
  case readTable => exact exec_readTable_within _ _ _ _ s
  case readNext => exact exec_readNext_within _ _ s
  case clearBench => exact exec_clearBench_within _ _ s
  case e0Lookup => exact exec_e0Lookup_within s
  case identify => exact exec_identify_within _ _ s
  case readQueue => exact exec_readQueue_within _ _ _ s
  case takeMove => exact exec_takeMove_within _ _ s
  case takeHeadRequest => exact exec_takeHeadRequest_within _ _ s
  case readHandshake => exact exec_readHandshake_within _ _ s
  case home => exact exec_home_within _ _ s
  case readArbitration => exact exec_readArbitration_within _ _ s
  case readParameter => exact exec_readParameter_within _ _ _ _ s
  case readPosition => exact exec_readPosition_within _ _ _ s
  case readServo => exact exec_readServo_within _ _ _ s
  case detach => exact exec_detach_within _ _ s
  case setWindow => exact exec_setWindow_within _ _ _ _ _ s
  case takeNotice => exact exec_takeNotice_within _ _ s
  case endService => exact exec_endService_within _ _ s
  case setNoticeMask => exact exec_setNoticeMask_within _ _ _ s
  case setNoticeMode => exact exec_setNoticeMode_within _ _ _ _ _ s
  case takeCompletion => exact exec_takeCompletion_within _ _ s
  case attnPulseEnd => exact exec_attnPulseEnd_within _ s
  case attnSecondPulse => exact exec_attnSecondPulse_within _ s
  case submitMeasure => exact exec_submitMeasure_within _ _ _ _ _ _ s
  case submitReferenceCheck => exact exec_submitReferenceCheck_within _ _ _ s
  case submitMove => exact exec_submitMove_within _ _ _ s
  case submitSweep => exact exec_submitSweep_within _ _ _ _ _ _ _ _ s
  case cancel => exact exec_cancel_within _ _ _ _ s
  case cancelGroup => exact exec_cancelGroup_within _ _ _ s
  case resumeEngine => exact exec_resumeEngine_within _ _ s
  case moveDone => exact exec_moveDone_within _ _ _ s
  case moveRefused => exact exec_moveRefused_within _ _ _ _ s
  case headRefused => exact exec_headRefused_within _ _ _ _ s
  case headSelected => exact exec_headSelected_within _ _ _ _ s
  case settleTimerExpiry => exact exec_settleTimerExpiry_within s
  case moveTimeoutExpiry => exact exec_moveTimeoutExpiry_within s
  case headSelectTimeoutExpiry => exact exec_headSelectTimeoutExpiry_within s
  case headSettleTimerExpiry => exact exec_headSettleTimerExpiry_within s
  case indexPulse => exact exec_indexPulse_within s
  case wedgeRecord => exact exec_wedgeRecord_within _ s
  case wedgeWindowExpiry => exact exec_wedgeWindowExpiry_within s
  case servoLossTimeoutExpiry => exact exec_servoLossTimeoutExpiry_within s
  case sampleTake => exact exec_sampleTake_within s
  case filterSample => exact exec_filterSample_within _ _ _ _ s

end Sys2Proof.Machine
end

section
/-! SUPPORT. The parameters of a profile: what a replaced value leaves of the others, and that clamping a whole profile and setting one
value leave every value in its range (R198, R199, R203). -/

namespace Sys2Proof.Machine

/-! ### One value replaced -/

theorem Profile.param_withParam_of_ne (pr : Profile) {n m : Nat} (i j : Nat) (v : Int) (hn : 1 ≤ n ∧ n ≤ 30) (hm : 1 ≤ m ∧ m ≤ 30)
    (h : m ≠ n) : (pr.withParam n i v).param m j = pr.param m j := by
  unfold Profile.withParam
  split <;> try contradiction
  all_goals
    unfold Profile.param
    split <;> try rfl
    all_goals
      exfalso
      grind

theorem Profile.param_withParam_self (pr : Profile) {n i : Nat} {v : Int} (hn : 1 ≤ n ∧ n ≤ 30) (hi : i < paramCount n)
    (hv : 0 ≤ v ∨ n = 24 ∨ n = 25 ∨ n = 26 ∨ n = 28) : (pr.withParam n i v).param n i = v := by
  obtain ⟨h1, h2⟩ := hn
  interval_cases n <;> simp_all [Profile.withParam, Profile.param, paramCount]

theorem Profile.param_withParam_index (pr : Profile) {n i j : Nat} (v : Int) (hi : i < paramCount n) (hj : j < paramCount n)
    (h : j ≠ i) : (pr.withParam n i v).param n j = pr.param n j := by
  have hn : n = 28 ∨ n = 29 := by
    unfold paramCount at hi hj
    split at hi
    · assumption
    · simp_all
  obtain rfl | rfl := hn <;> simp [Profile.withParam, Profile.param, Vector.getElem?_setIfInBounds_ne, h.symm]

/-- Two values are one when their numbers and their indices agree, and a replaced value leaves every other. -/
theorem Profile.param_withParam (pr : Profile) {n i m j : Nat} {v : Int} (hn : 1 ≤ n ∧ n ≤ 30) (hi : i < paramCount n)
    (hm : 1 ≤ m ∧ m ≤ 30) (hj : j < paramCount m) (h : m ≠ n ∨ j ≠ i) : (pr.withParam n i v).param m j = pr.param m j := by
  by_cases hmn : m = n
  · subst hmn
    exact pr.param_withParam_index v hi hj (by simpa using h)
  · exact pr.param_withParam_of_ne i j v hn hm hmn

/-- A range is read off the head count and travel low alone. -/
theorem Profile.range_congr {pr pr' : Profile} (m : Nat) (h1 : m = 3 → pr'.headCount = pr.headCount)
    (h24 : m = 25 → pr'.travelLow = pr.travelLow) : pr'.range m = pr.range m := by
  by_cases h3 : m = 3
  · subst h3
    simp only [Profile.range, h1 rfl]
  · by_cases h25 : m = 25
    · subst h25
      simp only [Profile.range, h24 rfl]
    · unfold Profile.range
      split <;> try contradiction
      all_goals rfl

theorem Profile.withParam_headCount (pr : Profile) {n : Nat} (i : Nat) (v : Int) (h : n ≠ 1) :
    (pr.withParam n i v).headCount = pr.headCount := by
  unfold Profile.withParam
  split <;> try contradiction
  all_goals rfl

theorem Profile.withParam_travelLow (pr : Profile) {n : Nat} (i : Nat) (v : Int) (h : n ≠ 24) :
    (pr.withParam n i v).travelLow = pr.travelLow := by
  unfold Profile.withParam
  split <;> try contradiction
  all_goals rfl

theorem Profile.withParam_wedges (pr : Profile) {n : Nat} (i : Nat) (v : Int) (h : n ≠ 4) :
    (pr.withParam n i v).wedges = pr.wedges := by
  unfold Profile.withParam
  split <;> try contradiction
  all_goals rfl

/-- The range of a parameter is touched by the head count for the reference head, and by travel low for travel high. -/
theorem Profile.range_withParam (pr : Profile) {n m : Nat} (i : Nat) (v : Int) (h3 : m = 3 → n ≠ 1) (h25 : m = 25 → n ≠ 24) :
    (pr.withParam n i v).range m = pr.range m :=
  Profile.range_congr m (fun h => pr.withParam_headCount i v (h3 h)) fun h => pr.withParam_travelLow i v (h25 h)

/-! ### Values in range -/

/-- One value of a profile lies in its range, and W is a multiple of 8 (R198). -/
def Profile.fits (pr : Profile) (x : Nat × Nat) : Prop :=
  ((pr.range x.1).1 ≤ pr.param x.1 x.2 ∧ pr.param x.1 x.2 ≤ (pr.range x.1).2) ∧ (x.1 = 4 → pr.wedges % 8 = 0)

theorem mem_allParams {x : Nat × Nat} : x ∈ allParams ↔ (1 ≤ x.1 ∧ x.1 ≤ 30) ∧ x.2 < paramCount x.1 := by
  obtain ⟨n, i⟩ := x
  simp only [allParams, imageParams, List.mem_append, List.mem_flatMap, List.mem_range'_1, List.mem_map, List.mem_range,
    Prod.mk.injEq, List.mem_singleton]
  constructor
  · rintro (⟨n, hn, i, hi, rfl, rfl⟩ | ⟨rfl, rfl⟩)
    · exact ⟨by omega, hi⟩
    · exact ⟨by omega, by decide⟩
  · rintro ⟨hn, hi⟩
    by_cases h : n = 30
    · subst h
      exact .inr ⟨rfl, by simp [paramCount] at hi; exact hi⟩
    · exact .inl ⟨n, by omega, i, hi, rfl, rfl⟩

theorem Profile.sound_iff (pr : Profile) : pr.sound ↔ ∀ x ∈ allParams, pr.fits x := by
  unfold Profile.sound Profile.fits
  constructor
  · rintro ⟨h, hw⟩ x hx
    exact ⟨h x hx, fun _ => hw⟩
  · intro h
    exact ⟨fun x hx => (h x hx).1, (h (4, 0) (by decide)).2 rfl⟩

theorem Profile.range_nonneg (pr : Profile) {n : Nat} (h : n ≠ 24 ∧ n ≠ 25 ∧ n ≠ 26 ∧ n ≠ 28) : 0 ≤ (pr.range n).1 := by
  unfold Profile.range
  split <;> omega

/-- A clamped value lies in a range that is not empty, and a clamped W is a multiple of 8. -/
theorem Profile.clampParam_range (pr : Profile) (n : Nat) (v : Int) (h : (pr.range n).1 ≤ (pr.range n).2) :
    (pr.range n).1 ≤ pr.clampParam n v ∧ pr.clampParam n v ≤ (pr.range n).2 ∧ (n = 4 → pr.clampParam n v % 8 = 0) := by
  unfold Profile.clampParam clampInt
  dsimp only
  split
  · rename_i h4
    subst h4
    simp only [Profile.range]
    split
    · omega
    · split <;> omega
  · rename_i h4
    refine ⟨?_, ?_, fun h => absurd h h4⟩ <;> split
    · rename_i h30
      subst h30
      simp only [Profile.range] at h ⊢
      split <;> omega
    · split
      · exact Int.le_refl _
      · split <;> omega
    · rename_i h30
      subst h30
      simp only [Profile.range] at h ⊢
      split <;> omega
    · split
      · exact h
      · split <;> omega

/-- A value replaced by its clamped form fits, and every other value fits as before whose range the replacement leaves alone. -/
theorem Profile.withParam_fits {pr : Profile} {n i : Nat} (v : Int) (hx : (n, i) ∈ allParams) (h : (pr.range n).1 ≤ (pr.range n).2)
    {y : Nat × Nat} (hy : y ∈ allParams) (hf : y ≠ (n, i) → pr.fits y) (h3 : y.1 = 3 → n ≠ 1) (h25 : y.1 = 25 → n ≠ 24) :
    (pr.withParam n i (pr.clampParam n v)).fits y := by
  obtain ⟨hn, hi⟩ := mem_allParams.mp hx
  obtain ⟨hm, hj⟩ := mem_allParams.mp hy
  obtain ⟨hlo, hhi, hw⟩ := pr.clampParam_range n v h
  have hr := pr.range_withParam i (pr.clampParam n v) h3 h25
  by_cases hne : y = (n, i)
  · subst hne
    have hv : 0 ≤ pr.clampParam n v ∨ n = 24 ∨ n = 25 ∨ n = 26 ∨ n = 28 := by
      by_cases hs : n = 24 ∨ n = 25 ∨ n = 26 ∨ n = 28
      · exact .inr hs
      · have := pr.range_nonneg (n := n) (by omega)
        exact .inl (by omega)
    unfold Profile.fits
    simp only at hr ⊢
    rw [hr, pr.param_withParam_self hn hi hv]
    refine ⟨⟨hlo, hhi⟩, fun h4 => ?_⟩
    subst h4
    have := hw rfl
    simp only [Profile.range] at hlo
    simp only [Profile.withParam]
    omega
  · obtain ⟨hin, h4⟩ := hf hne
    have hp : (pr.withParam n i (pr.clampParam n v)).param y.1 y.2 = pr.param y.1 y.2 := by
      refine pr.param_withParam hn hi hm hj ?_
      by_contra hc
      push Not at hc
      exact hne (Prod.ext hc.1 hc.2)
    refine ⟨by rw [hr, hp]; exact hin, fun hy4 => ?_⟩
    have hn4 : n ≠ 4 := by
      rintro rfl
      have hi0 : i < 1 := hi
      have hj0 : y.2 < 1 := by simpa [paramCount, hy4] using hj
      exact hne (Prod.ext hy4 (by simp only; omega))
    rw [pr.withParam_wedges i _ hn4]
    exact h4 hy4

/-! ### A whole profile clamped (R199) -/

/-- The order of number and then index. -/
def paramBefore (x y : Nat × Nat) : Bool := decide (x.1 < y.1) || (x.1 == y.1 && decide (x.2 < y.2))

theorem allParams_pairwise : allParams.Pairwise (fun x y => paramBefore x y = true) := by decide +kernel

/-- A parameter of a smaller number stands before the rest of the list. -/
theorem mem_of_allParams_split {done todo : List (Nat × Nat)} {x y : Nat × Nat} (h : done ++ x :: todo = allParams)
    (hy : y ∈ allParams) (hlt : y.1 < x.1) : y ∈ done := by
  have hp := allParams_pairwise
  rw [← h, List.pairwise_append, List.pairwise_cons] at hp
  obtain ⟨-, ⟨hx, -⟩, -⟩ := hp
  rw [← h, List.mem_append, List.mem_cons] at hy
  obtain hy | rfl | hy := hy
  · exact hy
  · omega
  · have := hx y hy
    simp only [paramBefore, Bool.or_eq_true, decide_eq_true_eq, Bool.and_eq_true, beq_iff_eq] at this
    omega

/-- The range a parameter is clamped to is not empty once the head count and travel low fit (R199). -/
theorem Profile.range_ne_empty {pr : Profile} {n : Nat} (h1 : n = 3 → pr.fits (1, 0)) (h24 : n = 25 → pr.fits (24, 0)) :
    (pr.range n).1 ≤ (pr.range n).2 := by
  by_cases h3 : n = 3
  · subst h3
    have := (h1 rfl).1.1
    simp only [Profile.range, Profile.param] at this ⊢
    omega
  · by_cases h25 : n = 25
    · subst h25
      have := (h24 rfl).1.2
      simp only [Profile.range, Profile.param] at this ⊢
      omega
    · unfold Profile.range
      split <;> try contradiction
      all_goals decide

theorem Profile.foldl_clampAt_fits (done todo : List (Nat × Nat)) (pr : Profile) (h : done ++ todo = allParams)
    (hd : ∀ x ∈ done, pr.fits x) : ∀ x ∈ allParams, (todo.foldl Profile.clampAt pr).fits x := by
  induction todo generalizing done pr with
  | nil =>
    rw [List.append_nil] at h
    rw [← h]
    exact hd
  | cons x todo ih =>
    have hx : x ∈ allParams := by rw [← h]; simp
    have first : ∀ k, k < x.1 → 1 ≤ k ∧ k ≤ 30 → pr.fits (k, 0) := fun k hk hb =>
      hd _ (mem_of_allParams_split h (mem_allParams.mpr ⟨hb, by unfold paramCount; split <;> simp⟩) hk)
    have hrange : (pr.range x.1).1 ≤ (pr.range x.1).2 :=
      Profile.range_ne_empty (fun h3 => first 1 (by omega) (by omega)) fun h25 => first 24 (by omega) (by omega)
    refine ih (done ++ [x]) (pr.clampAt x) (by simpa using h) fun y hy => ?_
    have hle : y.1 ≤ x.1 := by
      have hp := allParams_pairwise
      rw [← h, List.pairwise_append] at hp
      obtain ⟨-, -, hp⟩ := hp
      rw [List.mem_append, List.mem_singleton] at hy
      obtain hy | rfl := hy
      · have := hp y hy x (by simp)
        simp only [paramBefore, Bool.or_eq_true, decide_eq_true_eq, Bool.and_eq_true, beq_iff_eq] at this
        omega
      · exact Nat.le_refl _
    have hyall : y ∈ allParams := by
      rw [← h]
      simp only [List.mem_append, List.mem_cons] at hy ⊢
      tauto
    refine Profile.withParam_fits (n := x.1) (i := x.2) _ hx hrange hyall (fun hne => hd y ?_) (by omega) (by omega)
    rw [List.mem_append, List.mem_singleton] at hy
    exact hy.resolve_right hne

/-- A clamped profile lies in its ranges (R199). -/
theorem Profile.clampAll_sound (pr : Profile) : pr.clampAll.sound :=
  (Profile.sound_iff _).mpr (Profile.foldl_clampAt_fits [] allParams pr rfl (by simp))

/-! ### One value set (R203) -/

theorem Profile.param_adjust (pr : Profile) {m : Nat} (j : Nat) (h3 : m ≠ 3) (h25 : m ≠ 25) : pr.adjust.param m j = pr.param m j := by
  unfold Profile.param
  split <;> try contradiction
  all_goals rfl

theorem Profile.range_adjust (pr : Profile) (m : Nat) : pr.adjust.range m = pr.range m :=
  Profile.range_congr m (fun _ => rfl) fun _ => rfl

/-- The adjustments bring the reference head and travel high into their ranges, and leave every other value. -/
theorem Profile.adjust_fits {pr : Profile} (h : ∀ x ∈ allParams, x.1 ≠ 3 → x.1 ≠ 25 → pr.fits x) (h25 : pr.travelHigh ≤ 8388607) :
    pr.adjust.sound := by
  rw [Profile.sound_iff]
  intro x hx
  by_cases hx3 : x.1 = 3
  · have h1 := (h (1, 0) (by decide) (by decide) (by decide)).1.1
    simp only [Profile.range, Profile.param] at h1
    refine ⟨?_, by omega⟩
    rw [Profile.range_adjust, hx3]
    simp only [Profile.range, Profile.param, Profile.adjust]
    split <;> omega
  · by_cases hx25 : x.1 = 25
    · have h24 := (h (24, 0) (by decide) (by decide) (by decide)).1.2
      simp only [Profile.range, Profile.param] at h24
      refine ⟨?_, by omega⟩
      rw [Profile.range_adjust, hx25]
      simp only [Profile.range, Profile.param, Profile.adjust]
      split <;> omega
    · obtain ⟨hin, hw⟩ := h x hx hx3 hx25
      refine ⟨?_, hw⟩
      rw [Profile.range_adjust, Profile.param_adjust _ _ hx3 hx25]
      exact hin

/-- A profile in its ranges stays so when one value is set (R203). -/
theorem Profile.setParam_sound {pr : Profile} (hs : pr.sound) {n i : Nat} (hx : (n, i) ∈ allParams) (v : Int) :
    (pr.setParam n i v).sound := by
  have hf := (Profile.sound_iff pr).mp hs
  have hrange : (pr.range n).1 ≤ (pr.range n).2 :=
    Profile.range_ne_empty (fun _ => hf _ (by decide)) fun _ => hf _ (by decide)
  refine Profile.adjust_fits (fun y hy h3 h25 => ?_) ?_
  · exact Profile.withParam_fits v hx hrange hy (fun _ => hf y hy) (fun h => absurd h h3) fun h => absurd h h25
  · by_cases h24 : n = 24
    · subst h24
      exact (hf (25, 0) (by decide)).1.2
    · have hfit := (Profile.withParam_fits v hx hrange (y := (25, 0)) (by decide) (fun _ => hf _ (by decide)) (by simp)
        fun _ => h24).1.2
      simpa [Profile.range, Profile.param] using hfit

theorem paramArg_mem {number index : Byte} {n i : Nat} (h : paramArg number index = some (n, i)) : (n, i) ∈ allParams := by
  unfold paramArg at h
  split at h
  · rename_i hc
    cases h
    exact mem_allParams.mpr ⟨⟨hc.1, hc.2.1⟩, hc.2.2⟩
  · simp at h

end Sys2Proof.Machine
end

section
/-! SUPPORT. The pieces of the commands told one by one that are runs of small changes: of ATTACH, RESET PORT, SET PARAMETER and the
ends of a load. -/

namespace Sys2Proof.Machine

variable {c : Scope}

/-! ### ATTACH (R183, R189, R199) -/

theorem setAttached_moves {p : Port} (hp : c.ports p = true) (hd : c.details = true) (b : Bool) (s : State) :
    Moves c s (setAttached p b s) := setPort_moves hp hd rfl rfl (fun h => h) ⟨rfl, rfl⟩

theorem postQuiet_moves {src : Source} (hc : c.tells src) (x : Detail) (p : Port) (s : State) : Moves c s (postQuiet src x p s) :=
  (storeDetail_moves hc p x s).trans (raiseMerge_moves p src _)

/-- What changes beside the marks of the Profile Store when an owed notice is posted (R199). -/
theorem postOwed_moves (hd : c.details = true) (p : Port) (s : State) :
    ∃ u w x, Moves c s u ∧ postOwed p s = u.setStore { u.store with owedW := w, owedP := x } := by
  unfold postOwed
  split
  · rename_i slot _
    have h := postQuiet_moves (src := .fault) (.inl hd) (.profile slot) p s
    cases p with
    | workstation => exact ⟨_, none, _, h, rfl⟩
    | positioner => exact ⟨_, _, none, h, rfl⟩
    | adapter => exact ⟨_, _, _, h, rfl⟩
  · exact ⟨s, _, _, .refl s, rfl⟩

/-! ### RESET PORT (R194, R195) -/

theorem disarmSpace_moves (t : Port) (s : State) : Moves c s (disarmSpace t s) := by
  cases t with
  | workstation => exact setJobs_moves_quiet (fun _ h => h) rfl rfl rfl
  | positioner => exact setJobs_moves_quiet (fun _ h => h) rfl rfl rfl
  | adapter => exact .refl s

theorem clearWorkOf_moves (hc : c.jobs = true) (t : Port) (s : State) : Moves c s (clearWorkOf t s) := by
  have drop : Moves c s (forStacked dropStacked (s.stackedOf t) (forQueued dropQueued (s.queuedOf t) (disarmSpace t s))) :=
    ((disarmSpace_moves t s).trans (forQueued_moves (dropQueued_moves hc) _ _)).trans (forStacked_moves (dropStacked_moves hc) _ _)
  have groups : ∀ u : State, Moves c u (if t = .workstation then u.setJobs { u.jobs with groups := u.jobs.groups.filter Group.due } else u) := by
    intro u
    split
    · exact setJobs_moves hc fun _ h => h
    · exact .refl u
  unfold clearWorkOf
  dsimp only
  split
  · exact drop.trans (groups _)
  · exact (drop.trans (groups _)).trans (postSpace_moves _)

theorem withdrawAskIn_moves (found : ResetCase) (s : State) : Moves c s (withdrawAskIn found s) := by
  unfold withdrawAskIn
  split
  · exact withdrawAsk_moves s
  · exact .refl s

theorem withdrawCommit_moves (hc : c.jobs = true) (s : State) : Moves c s (withdrawCommit s) := by
  unfold withdrawCommit
  split
  · exact (clearActive_moves hc _ s).trans (afterJob_moves hc _ _ _)
  · exact .refl s

/-! ### The Profile Store (R63, R90, R199, R203) -/

theorem unalign_moves (hc : c.sample = true) (s : State) : Moves c s (unalign s) := setSample_moves hc fun _ h => by
  obtain ⟨-, h2⟩ := h
  exact ⟨Nat.zero_le _, h2⟩

theorem loadEffects_moves (hj : c.jobs = true) (hc : c.sample = true) (s : State) : Moves c s (loadEffects s) :=
  .after (unalign_moves hc _) ((dropHome_moves s).trans (clearDrift_moves hj _))

theorem startSampleTimers_moves (hc : c.sample = true) (s : State) : Moves c s (startSampleTimers s) := setSample_moves hc fun _ h => h

theorem Profile.sound.filterLength_range {pr : Profile} (h : pr.sound) : 1 ≤ pr.filterLength ∧ pr.filterLength ≤ 8 := by
  have h27 := h.1 (27, 0) (by decide)
  simp only [Profile.range, Profile.param] at h27
  omega

theorem setFilterLength_moves (hc : c.frame = true) (s : State) :
    Moves c s { s with frame := { s.frame with filterLength := s.store.profile.filterLength } } :=
  setFrame_moves hc fun hp h => by
    obtain ⟨h1, h2, h3, -, -, h6⟩ := h
    exact ⟨h1, h2, h3, hp.filterLength_range.1, hp.filterLength_range.2, h6⟩

/-- A good load is a run of small changes once the profile stands in the store. -/
theorem goodLoad_moves (hj : c.jobs = true) (hl : ∀ p, c.lists p = true) (hd : c.details = true) (hf : c.frame = true)
    (hc : c.sample = true) (slot : Nat) (pr : Profile) (s : State) :
    Moves c (s.setStore { state := .ready, profile := pr, slot := some slot, owedW := none, owedP := none }) (goodLoad slot pr s) := by
  have length := setFilterLength_moves (c := c) hf
    (s.setStore { state := .ready, profile := pr, slot := some slot, owedW := none, owedP := none })
  unfold goodLoad
  dsimp only
  split
  · exact .after (testTravel_moves hj hl hd hf _) length
  · exact .after (testTravel_moves hj hl hd hf _) (.after (startSampleTimers_moves hc _) length)

/-- The notice of a failed load is a post, or a mark of the Profile Store (R199). -/
theorem postOrOwe_moves (hd : c.details = true) (p : Port) (slot : Nat) (s : State) :
    ∃ u w x, Moves c s u ∧ postOrOwe p slot s = u.setStore { u.store with owedW := w, owedP := x } := by
  unfold postOrOwe
  split
  · exact ⟨_, _, _, post_moves (.inl hd) _ _ s, rfl⟩
  · cases p with
    | workstation => exact ⟨s, _, _, .refl s, rfl⟩
    | positioner => exact ⟨s, _, _, .refl s, rfl⟩
    | adapter => exact ⟨s, _, _, .refl s, rfl⟩

/-- The effects of a bad load before its notices are a run of small changes once the store has no profile in force. -/
theorem stopForNoProfile_moves (hf : c.frame = true) (hc : c.sample = true) (s : State) :
    Moves c s { s with
      frame := { s.frame with travel := .untested }
      sample := { s.sample with window := .stopped, loss := .stopped } } :=
  .after (setSample_moves hc (s := s.setFrame { s.frame with travel := .untested }) fun _ h => h) (setFrame_moves hf fun _ h => h)

/-- What an accepted change of a parameter does beside profile RAM and the table is a run of small changes (R203). -/
theorem paramEffects_moves (hj : c.jobs = true) (hl : ∀ p, c.lists p = true) (hd : c.details = true) (hf : c.frame = true)
    (hc : c.sample = true) (n : Nat) (s : State) : Moves c s (paramEffects n s) := by
  unfold paramEffects
  split
  · exact unalign_moves hc s
  · split
    · exact clearDrift_moves hj s
    · split
      · exact setFilterLength_moves hf s
      · split
        · exact testTravel_moves hj hl hd hf s
        · exact .refl s

end Sys2Proof.Machine
end

section
/-! SUPPORT. The ranges of the values at every step (R17, R61, R65, R80, R100, R122, R129, R136, R156, R167, R172, R184, R198). -/

namespace Sys2Proof.Machine

variable {c : Scope} {s t : State}

/-! ### The parts of the state replaced -/

theorem State.ranged.ports (h : s.ranged) (p : Port) : (s.port p).sound := by
  obtain ⟨-, -, -, -, -, -, -, h8⟩ := h
  exact h8 p

theorem State.ranged.arbiter (h : s.ranged) : s.arbiter.inRange := by
  obtain ⟨-, -, -, -, -, h6, -, -⟩ := h
  exact h6

theorem State.ranged.setPort {p : Port} {x : LinkPort} (h : s.ranged) (hx : x.sound) : (s.setPort p x).ranged := by
  obtain ⟨h1, h2, h3, h4, h5, h6, h7, h8⟩ := h
  exact ⟨h1, h2, h3, h4, h5, h6, h7, setPort_sound h8 hx⟩

theorem State.ranged.setStore {st : ProfileStore} (h : s.ranged) (hp : st.profile.sound) : (s.setStore st).ranged := by
  obtain ⟨-, h2, h3, h4, h5, h6, h7, h8⟩ := h
  exact ⟨hp, h2, h3, h4, h5, h6, h7, h8⟩

theorem State.ranged.setTable {x : HeadMap} (h : s.ranged) (hx : x.generation < 65536) : ({ s with table := x } : State).ranged := by
  obtain ⟨h1, h2, h3, h4, h5, h6, -, h8⟩ := h
  exact ⟨h1, h2, h3, h4, h5, h6, hx, h8⟩

theorem State.ranged.setArbiter {a : Arbiter} (h : s.ranged) (ha : a.inRange) : (s.setArbiter a).ranged := by
  obtain ⟨h1, h2, h3, h4, h5, -, h7, h8⟩ := h
  exact ⟨h1, h2, h3, h4, h5, ha, h7, h8⟩

theorem State.ranged.setEngine {e : Engine} (h : s.ranged) : (s.setEngine e).ranged := h

theorem State.ranged.setSlot {p : Port} {x : Slot} (h : s.ranged) : (s.setSlot p x).ranged :=
  h.setPort (LinkPort.sound_of_slot x (h.ports p))

theorem State.ranged.setCursor {p : Port} {x : Option Cursor} (h : s.ranged) (hx : (s.port p).admits x) : (s.setCursor p x).ranged := by
  refine h.setPort ?_
  obtain rfl | ⟨y, rfl, hy⟩ := hx
  · exact h.ports p
  · exact LinkPort.sound_of_cursor (h.ports p) fun z hz => by cases hz; exact hy

/-! ### The operations of the slots and of the grant -/

theorem State.ranged.answer {p : Port} {tag : Byte} {a : Answer} (h : s.ranged) : (answer p tag a s).ranged := h.setSlot

theorem State.ranged.answerPending {p : Port} {a : Answer} (h : s.ranged) : (answerPending p a s).ranged := by
  unfold Machine.answerPending
  split
  · exact h.answer
  · exact h
  · exact h

theorem State.ranged.dropRequest {p : Port} (h : s.ranged) : (dropRequest p s).ranged := by
  obtain ⟨h1, h2⟩ := h.ports p
  exact h.setPort ⟨satSucc_le h1, h2⟩

theorem State.ranged.release (h : s.ranged) : (release s).ranged :=
  State.ranged_of_aside h (release_aside s) (release_inRange h.arbiter (State.ranged.cursorsInRange h.ports)) fun p => by
    rw [release_port]
    exact h.ports p

theorem State.ranged.withdrawAsk {a : Client} (h : s.ranged) : (withdrawAsk a s).ranged :=
  State.ranged_of_aside h (withdrawAsk_aside a s) (withdrawAsk_inRange h.arbiter) h.ports

theorem State.ranged.askGrant {a : Client} {op : TableOp} (h : s.ranged) : (askGrant a op s).ranged := by
  obtain ⟨ha, hp⟩ := askGrant_ranges (c := a) (op := op) h.arbiter h.ports
  exact State.ranged_of_aside h (askGrant_aside a op s) ha hp

theorem State.ranged.finishBlockRead {p : Port} {a : Assembly} {cut : Bool} (h : s.ranged) (ha : a.last ≤ 191) :
    (finishBlockRead p a cut s).ranged := by
  obtain ⟨hr, hp⟩ := finishBlockRead_ranges (p := p) (cut := cut) h.arbiter h.ports ha
  exact State.ranged_of_aside h (finishBlockRead_aside p a cut s) hr hp

theorem Arbiter.inRange.setHold {a : Arbiter} {x : HoldTimer} (h : a.inRange) (hx : ∀ n, x = .running n → n ≤ 2550) :
    ({ a with hold := x } : Arbiter).inRange := by
  obtain ⟨h1, h2, -, h4⟩ := h
  exact ⟨h1, h2, hx, h4⟩

theorem Arbiter.inRange.assembly {p : Port} {op : TableOp} {a : Assembly} (h : s.arbiter.inRange)
    (ha : s.assembling = some (p, op, a)) : a.last ≤ 191 := by
  obtain ⟨-, -, -, h4⟩ := h
  obtain ⟨hh, ho⟩ := State.assembling_eq_some.mp ha
  exact h4 _ _ _ hh ho

theorem State.ranged.expireHold (h : s.ranged) : (expireHold s).ranged := by
  have hold := h.setArbiter (h.arbiter.setHold (x := .expired) (by simp))
  unfold Machine.expireHold
  split
  · split
    · exact hold
    · exact h.finishBlockRead (h.arbiter.assembly ‹_›)
  · exact hold

theorem State.ranged.startHold (h : s.ranged) : (startHold s).ranged := by
  unfold Machine.startHold
  split
  · exact h.expireHold
  · refine h.setArbiter (h.arbiter.setHold fun n hn => ?_)
    obtain ⟨-, ht, -⟩ := h.arbiter
    cases hn
    omega

theorem TableOp.assembly_withAssembly {op : TableOp} {a x b : Assembly} (h : op.assembly = some a)
    (hb : (op.withAssembly x).assembly = some b) : b = x := by
  cases op <;> simp_all [TableOp.withAssembly, TableOp.assembly]

theorem State.ranged.proceed {n : Nat} (h : s.ranged) : (proceed n s).ranged := by
  unfold Machine.proceed
  split
  · rename_i p op a ha
    obtain ⟨h1, h2, h3, -⟩ := h.arbiter
    refine h.setArbiter ⟨h1, h2, h3, fun c o x hx ho => ?_⟩
    simp only [Option.some.injEq, Prod.mk.injEq] at hx
    rw [← hx.2] at ho
    obtain ⟨-, hop⟩ := State.assembling_eq_some.mp ha
    rw [TableOp.assembly_withAssembly hop ho]
    obtain ⟨-, hl, -⟩ := Assembly.visits_spec s n a
    rw [hl]
    exact h.arbiter.assembly ha
  · exact h

theorem Assembly.whole_last (s : State) (a : Assembly) : (a.whole s).last = a.last := by
  obtain ⟨-, hl, -⟩ := Assembly.visits_spec s 192 a
  unfold Assembly.whole
  dsimp only
  split
  · rw [Assembly.visit_last, hl]
  · exact hl

theorem State.ranged.completeAssembly (h : s.ranged) : (completeAssembly s).ranged := by
  unfold Machine.completeAssembly
  split
  · exact h.finishBlockRead (by rw [Assembly.whole_last]; exact h.arbiter.assembly ‹_›)
  · exact h

/-! ### The table -/

theorem State.ranged.generation (h : s.ranged) : s.table.generation < 65536 := by
  obtain ⟨-, -, -, -, -, -, h7, -⟩ := h
  exact h7

theorem State.ranged.setEntry {n z : Nat} {e : Entry} (h : s.ranged) : (setEntry n z e s).ranged := h.setTable h.generation

theorem State.ranged.mapEntries {f : Nat → Entry → Entry} (h : s.ranged) : (mapEntries f s).ranged := h.setTable h.generation

theorem State.ranged.publishTable (h : s.ranged) : (publishTable s).ranged := by
  have hs : (offsetStep (stagedStep s)).ranged := State.ranged.mapEntries (State.ranged.mapEntries h)
  exact hs.setTable (Nat.mod_lt _ (by omega))

theorem State.ranged.commitTable {r : SearchRecord} {part : StagedPart} (h : s.ranged) : (commitTable r part s).ranged := by
  unfold Machine.commitTable
  split
  · exact h
  · dsimp only
    split
    · exact State.ranged.mapEntries (State.ranged.setEntry h)
    · exact State.ranged.setEntry h

/-! ### Requests -/

theorem State.ranged.request {i : Instr} {p : Port} {a : Access} {body : State → State} (h : s.ranged)
    (hb : ∀ u : State, u.ranged → (body u).ranged) : (request i p a body s).ranged := by
  obtain ⟨-, e⟩ | ⟨-, st, e⟩ | ⟨-, -, e⟩ := request_cases i p a body s
  · rw [e]
    exact h.dropRequest
  · rw [e]
    exact (h.setSlot).answer
  · rw [e]
    exact hb _ h.setSlot

/-- A command within its reach keeps the ranges. -/
theorem Reaches.ranged (hr : Reaches c s t) (h : s.ranged) : t.ranged := by
  obtain hm | ⟨p, ⟨-, rfl⟩ | ⟨-, i, ⟨tag, a, u, hm, rfl⟩ | ⟨op, u, x, hm, -, hx, rfl⟩⟩⟩ := hr
  · exact hm.ranged h
  · exact h.dropRequest
  · exact (hm.ranged h.setSlot).answer
  · exact ((hm.ranged h.setSlot).setCursor hx).askGrant

/-! ### The commands told one by one -/

theorem LinkPort.reset_sound : LinkPort.reset.sound :=
  ⟨by decide, by decide, by decide, fun src => by cases src <;> decide, by decide, by decide, by decide, fun c h => by cases h⟩

theorem Profile.reset_sound : Profile.reset.sound := by
  unfold Profile.sound
  decide +kernel

theorem Arbiter.reset_inRange : Arbiter.reset.inRange :=
  ⟨fun c => by cases c <;> decide, by decide, by simp [Arbiter.reset], by simp [Arbiter.reset]⟩

theorem HandshakeUnit.reset_sound : HandshakeUnit.reset.sound :=
  ⟨by decide, by decide, by simp [HandshakeUnit.reset], by simp [HandshakeUnit.reset], by simp [HandshakeUnit.reset]⟩

theorem PositionFrame.reset_sound : PositionFrame.reset.sound := by
  unfold PositionFrame.sound
  decide

theorem SamplePath.reset_sound : SamplePath.reset.sound := by
  unfold SamplePath.sound
  decide

theorem JobQueue.reset_sound : JobQueue.reset.sound := by
  unfold JobQueue.sound
  decide

/-- The values at power-on lie in their ranges (R27, R28, R99, R100, R141, R156, R172, R184, R198). -/
theorem State.reset_ranged : State.reset.ranged :=
  ⟨Profile.reset_sound, PositionFrame.reset_sound, SamplePath.reset_sound, HandshakeUnit.reset_sound, JobQueue.reset_sound,
    Arbiter.reset_inRange, by decide, fun p => by cases p <;> exact LinkPort.reset_sound⟩

theorem execAttach_ranged (p : Port) (tag : Byte) (h : s.ranged) (he : execAttach p tag s = .next t) : t.ranged := by
  unfold execAttach at he
  cases he
  refine h.request fun u hu => State.ranged.answer ?_
  split
  · exact hu
  · obtain ⟨v, w, x, hm, e⟩ := postOwed_moves (c := .clearing) rfl p (setAttached p true u)
    have hv : (setAttached p true u).ranged := (setAttached_moves (c := .clearing) rfl rfl true u).ranged hu
    have ho : (postOwed p (setAttached p true u)).ranged := by
      rw [e]
      obtain ⟨hp, -⟩ := hm.ranged hv
      exact (hm.ranged hv).setStore hp
    exact (Moves.after (advance_moves (c := .clearing) rfl _) (pulseIfEligible_moves p _)).ranged ho

theorem withdrawRead_ranged {q : Port} (h : s.ranged) : (withdrawRead q s).ranged := by
  have asked : (if (s.arbiter.waiting.get (Port.client q)).isSome = true then withdrawAsk (Port.client q) s else s).ranged := by
    split
    · exact h.withdrawAsk
    · exact h
  unfold withdrawRead
  dsimp only
  split
  · split
    · exact asked.release
    · exact asked
  · exact asked

theorem resetStanding_ranged {p q : Port} (h : s.ranged) : (resetStanding p q s).ranged := by
  have read : (if q = p then s else withdrawRead q (dropReply q s)).ranged := by
    split
    · exact h
    · exact withdrawRead_ranged h.setEngine
  have work := (clearWorkOf_moves (c := .working) rfl q _).ranged (read.setPort (p := q)
    (x := LinkPort.resetBy (State.port (if q = p then s else withdrawRead q (dropReply q s)) q) (q == p))
    (LinkPort.sound_of_slot _ LinkPort.reset_sound))
  unfold resetStanding
  dsimp only
  split
  · exact (dropHome_moves (c := .working) _).ranged work
  · exact work

theorem resetPort_ranged (p q : Port) (tag : Byte) (h : s.ranged) : (resetPort p q tag s).ranged := by
  have base : (resetStanding p q (withdrawAskIn (s.resetCase q) s)).ranged :=
    resetStanding_ranged ((withdrawAskIn_moves (c := .working) _ s).ranged h)
  unfold resetPort
  dsimp only
  split
  · exact ((endJob_moves (c := .working) rfl (Scope.reports_of_lists (fun _ => rfl) _ _)).ranged base).answer
  · exact ((withdrawCommit_moves (c := .working) rfl _).ranged base).answer
  · exact base.setEngine
  · exact ((advance_moves (c := .working) rfl _).ranged base).answer

theorem execResetPort_ranged (p : Port) (tag target : Byte) (h : s.ranged) (he : execResetPort p tag target s = .next t) :
    t.ranged := by
  unfold execResetPort at he
  cases he
  refine h.request fun u hu => ?_
  split
  · exact hu.answer
  · split
    · exact hu.answer
    · exact resetPort_ranged _ _ _ hu

theorem priorityArg_le {b : Byte} {n : Nat} (h : priorityArg b = some n) : n ≤ 3 := by
  unfold priorityArg at h
  split at h
  · cases h
    assumption
  · simp at h

theorem prioritiesArg_le {e w d p : Byte} {x : PerClient Nat} (h : prioritiesArg e w d p = some x) (a : Client) : x.get a ≤ 3 := by
  unfold prioritiesArg at h
  split at h
  · cases h
    cases a <;> exact priorityArg_le ‹_›
  · simp at h

theorem reexamineHold_ranged (h : s.ranged) : (reexamineHold s).ranged := by
  have stop := h.setArbiter (h.arbiter.setHold (x := .stopped) (by simp))
  unfold reexamineHold
  dsimp only
  split <;> split
  · exact h.startHold
  · exact h
  · exact h
  · exact stop
  · exact h
  · exact stop

theorem execSetArbitration_ranged (q : Port) (tag e w d p preemption holdTime : Byte) (h : s.ranged)
    (he : execSetArbitration q tag e w d p preemption holdTime s = .next t) : t.ranged := by
  unfold execSetArbitration at he
  cases he
  refine h.request fun u hu => ?_
  split
  · rename_i ps on hps _
    refine State.ranged.answer (reexamineHold_ranged (hu.setArbiter ?_))
    obtain ⟨-, -, h3, h4⟩ := hu.arbiter
    exact ⟨prioritiesArg_le hps, by have := holdTime.isLt; simp only; omega, h3, h4⟩
  · exact hu.answer

theorem execSelectProfile_ranged (p : Port) (tag slot : Byte) (h : s.ranged) (he : execSelectProfile p tag slot s = .next t) :
    t.ranged := by
  unfold execSelectProfile at he
  cases he
  refine h.request fun u hu => ?_
  split
  · exact hu.answer
  · split
    · exact hu.answer
    · exact hu.setStore hu.1

theorem execSaveProfile_ranged (p : Port) (tag slot : Byte) (h : s.ranged) (he : execSaveProfile p tag slot s = .next t) :
    t.ranged := by
  unfold execSaveProfile at he
  cases he
  refine h.request fun u hu => ?_
  split
  · exact hu.answer
  · split
    · exact hu.answer
    · split
      · exact hu.answer
      · exact hu.setStore hu.1

/-- The scope of the commands of the Profile Store. -/
def Scope.store : Scope := { jobs := true, lists := fun _ => true, details := true, sample := true, frame := true }

theorem setParameter_ranged {n i : Nat} (p : Port) (tag : Byte) (v : Int) (hx : (n, i) ∈ allParams) (h : s.ranged) :
    (setParameter p tag n i v s).ranged := by
  have changed := (paramEffects_moves (c := .store) rfl (fun _ => rfl) rfl rfl rfl n _).ranged
    (h.setStore (st := { s.store with profile := s.store.profile.setParam n i v }) (Profile.setParam_sound h.1 hx v))
  unfold setParameter
  dsimp only
  split
  · exact changed.askGrant
  · exact changed.answer

theorem execSetParameter_ranged (p : Port) (tag number index : Byte) (value : ValueWord) (h : s.ranged)
    (he : execSetParameter p tag number index value s = .next t) : t.ranged := by
  unfold execSetParameter at he
  cases he
  refine h.request fun u hu => ?_
  split
  · exact hu.answer
  · split
    · exact hu.answer
    · split
      · exact hu.answer
      · exact setParameter_ranged p tag _ (paramArg_mem ‹_›) hu

theorem execResponseRead_ranged (p : Port) (clocked : Nat) (h : s.ranged) (he : execResponseRead p clocked s = .next t) : t.ranged := by
  unfold execResponseRead at he
  cases he
  split
  · split
    · obtain ⟨h1, h2⟩ := h.ports p
      exact h.setPort ⟨Nat.le_trans (Nat.sub_le _ _) h1, h2⟩
    · exact h
  · exact h
  · exact h

theorem loadedProfile_sound {image : Option (List Byte)} {pr : Profile} (h : loadedProfile image = some pr) : pr.sound := by
  unfold loadedProfile at h
  split at h
  · split at h
    · rw [← Option.some.inj h]
      exact Profile.clampAll_sound _
    · contradiction
  · contradiction

theorem postOrOwe_ranged (p : Port) (slot : Nat) (h : s.ranged) : (postOrOwe p slot s).ranged := by
  obtain ⟨u, w, x, hm, e⟩ := postOrOwe_moves (c := .store) rfl p slot s
  rw [e]
  exact (hm.ranged h).setStore (hm.ranged h).1

theorem completeLoad_ranged {slot : Nat} {loaded : Option Profile} (hl : ∀ pr, loaded = some pr → pr.sound) (h : s.ranged) :
    (completeLoad slot loaded s).ranged := by
  have effects := (loadEffects_moves (c := .store) rfl rfl s).ranged h
  unfold completeLoad
  split
  · exact (Moves.after (advance_moves (c := .store) rfl _) (goodLoad_moves (c := .store) rfl (fun _ => rfl) rfl rfl rfl slot _ _)).ranged
      (effects.setStore (hl _ rfl))
  · have none := effects.setStore (st := { (loadEffects s).store with state := .noProfile, slot := none }) effects.1
    exact postOrOwe_ranged _ _ (postOrOwe_ranged _ _ ((stopForNoProfile_moves (c := .store) rfl rfl _).ranged none))

theorem execProfileLoadComplete_ranged (b : Option Byte) (image : Option (List Byte)) (h : s.ranged)
    (he : execProfileLoadComplete b image s = .next t) : t.ranged := by
  unfold execProfileLoadComplete at he
  cases he
  split
  · have loaded : ∀ slot, (completeLoad slot (loadedProfile image) s).ranged := fun _ =>
      completeLoad_ranged (fun _ => loadedProfile_sound) h
    dsimp only
    split
    · exact (loaded _).mapEntries
    · exact (loaded _).askGrant
  · exact h
  · exact h
  · exact h

theorem execProfileSaveComplete_ranged (x : Option (List Byte)) (h : s.ranged) (he : execProfileSaveComplete x s = .next t) :
    t.ranged := by
  unfold execProfileSaveComplete at he
  cases he
  split
  · have saved := (advance_moves (c := .store) rfl (s.setStore { s.store with state := .ready })).ranged (h.setStore h.1)
    dsimp only
    split
    · exact saved.answerPending
    · exact State.ranged.answerPending ((postFault_moves (c := .store) rfl _ _).ranged saved)
  · exact h
  · exact h
  · exact h

theorem execHoldTimerExpiry_ranged (n : Nat) (h : s.ranged) (he : execHoldTimerExpiry n s = .next t) : t.ranged := by
  unfold execHoldTimerExpiry at he
  cases he
  split
  · exact h.proceed.expireHold
  · exact h
  · exact h

theorem answerAll_ranged (l : List ResetReply) (h : s.ranged) : (answerAll l s).ranged := by
  induction l generalizing s with
  | nil => exact h
  | cons x l ih =>
    refine ih (State.ranged.answerPending ?_)
    unfold forgetDrops
    split
    · obtain ⟨-, h2⟩ := h.ports x.port
      exact h.setPort ⟨Nat.zero_le _, h2⟩
    · exact h

theorem postDrift_moves (hd : c.details = true) (z : Nat) (x : Option Int) (marked : Bool) (s : State) :
    Moves c s (postDrift z x marked s) := by
  unfold postDrift
  split
  · split
    · exact postWD_moves hd _ _ s
    · exact .refl s
  · exact .refl s

theorem commitJob_ranged (r : SearchRecord) (o : JobOutcome) (part : StagedPart) (h : s.ranged) : (commitJob r o part s).ranged := by
  have base : (postDrift r.job.work.zone (s.driftFound r.job.work part) (s.store.profile.marks (s.driftFound r.job.work part))
      (Machine.release (Machine.commitTable r part s))).ranged :=
    (postDrift_moves (c := .store) rfl _ _ _ _).ranged (State.ranged.release h.commitTable)
  unfold commitJob endCommit
  dsimp only
  split
  · refine answerAll_ranged _ (State.ranged.setEngine ?_)
    exact ((clearActive_moves (c := .store) rfl r _).trans (afterJob_moves rfl _ _ _)).ranged base
  · exact ((((writeRecord_moves (c := .store) rfl _ _).trans (clearActive_moves rfl r _)).trans (accountEnd_moves rfl _ _)).trans
      (afterJob_moves rfl _ _ _)).ranged base

theorem execCommit_ranged (h : s.ranged) (he : execCommit s = .next t) : t.ranged := by
  unfold execCommit at he
  cases he
  split
  · split
    · exact commitJob_ranged _ _ _ h
    · exact h
  · exact h

theorem removePublished_moves (hc : c.jobs = true) (s : State) : Moves c s (removePublished s) := by
  unfold removePublished
  split
  · exact setJobs_moves hc fun _ h => h
  · exact .refl s

theorem leavePublish_moves (hc : c.jobs = true) (s : State) : Moves c s (leavePublish s) := by
  unfold leavePublish
  split
  · exact setEngine_moves hc rfl
  · exact .after (advance_moves hc _) (setEngine_moves hc rfl)

theorem execGroupEndPublish_ranged (h : s.ranged) (he : execGroupEndPublish s = .next t) : t.ranged := by
  unfold execGroupEndPublish at he
  cases he
  split
  · exact (((postWD_moves (c := .store) rfl _ _ _).trans (removePublished_moves rfl _)).trans (leavePublish_moves rfl _)).ranged
      (State.ranged.release h.publishTable)
  · exact h

theorem endOperation_ranged (p : Port) (op : TableOp) (h : s.ranged) : (endOperation p op s).ranged := by
  unfold endOperation
  split
  · exact State.ranged.answerPending ((postWD_moves (c := .store) rfl _ _ _).ranged (State.ranged.release h.publishTable))
  · exact State.ranged.answerPending (State.ranged.release h.setEntry)
  · exact State.ranged.answerPending (State.ranged.release h.mapEntries)
  · exact State.ranged.answerPending (State.ranged.release h.setEntry)
  · exact State.ranged.answerPending (State.ranged.release h.setEntry)
  · unfold endClearEntry
    split
    · exact State.ranged.answerPending (State.ranged.release h.mapEntries)
    · exact State.ranged.answerPending (State.ranged.release h)
  · exact State.ranged.answerPending (State.ranged.release h.mapEntries)
  · exact State.ranged.answerPending (State.ranged.release h.mapEntries)
  · exact State.ranged.answerPending (State.ranged.release h)
  · exact h
  · exact h
  · exact h
  · exact h
  · exact h

theorem execTableOperationEnd_ranged (h : s.ranged) (he : execTableOperationEnd s = .next t) : t.ranged := by
  unfold execTableOperationEnd at he
  cases he
  split
  · split
    · exact endOperation_ranged _ _ h
    · exact h
  · exact h

theorem tickTimers_port (s : State) (p : Port) : (tickTimers s).port p = (s.port p).tick := by
  cases p <;> rfl

theorem tickTimers_ranged (h : s.ranged) : (tickTimers s).ranged := by
  obtain ⟨h1, h2, h3, h4, h5, h6, h7, h8⟩ := h
  refine ⟨h1, h2, h3, h4, h5, h6.setHold fun n hn => ?_, h7, fun p => by rw [tickTimers_port]; exact h8 p⟩
  obtain ⟨-, -, h6, -⟩ := h6
  cases hh : s.arbiter.hold <;> simp only [hh, HoldTimer.tick] at hn
  · simp at hn
  · rename_i m
    have := h6 m hh
    cases hn
    omega
  · simp at hn

theorem idleStep_ranged (h : s.ranged) : (idleStep s).ranged := by
  unfold idleStep
  split
  · exact h
  · refine tickTimers_ranged ?_
    unfold assemble
    split
    · exact State.ranged.proceed (n := Config.indicesVisited s.draws % 193) h
    · exact h

/-- Every command keeps the ranges. -/
theorem exec_ranged {i : Instr} (h : s.ranged) (he : exec i s = .next t) : t.ranged := by
  cases hr : Instr.reach i with
  | some c =>
    obtain ⟨u, hu, hreach⟩ := exec_within hr s
    rw [hu] at he
    cases he
    exact hreach.ranged h
  | none =>
    cases i <;> try contradiction
    case resetnRelease =>
      cases he
      exact State.reset_ranged
    case attach => exact execAttach_ranged _ _ h he
    case resetPort => exact execResetPort_ranged _ _ _ h he
    case setArbitration => exact execSetArbitration_ranged _ _ _ _ _ _ _ _ h he
    case selectProfile => exact execSelectProfile_ranged _ _ _ h he
    case saveProfile => exact execSaveProfile_ranged _ _ _ h he
    case setParameter => exact execSetParameter_ranged _ _ _ _ _ h he
    case responseRead => exact execResponseRead_ranged _ _ h he
    case profileLoadComplete => exact execProfileLoadComplete_ranged _ _ h he
    case profileSaveComplete => exact execProfileSaveComplete_ranged _ h he
    case holdTimerExpiry => exact execHoldTimerExpiry_ranged _ h he
    case commit => exact execCommit_ranged h he
    case groupEndPublish => exact execGroupEndPublish_ranged h he
    case blockReadAssembly =>
      cases he
      exact h.completeAssembly
    case tableOperationEnd => exact execTableOperationEnd_ranged h he

/-- A step carries out the command at the front of the queue, or lets time pass. -/
theorem step_cases (he : step s = .next t) :
    (∃ i rest, s.pending = i :: rest ∧ exec i { s with pending := rest } = .next t) ∨ (s.pending = [] ∧ t = idleStep s) := by
  unfold step at he
  split at he
  · exact .inl ⟨_, _, ‹_›, he⟩
  · cases he
    exact .inr ⟨‹_›, rfl⟩

theorem step_ranged (h : s.ranged) (he : step s = .next t) : t.ranged := by
  obtain ⟨i, rest, -, hi⟩ | ⟨-, rfl⟩ := step_cases he
  · have hs : ({ s with pending := rest } : State).ranged := h
    exact exec_ranged hs hi
  · exact idleStep_ranged h

/-- Settles O59: the ranges are kept by the runs of small changes, by the slots and the grant, by the table, by the profiles a
load or SET PARAMETER brings into force, and by the timers. -/
theorem rangesKept : Obligations.RangesKept := fun _ _ => step_ranged

end Sys2Proof.Machine
end

section
/-! SUPPORT. No operation at the arbiter names an entry outside the table, at every step (R1). -/

namespace Sys2Proof.Machine

variable {c : Scope} {s t : State}

theorem answerPending_opsInTable {p : Port} {a : Answer} (h : s.arbiter.opsInTable) : (answerPending p a s).arbiter.opsInTable := by
  rw [answerPending_arbiter]
  exact h

theorem expireHold_opsInTable (h : s.arbiter.opsInTable) : (expireHold s).arbiter.opsInTable := by
  unfold expireHold
  split
  · split
    · exact h
    · exact finishBlockRead_opsInTable h
  · exact h

theorem completeAssembly_opsInTable (h : s.arbiter.opsInTable) : (completeAssembly s).arbiter.opsInTable := by
  unfold completeAssembly
  split
  · exact finishBlockRead_opsInTable h
  · exact h

theorem TableOp.inTable_withAssembly {op : TableOp} {a x : Assembly} (h : op.assembly = some a) : (op.withAssembly x).inTable = true := by
  cases op <;> simp_all [TableOp.assembly, TableOp.withAssembly, TableOp.inTable]

theorem proceed_opsInTable {n : Nat} (h : s.arbiter.opsInTable) : (proceed n s).arbiter.opsInTable := by
  unfold proceed
  split
  · rename_i p op a ha
    obtain ⟨-, ho⟩ := State.assembling_eq_some.mp ha
    refine ⟨fun x hx => ?_, h.2⟩
    rw [← Option.some.inj hx]
    exact TableOp.inTable_withAssembly ho
  · exact h

theorem request_opsInTable {i : Instr} {p : Port} {a : Access} {body : State → State} (h : s.arbiter.opsInTable)
    (hp : s.store.profile.sound)
    (hb : ∀ u : State, u.store.profile.sound → u.arbiter.opsInTable → (body u).arbiter.opsInTable) :
    (request i p a body s).arbiter.opsInTable := by
  obtain ⟨-, e⟩ | ⟨-, st, e⟩ | ⟨-, -, e⟩ := request_cases i p a body s <;> rw [e]
  · exact h
  · exact h
  · exact hb _ hp h

theorem Reaches.opsInTable (hr : Reaches c s t) (hp : s.store.profile.sound) (h : s.arbiter.opsInTable) : t.arbiter.opsInTable := by
  obtain hm | ⟨p, ⟨-, rfl⟩ | ⟨-, i, ⟨tag, a, u, hm, rfl⟩ | ⟨op, u, x, hm, ho, -, rfl⟩⟩⟩ := hr
  · exact hm.opsInTable h
  · exact h
  · exact hm.opsInTable (s := s.setSlot p (.pending i)) h
  · exact askGrant_opsInTable (s := u.setCursor p x) (hm.opsInTable (s := s.setSlot p (.pending i)) h) (ho hp)

theorem withdrawRead_opsInTable {q : Port} (h : s.arbiter.opsInTable) : (withdrawRead q s).arbiter.opsInTable := by
  have asked : (if (s.arbiter.waiting.get (Port.client q)).isSome = true then withdrawAsk (Port.client q) s else s).arbiter.opsInTable := by
    split
    · exact withdrawAsk_opsInTable h
    · exact h
  unfold withdrawRead
  dsimp only
  split
  · split
    · exact release_opsInTable asked
    · exact asked
  · exact asked

theorem resetStanding_opsInTable {p q : Port} (h : s.arbiter.opsInTable) : (resetStanding p q s).arbiter.opsInTable := by
  have read : (if q = p then s else withdrawRead q (dropReply q s)).arbiter.opsInTable := by
    split
    · exact h
    · exact withdrawRead_opsInTable (s := dropReply q s) h
  have work := (clearWorkOf_moves (c := .working) rfl q
    ((if q = p then s else withdrawRead q (dropReply q s)).setPort q
      (LinkPort.resetBy (State.port (if q = p then s else withdrawRead q (dropReply q s)) q) (q == p)))).opsInTable read
  unfold resetStanding
  dsimp only
  split
  · exact work
  · exact work

theorem resetPort_opsInTable (p q : Port) (tag : Byte) (h : s.arbiter.opsInTable) : (resetPort p q tag s).arbiter.opsInTable := by
  have base : (resetStanding p q (withdrawAskIn (s.resetCase q) s)).arbiter.opsInTable :=
    resetStanding_opsInTable ((withdrawAskIn_moves (c := .working) _ s).opsInTable h)
  unfold resetPort
  dsimp only
  split
  · exact (endJob_moves (c := .working) rfl (Scope.reports_of_lists (fun _ => rfl) _ _)).opsInTable base
  · exact (withdrawCommit_moves (c := .working) rfl _).opsInTable base
  · exact base
  · exact (advance_moves (c := .working) rfl _).opsInTable base

theorem reexamineHold_opsInTable (h : s.arbiter.opsInTable) : (reexamineHold s).arbiter.opsInTable := by
  have start : (startHold s).arbiter.opsInTable := by
    unfold startHold
    split
    · exact expireHold_opsInTable h
    · exact h
  unfold reexamineHold
  dsimp only
  split <;> split
  · exact start
  · exact h
  · exact h
  · exact h
  · exact h
  · exact h

theorem setParameter_opsInTable (p : Port) (tag : Byte) (n i : Nat) (v : Int) (h : s.arbiter.opsInTable) :
    (setParameter p tag n i v s).arbiter.opsInTable := by
  have changed := (paramEffects_moves (c := .store) rfl (fun _ => rfl) rfl rfl rfl n
    (s.setStore { s.store with profile := s.store.profile.setParam n i v })).opsInTable h
  unfold setParameter
  dsimp only
  split
  · exact askGrant_opsInTable changed rfl
  · exact changed

theorem postOrOwe_opsInTable (p : Port) (slot : Nat) (h : s.arbiter.opsInTable) : (postOrOwe p slot s).arbiter.opsInTable := by
  obtain ⟨u, w, x, hm, e⟩ := postOrOwe_moves (c := .store) rfl p slot s
  rw [e]
  exact hm.opsInTable h

theorem completeLoad_opsInTable (slot : Nat) (loaded : Option Profile) (h : s.arbiter.opsInTable) :
    (completeLoad slot loaded s).arbiter.opsInTable := by
  have effects := (loadEffects_moves (c := .store) rfl rfl s).opsInTable h
  unfold completeLoad
  split
  · exact (Moves.after (advance_moves (c := .store) rfl _)
      (goodLoad_moves (c := .store) rfl (fun _ => rfl) rfl rfl rfl slot _ _)).opsInTable effects
  · exact postOrOwe_opsInTable _ _ (postOrOwe_opsInTable _ _ ((stopForNoProfile_moves (c := .store) rfl rfl
      ((loadEffects s).setStore { (loadEffects s).store with state := .noProfile, slot := none })).opsInTable effects))

theorem answerAll_arbiter (l : List ResetReply) (s : State) : (answerAll l s).arbiter = s.arbiter := by
  obtain ⟨x, e⟩ := answerAll_ports l s
  rw [e]

theorem commitTable_arbiter (r : SearchRecord) (part : StagedPart) (s : State) : (commitTable r part s).arbiter = s.arbiter := by
  unfold commitTable
  split
  · rfl
  · dsimp only
    split <;> rfl

theorem commitJob_opsInTable (r : SearchRecord) (o : JobOutcome) (part : StagedPart) (h : s.arbiter.opsInTable) :
    (commitJob r o part s).arbiter.opsInTable := by
  have base : (postDrift r.job.work.zone (s.driftFound r.job.work part) (s.store.profile.marks (s.driftFound r.job.work part))
      (release (commitTable r part s))).arbiter.opsInTable :=
    (postDrift_moves (c := .store) rfl _ _ _ _).opsInTable (release_opsInTable (by rw [commitTable_arbiter]; exact h))
  unfold commitJob endCommit
  dsimp only
  split
  · unfold answerReset
    rw [answerAll_arbiter]
    exact ((clearActive_moves (c := .store) rfl r _).trans (afterJob_moves rfl _ _ _)).opsInTable base
  · exact ((((writeRecord_moves (c := .store) rfl _ _).trans (clearActive_moves rfl r _)).trans (accountEnd_moves rfl _ _)).trans
      (afterJob_moves rfl _ _ _)).opsInTable base

theorem endOperation_opsInTable (p : Port) (op : TableOp) (h : s.arbiter.opsInTable) : (endOperation p op s).arbiter.opsInTable := by
  unfold endOperation
  split
  · exact answerPending_opsInTable ((postWD_moves (c := .store) rfl _ _ _).opsInTable (release_opsInTable (s := publishTable s) h))
  · exact answerPending_opsInTable (release_opsInTable (s := setEntry _ _ _ s) h)
  · exact answerPending_opsInTable (release_opsInTable (s := discardAllStaged s) h)
  · exact answerPending_opsInTable (release_opsInTable (s := setEntry _ _ _ s) h)
  · exact answerPending_opsInTable (release_opsInTable (s := setEntry _ _ _ s) h)
  · unfold endClearEntry
    split
    · exact answerPending_opsInTable (release_opsInTable (s := clearEntryTable _ _ s) h)
    · exact answerPending_opsInTable (release_opsInTable h)
  · exact answerPending_opsInTable (release_opsInTable (s := emptyTable s) h)
  · exact answerPending_opsInTable (release_opsInTable (s := emptyTable s) h)
  · exact answerPending_opsInTable (release_opsInTable h)
  · exact h
  · exact h
  · exact h
  · exact h
  · exact h

/-! ### Every command -/

theorem execAttach_opsInTable (p : Port) (tag : Byte) (hp : s.store.profile.sound) (h : s.arbiter.opsInTable)
    (he : execAttach p tag s = .next t) : t.arbiter.opsInTable := by
  cases he
  refine request_opsInTable h hp fun u _ hu => ?_
  split
  · exact hu
  · obtain ⟨v, w, x, hm, e⟩ := postOwed_moves (c := .clearing) rfl p (setAttached p true u)
    have ho : (postOwed p (setAttached p true u)).arbiter.opsInTable := by
      rw [e]
      exact hm.opsInTable hu
    exact (Moves.after (advance_moves (c := .clearing) rfl _) (pulseIfEligible_moves p _)).opsInTable ho

theorem execResetPort_opsInTable (p : Port) (tag target : Byte) (hp : s.store.profile.sound) (h : s.arbiter.opsInTable)
    (he : execResetPort p tag target s = .next t) : t.arbiter.opsInTable := by
  cases he
  refine request_opsInTable h hp fun u _ hu => ?_
  split
  · exact hu
  · split
    · exact hu
    · exact resetPort_opsInTable _ _ _ hu

theorem execSetArbitration_opsInTable (q : Port) (tag e w d p preemption holdTime : Byte) (hp : s.store.profile.sound)
    (h : s.arbiter.opsInTable) (he : execSetArbitration q tag e w d p preemption holdTime s = .next t) : t.arbiter.opsInTable := by
  cases he
  refine request_opsInTable h hp fun u _ hu => ?_
  split
  · exact reexamineHold_opsInTable (s := u.setArbiter _) hu
  · exact hu

theorem execSelectProfile_opsInTable (p : Port) (tag slot : Byte) (hp : s.store.profile.sound) (h : s.arbiter.opsInTable)
    (he : execSelectProfile p tag slot s = .next t) : t.arbiter.opsInTable := by
  cases he
  refine request_opsInTable h hp fun u _ hu => ?_
  split
  · exact hu
  · split <;> exact hu

theorem execSaveProfile_opsInTable (p : Port) (tag slot : Byte) (hp : s.store.profile.sound) (h : s.arbiter.opsInTable)
    (he : execSaveProfile p tag slot s = .next t) : t.arbiter.opsInTable := by
  cases he
  refine request_opsInTable h hp fun u _ hu => ?_
  split
  · exact hu
  · split
    · exact hu
    · split <;> exact hu

theorem execSetParameter_opsInTable (p : Port) (tag number index : Byte) (value : ValueWord) (hp : s.store.profile.sound)
    (h : s.arbiter.opsInTable) (he : execSetParameter p tag number index value s = .next t) : t.arbiter.opsInTable := by
  cases he
  refine request_opsInTable h hp fun u _ hu => ?_
  split
  · exact hu
  · split
    · exact hu
    · split
      · exact hu
      · exact setParameter_opsInTable _ _ _ _ _ hu

theorem execResponseRead_opsInTable (p : Port) (clocked : Nat) (h : s.arbiter.opsInTable)
    (he : execResponseRead p clocked s = .next t) : t.arbiter.opsInTable := by
  cases he
  split
  · split <;> exact h
  · exact h
  · exact h

theorem execProfileLoadComplete_opsInTable (b : Option Byte) (image : Option (List Byte)) (h : s.arbiter.opsInTable)
    (he : execProfileLoadComplete b image s = .next t) : t.arbiter.opsInTable := by
  cases he
  split
  · dsimp only
    split
    · exact completeLoad_opsInTable _ _ h
    · exact askGrant_opsInTable (completeLoad_opsInTable _ _ h) rfl
  · exact h
  · exact h
  · exact h

theorem execProfileSaveComplete_opsInTable (x : Option (List Byte)) (h : s.arbiter.opsInTable)
    (he : execProfileSaveComplete x s = .next t) : t.arbiter.opsInTable := by
  cases he
  split
  · have saved := (advance_moves (c := .store) rfl (s.setStore { s.store with state := .ready })).opsInTable h
    dsimp only
    split
    · exact answerPending_opsInTable saved
    · exact answerPending_opsInTable ((postFault_moves (c := .store) rfl _ _).opsInTable saved)
  · exact h
  · exact h
  · exact h

theorem execHoldTimerExpiry_opsInTable (n : Nat) (h : s.arbiter.opsInTable) (he : execHoldTimerExpiry n s = .next t) :
    t.arbiter.opsInTable := by
  cases he
  split
  · exact expireHold_opsInTable (proceed_opsInTable h)
  · exact h
  · exact h

theorem execCommit_opsInTable (h : s.arbiter.opsInTable) (he : execCommit s = .next t) : t.arbiter.opsInTable := by
  cases he
  split
  · split
    · exact commitJob_opsInTable _ _ _ h
    · exact h
  · exact h

theorem execGroupEndPublish_opsInTable (h : s.arbiter.opsInTable) (he : execGroupEndPublish s = .next t) :
    t.arbiter.opsInTable := by
  cases he
  split
  · exact (((postWD_moves (c := .store) rfl _ _ _).trans (removePublished_moves rfl _)).trans
      (leavePublish_moves rfl _)).opsInTable (release_opsInTable (s := publishTable s) h)
  · exact h

theorem execTableOperationEnd_opsInTable (h : s.arbiter.opsInTable) (he : execTableOperationEnd s = .next t) :
    t.arbiter.opsInTable := by
  cases he
  split
  · split
    · exact endOperation_opsInTable _ _ h
    · exact h
  · exact h

theorem exec_opsInTable {i : Instr} (hp : s.store.profile.sound) (h : s.arbiter.opsInTable) (he : exec i s = .next t) :
    t.arbiter.opsInTable := by
  cases hr : Instr.reach i with
  | some c =>
    obtain ⟨u, hu, hreach⟩ := exec_within hr s
    rw [hu] at he
    cases he
    exact hreach.opsInTable hp h
  | none =>
    cases i <;> try contradiction
    case resetnRelease =>
      cases he
      exact ⟨fun _ h => (by cases h), fun c _ h => (by cases c <;> cases h)⟩
    case attach => exact execAttach_opsInTable _ _ hp h he
    case resetPort => exact execResetPort_opsInTable _ _ _ hp h he
    case setArbitration => exact execSetArbitration_opsInTable _ _ _ _ _ _ _ _ hp h he
    case selectProfile => exact execSelectProfile_opsInTable _ _ _ hp h he
    case saveProfile => exact execSaveProfile_opsInTable _ _ _ hp h he
    case setParameter => exact execSetParameter_opsInTable _ _ _ _ _ hp h he
    case responseRead => exact execResponseRead_opsInTable _ _ h he
    case profileLoadComplete => exact execProfileLoadComplete_opsInTable _ _ h he
    case profileSaveComplete => exact execProfileSaveComplete_opsInTable _ h he
    case holdTimerExpiry => exact execHoldTimerExpiry_opsInTable _ h he
    case commit => exact execCommit_opsInTable h he
    case groupEndPublish => exact execGroupEndPublish_opsInTable h he
    case blockReadAssembly =>
      cases he
      exact completeAssembly_opsInTable h
    case tableOperationEnd => exact execTableOperationEnd_opsInTable h he

theorem idleStep_opsInTable (h : s.arbiter.opsInTable) : (idleStep s).arbiter.opsInTable := by
  unfold idleStep
  split
  · exact h
  · unfold tick assemble
    split
    · exact proceed_opsInTable (n := Config.indicesVisited s.draws % 193) h
    · exact h

theorem step_opsInTable (hp : s.store.profile.sound) (h : s.arbiter.opsInTable) (he : step s = .next t) : t.arbiter.opsInTable := by
  obtain ⟨i, rest, -, hi⟩ | ⟨-, rfl⟩ := step_cases he
  · exact exec_opsInTable (s := { s with pending := rest }) hp h hi
  · exact idleStep_opsInTable h

end Sys2Proof.Machine
end

section
/-! SUPPORT. A slot is PENDING exactly while one operation is in hand for its port, at every step (R157, R186). -/

namespace Sys2Proof.Machine

variable {c : Scope} {s t : State}

/-! ### What settles operations, and a request that is being served -/

/-- Every port's operations stay in hand, or one comes to its end with its answer. -/
def State.settles (s t : State) : Prop := ∀ q, s.settlesAt t q

theorem State.settles.slotsSound (h : s.settles t) (hs : s.slotsSound) : t.slotsSound :=
  (State.slotsSound_iff t).mpr fun q => (h q).slotSound ((State.slotsSound_iff s).mp hs q)

theorem Moves.slotsSound (h : Moves c s t) (hs : s.slotsSound) : t.slotsSound :=
  (State.slotsSound_iff t).mpr fun q => h.slotSound ((State.slotsSound_iff s).mp hs q)

/-- A port's request is being served: its slot is PENDING with nothing in hand, and the other ports' slots are sound. -/
def State.serving (s : State) (p : Port) (i : Instr) : Prop :=
  (∀ q, q ≠ p → s.slotSound q) ∧ s.inHand p = 0 ∧ (s.port p).slot = .pending i

variable {p : Port} {i : Instr}

theorem State.slotsSound.serving (hs : s.slotsSound) (h : (s.port p).slot = .empty) : (s.setSlot p (.pending i)).serving p i := by
  have hq := (State.slotsSound_iff s).mp hs
  refine ⟨fun q hne => ?_, (State.slotSound_empty h).mp (hq p), by simp [State.setSlot]⟩
  exact (State.slotSound_congr (s := s) (t := s.setSlot p (.pending i)) rfl (by simp [State.setSlot, hne])).mpr (hq q)

theorem State.serving.moves (h : s.serving p i) (hm : Moves c s t) : t.serving p i := by
  obtain ⟨hq, h0, hp⟩ := h
  obtain ⟨h0', hs, -⟩ := hm.idle h0
  exact ⟨fun q hne => hm.slotSound (hq q hne), h0', hs.trans hp⟩

theorem State.serving.settles (h : s.serving p i) (hm : s.settles t) : t.serving p i := by
  obtain ⟨hq, h0, hp⟩ := h
  obtain ⟨h0', hs, -⟩ := (hm p).idle h0
  exact ⟨fun q hne => (hm q).slotSound (hq q hne), h0', hs.trans hp⟩

theorem State.slotSound_answer_of_ne {p q : Port} {tag : Byte} {a : Answer} (h : q ≠ p) : (answer p tag a s).slotSound q ↔ s.slotSound q :=
  State.slotSound_congr (t := answer p tag a s) rfl (by simp [answer, State.setSlot, h])

/-- A request that is answered leaves its slot READY with nothing in hand (R186). -/
theorem State.serving.answer (h : s.serving p i) (tag : Byte) (a : Answer) : (answer p tag a s).slotsSound := by
  obtain ⟨hq, h0, -⟩ := h
  refine (State.slotsSound_iff _).mpr fun q => ?_
  by_cases hne : q = p
  · subst hne
    exact (State.slotSound_ready (answer_slot s q tag a)).mpr h0
  · exact (State.slotSound_answer_of_ne hne).mpr (hq q hne)

theorem State.serving.answerPending (h : s.serving p i) (a : Answer) : (answerPending p a s).slotsSound := by
  obtain ⟨-, -, hp⟩ := id h
  unfold Machine.answerPending
  rw [hp]
  exact h.answer _ a

theorem State.serving.setCursor (h : s.serving p i) (x : Option Cursor) : (s.setCursor p x).serving p i := by
  obtain ⟨hq, h0, hp⟩ := h
  exact ⟨fun q hne => (State.slotSound_congr (s := s) (t := s.setCursor p x) rfl (by simp [State.setCursor, hne])).mpr (hq q hne), h0,
    by simp [State.setCursor, hp]⟩

/-- A request that asks for the grant leaves its slot PENDING with its operation in hand (R157). -/
theorem State.serving.askGrant (h : s.serving p i) (op : TableOp) : (askGrant (Port.client p) op s).slotsSound := by
  obtain ⟨hq, h0, hp⟩ := h
  refine (State.slotsSound_iff _).mpr fun q => ?_
  by_cases hne : q = p
  · subst hne
    obtain ⟨h1, hs⟩ := askGrant_own (op := op) h0
    exact (State.slotSound_pending (hs.trans hp)).mpr h1
  · exact (askGrant_settles fun e => hne (Port.client_injective.mp e).symm).slotSound (hq q hne)

theorem dropRequest_slotsSound (h : s.slotsSound) : (dropRequest p s).slotsSound := by
  refine (State.slotsSound_iff _).mpr fun q => ?_
  refine (State.slotSound_congr (s := s) (t := dropRequest p s) rfl ?_).mpr ((State.slotsSound_iff s).mp h q)
  rw [dropRequest, State.port_setPort_eq]
  split
  · subst q
    rfl
  · rfl

theorem request_slotsSound {a : Access} {body : State → State} (h : s.slotsSound)
    (hb : ∀ u : State, p ∈ a.senders → u.serving p i → (body u).slotsSound) : (request i p a body s).slotsSound := by
  obtain ⟨-, e⟩ | ⟨hs, st, e⟩ | ⟨hs, hr, e⟩ := request_cases i p a body s <;> rw [e]
  · exact dropRequest_slotsSound h
  · exact (h.serving hs).answer _ _
  · exact hb _ (State.sender_of_commonRefusal hr) (h.serving hs)

theorem Reaches.slotsSound (hr : Reaches c s t) (h : s.slotsSound) : t.slotsSound := by
  obtain hm | ⟨p, ⟨-, rfl⟩ | ⟨hs, i, ⟨tag, a, u, hm, rfl⟩ | ⟨op, u, x, hm, -, -, rfl⟩⟩⟩ := hr
  · exact hm.slotsSound h
  · exact dropRequest_slotsSound h
  · exact ((h.serving hs).moves hm).answer _ _
  · exact (((h.serving hs).moves hm).setCursor x).askGrant op

/-! ### What settles -/

theorem State.settles_of_parts (ha : t.arbiter = s.arbiter) (hs : t.store.state = s.store.state) (he : t.engine = s.engine)
    (hp : t.ports = s.ports) : s.settles t := by
  intro q
  refine .inl ⟨?_, by simp only [State.port, hp], by simp only [State.port, hp]⟩
  rw [State.inHand_eq, State.inHand_eq, State.apart_congr hs (by rw [he])]
  simp only [State.atTable, ha]

theorem State.settles_of_arbiter {a : Arbiter} (hh : a.holder.map Prod.fst = s.arbiter.holder.map Prod.fst)
    (hw : a.waiting = s.arbiter.waiting) : s.settles (s.setArbiter a) := by
  intro q
  refine .inl ⟨?_, rfl, rfl⟩
  have any : ∀ o : Option (Client × TableOp), (o.any fun h => h.1 == Port.client q) = (o.map Prod.fst).any (· == Port.client q) :=
    fun o => by cases o <;> rfl
  rw [State.inHand_eq, State.inHand_eq, setArbiter_apart]
  simp only [State.atTable, State.setArbiter_arbiter, hw, any, hh]

theorem assembling_settles {p : Port} {op : TableOp} {a b : Assembly} {cut : Bool} (h : s.assembling = some (p, op, a)) :
    s.settles (finishBlockRead p b cut s) := fun q => finishBlockRead_settles (State.assembling_eq_some.mp h).1 q

theorem expireHold_settles (s : State) : s.settles (expireHold s) := by
  unfold expireHold
  split
  · split
    · exact State.settles_of_arbiter rfl rfl
    · exact assembling_settles ‹_›
  · exact State.settles_of_arbiter rfl rfl

theorem completeAssembly_settles (s : State) : s.settles (completeAssembly s) := by
  unfold completeAssembly
  split
  · exact assembling_settles ‹_›
  · exact State.settles_of_parts rfl rfl rfl rfl

theorem proceed_settles (n : Nat) (s : State) : s.settles (proceed n s) := by
  unfold proceed
  split
  · rename_i p op a ha
    obtain ⟨hh, -⟩ := State.assembling_eq_some.mp ha
    exact State.settles_of_arbiter (by simp [hh]) rfl
  · exact State.settles_of_parts rfl rfl rfl rfl

theorem reexamineHold_settles (s : State) : s.settles (reexamineHold s) := by
  have start : s.settles (startHold s) := by
    unfold startHold
    split
    · exact expireHold_settles s
    · exact State.settles_of_arbiter rfl rfl
  have same : s.settles s := State.settles_of_parts rfl rfl rfl rfl
  have stop : s.settles (s.setArbiter { s.arbiter with hold := .stopped }) := State.settles_of_arbiter rfl rfl
  unfold reexamineHold
  dsimp only
  split <;> split
  · exact start
  · exact same
  · exact same
  · exact stop
  · exact same
  · exact stop

/-- A release by the engine leaves every port's operations. -/
theorem engine_release_settles {op : TableOp} (h : s.arbiter.holder = some (.engine, op)) : s.settles (release s) :=
  fun q => release_settles h (Port.engine_ne_client q)

/-- A release by a port leaves that port with a PENDING slot and nothing in hand. -/
theorem release_serving {op : TableOp} (hs : s.slotsSound) (h : s.arbiter.holder = some (Port.client p, op)) :
    ∃ i, (release s).serving p i := by
  have hq := (State.slotsSound_iff s).mp hs
  have own := release_atTable s p
  have hpos : 0 < s.inHand p := by
    rw [State.inHand_eq]
    simp [State.atTable, h]
  obtain ⟨h1, i, hi⟩ := (hq p).pending_of_pos hpos
  refine ⟨i, fun q hne => ?_, ?_, by rw [release_port]; exact hi⟩
  · exact (release_settles h fun e => hne (Port.client_injective.mp e).symm).slotSound (hq q)
  · rw [State.inHand_eq] at h1 ⊢
    rw [State.apart_of_aside (release_aside s)]
    simp [h] at own
    omega

/-! ### RESET PORT (R194, R195) -/

/-- The first half of a read's withdrawal: a port's request that waits for the grant is withdrawn (R160). -/
def withdrawWaiting (q : Port) (s : State) : State :=
  if (s.arbiter.waiting.get (Port.client q)).isSome = true then withdrawAsk (Port.client q) s else s

theorem withdrawRead_eq (q : Port) (s : State) : withdrawRead q s =
    if (withdrawWaiting q s).arbiter.holder.any (fun h => h.1 == Port.client q) = true then release (withdrawWaiting q s)
    else withdrawWaiting q s := by
  unfold withdrawRead
  change (match (withdrawWaiting q s).arbiter.holder with
    | some (c, _) => if c = Port.client q then release (withdrawWaiting q s) else withdrawWaiting q s
    | none => withdrawWaiting q s) = _
  split <;> simp [*]

@[simp] theorem withdrawWaiting_aside (q : Port) (s : State) : (withdrawWaiting q s).aside = s.aside := by
  unfold withdrawWaiting
  split <;> simp

@[simp] theorem withdrawRead_aside (q : Port) (s : State) : (withdrawRead q s).aside = s.aside := by
  rw [withdrawRead_eq]
  split <;> simp

theorem dropReply_apart_of_ne {q r : Port} (h : r ≠ q) (s : State) : (dropReply q s).apart r = s.apart r := by
  simp only [State.apart, dropReply, State.setEngine_engine, State.setEngine_store, Engine.repliesBut, List.filter_filter]
  congr 3
  funext x
  by_cases hx : x.port = r
  · simp [hx, h]
  · simp [hx]

theorem dropReply_settlesAt {q r : Port} (h : r ≠ q) (s : State) : s.settlesAt (dropReply q s) r := by
  refine .inl ⟨?_, rfl, rfl⟩
  rw [State.inHand_eq, State.inHand_eq, dropReply_apart_of_ne h]
  rfl

/-- A port other than Port W has nothing in hand beside the arbiter once its waiting resets are forgotten. -/
theorem dropReply_apart_self {q : Port} (h : q ≠ .workstation) (s : State) : (dropReply q s).apart q = 0 := by
  have hb : (q == Port.workstation) = false := beq_eq_false_iff_ne.mpr h
  simp [State.apart, dropReply, Engine.repliesBut, hb]

theorem withdrawWaiting_settlesAt {q r : Port} (h : r ≠ q) (s : State) : s.settlesAt (withdrawWaiting q s) r := by
  unfold withdrawWaiting
  split
  · exact withdrawAsk_settles fun e => h (Port.client_injective.mp e).symm
  · exact .inl ⟨rfl, rfl, rfl⟩

/-- The withdrawal of one port's read leaves the operations of the others. -/
theorem withdrawRead_settlesAt {q r : Port} (h : r ≠ q) (s : State) :
    ∃ u, s.settlesAt u r ∧ u.settlesAt (withdrawRead q s) r := by
  refine ⟨withdrawWaiting q s, withdrawWaiting_settlesAt h s, ?_⟩
  rw [withdrawRead_eq]
  split
  · rename_i hh
    cases hx : (withdrawWaiting q s).arbiter.holder with
    | none => simp [hx] at hh
    | some x =>
      have hc : x.1 = Port.client q := by simpa [hx] using hh
      exact release_settles (op := x.2) (c := Port.client q) (by rw [hx, ← hc]) fun e => h (Port.client_injective.mp e).symm
  · exact .inl ⟨rfl, rfl, rfl⟩

theorem withdrawWaiting_waiting (q : Port) (s : State) : (withdrawWaiting q s).arbiter.waiting.get (Port.client q) = none := by
  unfold withdrawWaiting
  split
  · obtain ⟨x, -, e⟩ := withdrawAsk_arbiter (Port.client q) s
    rw [e]
    simp [PerClient.get_set]
  · simpa using ‹¬(s.arbiter.waiting.get (Port.client q)).isSome = true›

/-- Nothing of the reset port is left at the arbiter (R160). -/
theorem withdrawRead_atTable (q : Port) (s : State) : (withdrawRead q s).atTable q = 0 := by
  have hw := withdrawWaiting_waiting q s
  have hr := release_atTable (withdrawWaiting q s) q
  rw [withdrawRead_eq]
  split
  · rename_i hh
    simp only [State.atTable, hw, hh] at hr
    simpa [State.atTable] using hr
  · rename_i hh
    simp [State.atTable, hw, hh]

theorem setPort_settlesAt_of_ne {q r : Port} (h : r ≠ q) (x : LinkPort) (s : State) : s.settlesAt (s.setPort q x) r :=
  .inl ⟨rfl, by rw [State.port_setPort_of_ne _ _ h], by rw [State.port_setPort_of_ne _ _ h]⟩

/-- RESET PORT of a port up to its own record: what waits for another port is withdrawn, and the record is as at power-on (R195). -/
def State.resetBase (s : State) (p q : Port) : State :=
  (if q = p then s else withdrawRead q (dropReply q s)).setPort q
    (LinkPort.resetBy (State.port (if q = p then s else withdrawRead q (dropReply q s)) q) (q == p))

theorem resetBase_serving {q : Port} (h : s.serving p i) (hq : q = p ∨ q ≠ .workstation) : (s.resetBase p q).serving p i := by
  unfold State.resetBase
  obtain ⟨hr, h0, hp⟩ := h
  by_cases hqp : q = p
  · subst hqp
    simp only [if_true]
    refine ⟨fun r hne => (setPort_settlesAt_of_ne hne _ s).slotSound (hr r hne), h0, ?_⟩
    simp [LinkPort.resetBy, hp]
  · simp only [if_neg hqp]
    have keep : ∀ r, r ≠ q → ∀ P : State → Prop, (∀ u v, u.settlesAt v r → P u → P v) → P s →
        P ((withdrawRead q (dropReply q s)).setPort q (LinkPort.resetBy ((withdrawRead q (dropReply q s)).port q) (q == p))) := by
      intro r hne P step hs
      obtain ⟨u, h1, h2⟩ := withdrawRead_settlesAt hne (dropReply q s)
      exact step _ _ (setPort_settlesAt_of_ne hne _ _) (step _ _ h2 (step _ _ h1 (step _ _ (dropReply_settlesAt hne s) hs)))
    refine ⟨fun r hne => ?_, ?_, ?_⟩
    · by_cases hrq : r = q
      · subst hrq
        refine (State.slotSound_empty (by simp [LinkPort.resetBy, hqp])).mpr ?_
        rw [State.inHand_eq]
        have ht := withdrawRead_atTable r (dropReply r s)
        have ha := dropReply_apart_self (hq.resolve_left hqp) s
        have hw : (withdrawRead r (dropReply r s)).apart r = (dropReply r s).apart r :=
          State.apart_of_aside (withdrawRead_aside r _) r
        exact Nat.add_eq_zero_iff.mpr ⟨ht, hw.trans ha⟩
      · exact keep r hrq (fun u => u.slotSound r) (fun u v h => h.slotSound) (hr r hne)
    · exact keep p (Ne.symm hqp) (fun u => u.inHand p = 0) (fun u v h hu => (h.idle hu).1) h0
    · exact (keep p (Ne.symm hqp) (fun u => u.inHand p = 0 ∧ (u.port p).slot = .pending i)
        (fun u v h hu => ⟨(h.idle hu.1).1, (h.idle hu.1).2.1.trans hu.2⟩) ⟨h0, hp⟩).2

theorem resetStanding_of_base (p q : Port) (s : State) : resetStanding p q s
    = if q = .positioner then dropHome (clearWorkOf q (s.resetBase p q)) else clearWorkOf q (s.resetBase p q) := rfl

/-- A reset of another port empties its slot, with nothing of it left in hand, and goes on being served. -/
theorem resetStanding_serving {q : Port} (h : s.serving p i) (hq : q = p ∨ q ≠ .workstation) : (resetStanding p q s).serving p i := by
  have work := (resetBase_serving h hq).moves (clearWorkOf_moves (c := .working) rfl q _)
  rw [resetStanding_of_base]
  split
  · exact work.moves (dropHome_moves (c := .working) _)
  · exact work

/-- A reset joins those that wait for the commit, in the place of an earlier one of its port (R194). -/
def addReply (p : Port) (x : ResetReply) (s : State) : State :=
  s.setEngine { s.engine with clearPending := true, resetReplies := s.engine.repliesBut p ++ [x] }

theorem addReply_apart_of_ne {r : Port} {x : ResetReply} (hx : x.port = p) (hr : r ≠ p) (s : State) :
    (addReply p x s).apart r = s.apart r := by
  have hne : (p == r) = false := beq_eq_false_iff_ne.mpr (Ne.symm hr)
  have but := dropReply_apart_of_ne hr s
  simp only [State.apart, dropReply, addReply, State.setEngine_engine, State.setEngine_store, List.filter_append,
    List.filter_cons, hx, hne] at but ⊢
  simpa using but

theorem addReply_apart_self {x : ResetReply} (hx : x.port = p) (h : s.apart p = 0) : (addReply p x s).apart p = 1 := by
  unfold State.apart at h ⊢
  obtain ⟨h1, -⟩ := Nat.add_eq_zero_iff.mp h
  have hs : (addReply p x s).store = s.store := rfl
  rw [hs, h1]
  simp [addReply, Engine.repliesBut, hx]

/-- A reset that waits for the commit keeps its slot PENDING, with itself in hand (R11, R194). -/
theorem State.serving.waits (h : s.serving p i) {x : ResetReply} (hx : x.port = p) : (addReply p x s).slotsSound := by
  obtain ⟨hq, h0, hp⟩ := h
  refine (State.slotsSound_iff _).mpr fun r => ?_
  have hat : (addReply p x s).atTable r = s.atTable r := rfl
  by_cases hr : r = p
  · subst hr
    refine (State.slotSound_pending (s := addReply r x s) hp).mpr ?_
    rw [State.inHand_eq] at h0
    obtain ⟨h1, h2⟩ := Nat.add_eq_zero_iff.mp h0
    rw [State.inHand_eq, hat, h1, addReply_apart_self hx h2]
  · refine (State.slotSound_congr (s := s) (t := addReply p x s) ?_ rfl).mpr (hq r hr)
    rw [State.inHand_eq, State.inHand_eq, hat, addReply_apart_of_ne hx hr]

theorem resetPort_slotsSound {q : Port} (tag : Byte) (h : s.serving p i) (hq : q = p ∨ q ≠ .workstation) :
    (resetPort p q tag s).slotsSound := by
  have base : (resetStanding p q (withdrawAskIn (s.resetCase q) s)).serving p i :=
    resetStanding_serving (h.moves (withdrawAskIn_moves (c := .working) _ s)) hq
  unfold resetPort
  dsimp only
  split
  · exact (base.moves (endJob_moves (c := .working) rfl (Scope.reports_of_lists (fun _ => rfl) _ _))).answer _ _
  · exact (base.moves (withdrawCommit_moves (c := .working) rfl _)).answer _ _
  · exact base.waits (x := ⟨p, q, _, _⟩) rfl
  · exact (base.moves (advance_moves (c := .working) rfl _)).answer _ _

end Sys2Proof.Machine
end

section
/-! SUPPORT. The slots at the ends of operations: of a load and of a save, of a commit that resets wait for, and of a port's operation
under the grant (R157, R186, R194, R201, R202). -/

namespace Sys2Proof.Machine

variable {c : Scope} {s t : State} {p : Port} {i : Instr}

/-! ### The Profile Store -/

/-- A load that SELECT PROFILE asked for, or a save, is in hand for Port W (R201, R202). -/
def StoreState.engaged : StoreState → Bool
  | .loading (some _) => true
  | .saving _ => true
  | .loading none => false
  | .ready => false
  | .noProfile => false

theorem State.apart_eq (s : State) (q : Port) : s.apart q =
    (q == .workstation && s.store.state.engaged).toNat + (s.engine.resetReplies.filter fun x => x.port == q).length := by
  unfold State.apart
  cases s.store.state with
  | loading x => cases x <;> rfl
  | ready => rfl
  | noProfile => rfl
  | saving => rfl

theorem setStore_settlesAt_of_ne {q : Port} (h : q ≠ .workstation) (s : State) (st : ProfileStore) : s.settlesAt (s.setStore st) q := by
  refine .inl ⟨?_, rfl, rfl⟩
  have hb : (q == Port.workstation) = false := beq_eq_false_iff_ne.mpr h
  rw [State.inHand_eq, State.inHand_eq, State.apart_eq, State.apart_eq, hb]
  rfl

theorem setStore_settles {st : ProfileStore} (h : st.state.engaged = s.store.state.engaged) : s.settles (s.setStore st) := by
  intro q
  refine .inl ⟨?_, rfl, rfl⟩
  rw [State.inHand_eq, State.inHand_eq, State.apart_eq, State.apart_eq, State.setStore_store, h]
  rfl

theorem setStore_inHand_add (s : State) (st : ProfileStore) :
    (s.setStore st).inHand .workstation + s.store.state.engaged.toNat = s.inHand .workstation + st.state.engaged.toNat := by
  have hat : (s.setStore st).atTable .workstation = s.atTable .workstation := rfl
  rw [State.inHand_eq, State.inHand_eq, State.apart_eq, State.apart_eq, hat]
  simp only [beq_self_eq_true, Bool.true_and, State.setStore_store, State.setStore_engine]
  omega

/-- SELECT PROFILE and SAVE PROFILE leave Port W's slot PENDING with the load or the save in hand (R201, R202). -/
theorem State.serving.engage {st : ProfileStore} (h : s.serving .workstation i) (hs : s.store.state.engaged = false)
    (ht : st.state.engaged = true) : (s.setStore st).slotsSound := by
  obtain ⟨hq, h0, hp⟩ := h
  refine (State.slotsSound_iff _).mpr fun q => ?_
  by_cases hne : q = .workstation
  · subst hne
    refine (State.slotSound_pending (s := s.setStore st) hp).mpr ?_
    have := setStore_inHand_add s st
    rw [hs, ht] at this
    simp at this
    omega
  · exact (setStore_settlesAt_of_ne hne s st).slotSound (hq q hne)

/-- The end of a load or of a save leaves Port W's slot PENDING with nothing in hand, to be answered. -/
theorem State.slotsSound.disengage {st : ProfileStore} (h : s.slotsSound) (hs : s.store.state.engaged = true)
    (ht : st.state.engaged = false) : ∃ i, (s.setStore st).serving .workstation i := by
  have hq := (State.slotsSound_iff s).mp h
  have sum := setStore_inHand_add s st
  rw [hs, ht] at sum
  simp at sum
  obtain ⟨h1, i, hi⟩ := (hq .workstation).pending_of_pos (by omega)
  exact ⟨i, fun q hne => (setStore_settlesAt_of_ne hne s st).slotSound (hq q), by omega, hi⟩

theorem State.engaged_of_not_busy (h : ¬ s.storeBusy = true) : s.store.state.engaged = false := by
  unfold State.storeBusy at h
  cases hs : s.store.state with
  | loading x => simp [hs] at h
  | ready => rfl
  | noProfile => rfl
  | saving => simp [hs] at h

theorem execSelectProfile_slotsSound (p : Port) (tag slot : Byte) (h : s.slotsSound) (he : execSelectProfile p tag slot s = .next t) :
    t.slotsSound := by
  cases he
  refine request_slotsSound h fun u hp hu => ?_
  obtain rfl : p = .workstation := by simpa [storeAccess] using hp
  split
  · exact hu.answer _ _
  · split
    · exact hu.answer _ _
    · exact hu.engage (State.engaged_of_not_busy ‹_›) rfl

theorem execSaveProfile_slotsSound (p : Port) (tag slot : Byte) (h : s.slotsSound) (he : execSaveProfile p tag slot s = .next t) :
    t.slotsSound := by
  cases he
  refine request_slotsSound h fun u hp hu => ?_
  obtain rfl : p = .workstation := by simpa [storeAccess] using hp
  split
  · exact hu.answer _ _
  · split
    · exact hu.answer _ _
    · split
      · exact hu.answer _ _
      · exact hu.engage (State.engaged_of_not_busy ‹_›) rfl

/-- A property that the small changes and the marks of the store keep holds after the effects of a load if it holds where the new
store state comes into force. -/
theorem completeLoad_induction {P : State → Prop} (hm : ∀ u v, Moves .store u v → P u → P v)
    (hs : ∀ u w x, P u → P (u.setStore { u.store with owedW := w, owedP := x })) (slot : Nat) (loaded : Option Profile)
    (h0 : ∀ st : ProfileStore, st.state.engaged = false → P ((loadEffects s).setStore st)) : P (completeLoad slot loaded s) := by
  have owe : ∀ q u, P u → P (postOrOwe q slot u) := fun q u hu => by
    obtain ⟨v, w, x, hv, e⟩ := postOrOwe_moves (c := .store) rfl q slot u
    rw [e]
    exact hs _ _ _ (hm _ _ hv hu)
  unfold completeLoad
  split
  · exact hm _ _ (Moves.after (advance_moves rfl _) (goodLoad_moves rfl (fun _ => rfl) rfl rfl rfl slot _ _)) (h0 _ rfl)
  · exact owe _ _ (owe _ _ (hm _ _ (stopForNoProfile_moves rfl rfl _) (h0 _ rfl)))

/-- At power-on no request waits for the load. -/
theorem completeLoad_slotsSound (slot : Nat) (loaded : Option Profile) (h : s.slotsSound) (hs : s.store.state.engaged = false) :
    (completeLoad slot loaded s).slotsSound := by
  have effects := loadEffects_moves (c := .store) rfl rfl s
  refine completeLoad_induction (fun _ _ hm => hm.slotsSound) (fun u w x hu => ?_) slot loaded fun st ht => ?_
  · exact (setStore_settles (st := { u.store with owedW := w, owedP := x }) rfl).slotsSound hu
  · exact (setStore_settles (by rw [ht, effects.store, hs])).slotsSound (effects.slotsSound h)

/-- SELECT PROFILE waits for the load with its slot PENDING, and nothing else is in hand for Port W (R201). -/
theorem completeLoad_serving (slot : Nat) (loaded : Option Profile) (h : s.slotsSound) (hs : s.store.state.engaged = true) :
    ∃ i, (completeLoad slot loaded s).serving .workstation i := by
  have effects := loadEffects_moves (c := .store) rfl rfl s
  refine completeLoad_induction (P := fun u => ∃ i, u.serving .workstation i) (fun _ _ hm ⟨i, hi⟩ => ⟨i, hi.moves hm⟩)
    (fun u w x ⟨i, hi⟩ => ⟨i, ?_⟩) slot loaded fun st ht => ?_
  · exact hi.settles (setStore_settles (st := { u.store with owedW := w, owedP := x }) rfl)
  · exact (effects.slotsSound h).disengage (by rw [effects.store, hs]) ht

theorem mapEntries_settles (f : Nat → Entry → Entry) (s : State) : s.settles (mapEntries f s) :=
  State.settles_of_parts rfl rfl rfl rfl

theorem setEntry_settles (h z : Nat) (e : Entry) (s : State) : s.settles (setEntry h z e s) := State.settles_of_parts rfl rfl rfl rfl

theorem publishTable_settles (s : State) : s.settles (publishTable s) := State.settles_of_parts rfl rfl rfl rfl

theorem execProfileLoadComplete_slotsSound (b : Option Byte) (image : Option (List Byte)) (h : s.slotsSound)
    (he : execProfileLoadComplete b image s = .next t) : t.slotsSound := by
  cases he
  split
  · rename_i selected hs
    dsimp only
    split
    · exact (mapEntries_settles _ _).slotsSound (completeLoad_slotsSound _ _ h (by rw [hs]; rfl))
    · obtain ⟨i, hi⟩ := completeLoad_serving (loadSlot (some _) b) (loadedProfile image) h (by rw [hs]; rfl)
      exact hi.askGrant (p := .workstation) _
  · exact h
  · exact h
  · exact h

theorem execProfileSaveComplete_slotsSound (x : Option (List Byte)) (h : s.slotsSound)
    (he : execProfileSaveComplete x s = .next t) : t.slotsSound := by
  cases he
  split
  · rename_i slot hs
    obtain ⟨i, hi⟩ := h.disengage (st := { s.store with state := .ready }) (by rw [hs]; rfl) rfl
    have saved := hi.moves (advance_moves (c := .store) rfl _)
    dsimp only
    split
    · exact saved.answerPending _
    · exact (saved.moves (postFault_moves (c := .store) rfl _ _)).answerPending _
  · exact h
  · exact h
  · exact h

theorem execSetParameter_slotsSound (p : Port) (tag number index : Byte) (value : ValueWord) (h : s.slotsSound)
    (he : execSetParameter p tag number index value s = .next t) : t.slotsSound := by
  cases he
  refine request_slotsSound h fun u _ hu => ?_
  split
  · exact hu.answer _ _
  · rename_i n j _
    split
    · exact hu.answer _ _
    · split
      · exact hu.answer _ _
      · have changed := (hu.settles (setStore_settles (st := { u.store with profile := u.store.profile.setParam n j value.toInt })
          rfl)).moves (paramEffects_moves (c := .store) rfl (fun _ => rfl) rfl rfl rfl n _)
        unfold setParameter
        dsimp only
        split
        · exact changed.askGrant _
        · exact changed.answer _ _

/-! ### The other requests told one by one -/

theorem execAttach_slotsSound (p : Port) (tag : Byte) (h : s.slotsSound) (he : execAttach p tag s = .next t) : t.slotsSound := by
  cases he
  refine request_slotsSound h fun u _ hu => ?_
  split
  · exact hu.answer _ _
  · obtain ⟨v, w, x, hm, e⟩ := postOwed_moves (c := .clearing) rfl p (setAttached p true u)
    have ho : (postOwed p (setAttached p true u)).serving p (.attach p tag) := by
      rw [e]
      exact ((hu.moves (setAttached_moves (c := .clearing) rfl rfl true u)).moves hm).settles
        (setStore_settles (st := { v.store with owedW := w, owedP := x }) rfl)
    exact (ho.moves (Moves.after (advance_moves (c := .clearing) rfl _) (pulseIfEligible_moves p _))).answer _ _

/-- A port that may reset another is Port W, so Port W is reset by itself alone (R194). -/
theorem reset_target_of_sender {p q : Port} (h : ¬(p ≠ .workstation ∧ q ≠ p)) : q = p ∨ q ≠ .workstation := by
  by_contra hc
  push Not at hc
  obtain ⟨h1, h2⟩ := hc
  exact h ⟨fun e => h1 (h2.trans e.symm), h1⟩

theorem execResetPort_slotsSound (p : Port) (tag target : Byte) (h : s.slotsSound) (he : execResetPort p tag target s = .next t) :
    t.slotsSound := by
  cases he
  refine request_slotsSound h fun u _ hu => ?_
  split
  · exact hu.answer _ _
  · split
    · exact hu.answer _ _
    · exact resetPort_slotsSound tag hu (reset_target_of_sender ‹_›)

theorem execSetArbitration_slotsSound (q : Port) (tag e w d p preemption holdTime : Byte) (h : s.slotsSound)
    (he : execSetArbitration q tag e w d p preemption holdTime s = .next t) : t.slotsSound := by
  cases he
  refine request_slotsSound h fun u _ hu => ?_
  split
  · rename_i x on _ _
    refine State.serving.answer (hu.settles ?_ |>.settles (reexamineHold_settles _)) _ _
    exact State.settles_of_arbiter rfl rfl
  · exact hu.answer _ _

theorem execResponseRead_slotsSound (p : Port) (clocked : Nat) (h : s.slotsSound) (he : execResponseRead p clocked s = .next t) :
    t.slotsSound := by
  cases he
  have hq := (State.slotsSound_iff s).mp h
  split
  · rename_i r hr
    split
    · refine (State.slotsSound_iff _).mpr fun q => ?_
      by_cases hne : q = p
      · subst hne
        exact (State.slotSound_empty (s := finishRead q r s) (by simp [finishRead])).mpr ((State.slotSound_ready hr).mp (hq q))
      · exact (setPort_settlesAt_of_ne hne _ s).slotSound (hq q)
    · exact h
  · exact h
  · exact h

/-! ### The resets that wait for a commit (R194) -/

theorem forgetDrops_slot (x : ResetReply) (s : State) (q : Port) : ((forgetDrops x s).port q).slot = (s.port q).slot := by
  unfold forgetDrops
  split
  · rw [State.port_setPort_eq]
    split
    · subst q
      rfl
    · rfl
  · rfl

theorem answerAll_slot_of_ready {q : Port} {r : Response} (l : List ResetReply) (h : (s.port q).slot = .ready r) :
    ((answerAll l s).port q).slot = .ready r := by
  induction l generalizing s with
  | nil => exact h
  | cons x l ih =>
    refine ih ?_
    rw [← h, ← forgetDrops_slot x s q]
    by_cases hx : q = x.port
    · subst hx
      rw [answerPending_of_not_pending fun i hi => ?_]
      rw [forgetDrops_slot, h] at hi
      cases hi
    · rw [answerPending_port_of_ne hx]

theorem answerAll_slot_of_not_mem {q : Port} (l : List ResetReply) (h : ∀ x ∈ l, x.port ≠ q) :
    ((answerAll l s).port q).slot = (s.port q).slot := by
  induction l generalizing s with
  | nil => rfl
  | cons x l ih =>
    have hx : q ≠ x.port := Ne.symm (h x (by simp))
    refine (ih (s := answerPending x.port _ (forgetDrops x s)) fun y hy => h y (by simp [hy])).trans ?_
    rw [answerPending_port_of_ne hx, forgetDrops_slot]

theorem answerAll_slot_of_mem {q : Port} (l : List ResetReply) (h : ∃ x ∈ l, x.port = q) (hs : (s.port q).slot = .pending i) :
    ∃ r, ((answerAll l s).port q).slot = .ready r := by
  induction l generalizing s with
  | nil => simp at h
  | cons x l ih =>
    by_cases hx : x.port = q
    · subst hx
      exact ⟨_, answerAll_slot_of_ready l (answerPending_slot ((forgetDrops_slot x s x.port).trans hs))⟩
    · obtain ⟨y, hy, hyq⟩ := h
      have hyl : y ∈ l := (List.mem_cons.mp hy).resolve_left fun e => hx (e ▸ hyq)
      refine ih ⟨y, hyl, hyq⟩ (s := answerPending x.port _ (forgetDrops x s)) ?_
      rw [answerPending_port_of_ne (Ne.symm hx), forgetDrops_slot, hs]

theorem answerAll_inHand (l : List ResetReply) (s : State) (q : Port) : (answerAll l s).inHand q = s.inHand q := by
  obtain ⟨x, e⟩ := answerAll_ports l s
  rw [e]
  rfl

/-- Every reset that waited for the commit is answered, and none is left in hand. -/
theorem answerReset_slotsSound (h : s.slotsSound) : (answerReset s).slotsSound := by
  have hq := (State.slotsSound_iff s).mp h
  refine (State.slotsSound_iff _).mpr fun q => ?_
  have hsum : (answerReset s).inHand q + (s.engine.resetReplies.filter fun x => x.port == q).length = s.inHand q := by
    have hat : (s.setEngine { s.engine with resetReplies := [] }).atTable q = s.atTable q := rfl
    rw [answerReset, answerAll_inHand, State.inHand_eq, State.inHand_eq, State.apart_eq, State.apart_eq, hat]
    simp
    omega
  by_cases hm : ∃ x ∈ s.engine.resetReplies, x.port = q
  · have hpos : 0 < (s.engine.resetReplies.filter fun x => x.port == q).length := by
      obtain ⟨x, hx, hxq⟩ := hm
      exact List.length_pos_of_mem (List.mem_filter.mpr ⟨hx, beq_iff_eq.mpr hxq⟩)
    obtain ⟨h1, i, hi⟩ := (hq q).pending_of_pos (by omega)
    obtain ⟨r, hr⟩ := answerAll_slot_of_mem (s := s.setEngine { s.engine with resetReplies := [] }) _ hm hi
    exact (State.slotSound_ready (s := answerReset s) hr).mpr (by omega)
  · push Not at hm
    have hz : (s.engine.resetReplies.filter fun x => x.port == q) = [] := by
      simpa [List.filter_eq_nil_iff] using hm
    rw [hz] at hsum
    refine (State.slotSound_congr (s := s) (t := answerReset s) (by simpa using hsum) ?_).mpr (hq q)
    exact answerAll_slot_of_not_mem _ hm

theorem commitTable_settles (r : SearchRecord) (part : StagedPart) (s : State) : s.settles (commitTable r part s) := by
  unfold commitTable
  split
  · exact State.settles_of_parts rfl rfl rfl rfl
  · dsimp only
    split <;> exact State.settles_of_parts rfl rfl rfl rfl

theorem commitJob_slotsSound (r : SearchRecord) (o : JobOutcome) (part : StagedPart) (h : s.slotsSound)
    (hh : s.arbiter.holder = some (.engine, .commit)) : (commitJob r o part s).slotsSound := by
  have freed : (release (commitTable r part s)).slotsSound :=
    (engine_release_settles (op := .commit) (by rw [commitTable_arbiter]; exact hh)).slotsSound ((commitTable_settles r part s).slotsSound h)
  have base := (postDrift_moves (c := .store) rfl r.job.work.zone (s.driftFound r.job.work part)
    (s.store.profile.marks (s.driftFound r.job.work part)) _).slotsSound freed
  unfold commitJob endCommit
  dsimp only
  split
  · exact answerReset_slotsSound (((clearActive_moves (c := .store) rfl r _).trans (afterJob_moves rfl _ _ _)).slotsSound base)
  · exact ((((writeRecord_moves (c := .store) rfl _ _).trans (clearActive_moves rfl r _)).trans (accountEnd_moves rfl _ _)).trans
      (afterJob_moves rfl _ _ _)).slotsSound base

theorem Arbiter.engineHolds_iff {a : Arbiter} {op : TableOp} : a.engineHolds op = true ↔ a.holder = some (.engine, op) := by
  simp [Arbiter.engineHolds]

theorem execCommit_slotsSound (h : s.slotsSound) (he : execCommit s = .next t) : t.slotsSound := by
  cases he
  split
  · rename_i hc
    split
    · exact commitJob_slotsSound _ _ _ h (Arbiter.engineHolds_iff.mp hc.2)
    · exact h
  · exact h

theorem execGroupEndPublish_slotsSound (h : s.slotsSound) (he : execGroupEndPublish s = .next t) : t.slotsSound := by
  cases he
  split
  · rename_i hc
    exact (((postWD_moves (c := .store) rfl _ _ _).trans (removePublished_moves rfl _)).trans (leavePublish_moves rfl _)).slotsSound
      ((engine_release_settles (s := publishTable s) (op := .groupPublish) (Arbiter.engineHolds_iff.mp hc.2)).slotsSound
        ((publishTable_settles s).slotsSound h))
  · exact h

/-! ### The end of a port's operation (R159) -/

theorem Client.port_eq_some {a : Client} {p : Port} (h : a.port = some p) : a = Port.client p := by
  cases a <;> cases p <;> simp_all [Client.port, Port.client]

theorem endOperation_slotsSound {op : TableOp} (h : s.slotsSound) (hh : s.arbiter.holder = some (Port.client p, op)) :
    (endOperation p op s).slotsSound := by
  have ends : ∀ u a, s.settles u → u.arbiter = s.arbiter → (answerPending p a (release u)).slotsSound := fun u a hu ha => by
    obtain ⟨i, hi⟩ := release_serving (hu.slotsSound h) (ha ▸ hh)
    exact hi.answerPending a
  unfold endOperation
  split
  · obtain ⟨i, hi⟩ := release_serving (s := publishTable s) ((publishTable_settles s).slotsSound h) hh
    exact (hi.moves (postWD_moves (c := .store) rfl _ _ _)).answerPending _
  · exact ends _ _ (setEntry_settles _ _ _ s) rfl
  · exact ends _ _ (mapEntries_settles _ s) rfl
  · exact ends _ _ (setEntry_settles _ _ _ s) rfl
  · exact ends _ _ (setEntry_settles _ _ _ s) rfl
  · unfold endClearEntry
    split
    · exact ends _ _ (mapEntries_settles _ s) rfl
    · exact ends s _ (State.settles_of_parts rfl rfl rfl rfl) rfl
  · exact ends _ _ (mapEntries_settles _ s) rfl
  · exact ends _ _ (mapEntries_settles _ s) rfl
  · exact ends s _ (State.settles_of_parts rfl rfl rfl rfl) rfl
  · exact h
  · exact h
  · exact h
  · exact h
  · exact h

theorem execTableOperationEnd_slotsSound (h : s.slotsSound) (he : execTableOperationEnd s = .next t) : t.slotsSound := by
  cases he
  split
  · rename_i a op hh
    split
    · rename_i p hp
      exact endOperation_slotsSound h (Client.port_eq_some hp ▸ hh)
    · exact h
  · exact h

theorem execHoldTimerExpiry_slotsSound (n : Nat) (h : s.slotsSound) (he : execHoldTimerExpiry n s = .next t) : t.slotsSound := by
  cases he
  split
  · exact (expireHold_settles _).slotsSound ((proceed_settles n s).slotsSound h)
  · exact h
  · exact h

/-! ### Every step -/

theorem exec_slotsSound (h : s.slotsSound) (he : exec i s = .next t) : t.slotsSound := by
  cases hr : Instr.reach i with
  | some c =>
    obtain ⟨u, hu, hreach⟩ := exec_within hr s
    rw [hu] at he
    cases he
    exact hreach.slotsSound h
  | none =>
    cases i <;> try contradiction
    case resetnRelease =>
      cases he
      exact fun p => by cases p <;> rfl
    case attach => exact execAttach_slotsSound _ _ h he
    case resetPort => exact execResetPort_slotsSound _ _ _ h he
    case setArbitration => exact execSetArbitration_slotsSound _ _ _ _ _ _ _ _ h he
    case selectProfile => exact execSelectProfile_slotsSound _ _ _ h he
    case saveProfile => exact execSaveProfile_slotsSound _ _ _ h he
    case setParameter => exact execSetParameter_slotsSound _ _ _ _ _ h he
    case responseRead => exact execResponseRead_slotsSound _ _ h he
    case profileLoadComplete => exact execProfileLoadComplete_slotsSound _ _ h he
    case profileSaveComplete => exact execProfileSaveComplete_slotsSound _ h he
    case holdTimerExpiry => exact execHoldTimerExpiry_slotsSound _ h he
    case commit => exact execCommit_slotsSound h he
    case groupEndPublish => exact execGroupEndPublish_slotsSound h he
    case blockReadAssembly =>
      cases he
      exact (completeAssembly_settles s).slotsSound h
    case tableOperationEnd => exact execTableOperationEnd_slotsSound h he

theorem tickTimers_settles (s : State) : s.settles (tickTimers s) := by
  intro q
  refine .inl ⟨?_, by rw [tickTimers_port]; rfl, by rw [tickTimers_port]; rfl⟩
  rw [State.inHand_eq, State.inHand_eq, State.apart_congr rfl rfl]
  rfl

theorem assemble_settles (s : State) : s.settles (assemble s) := by
  unfold assemble
  split
  · exact proceed_settles (Config.indicesVisited s.draws % 193) s
  · exact State.settles_of_parts rfl rfl rfl rfl

theorem step_slotsSound (h : s.slotsSound) (he : step s = .next t) : t.slotsSound := by
  obtain ⟨i, rest, -, hi⟩ | ⟨-, rfl⟩ := step_cases he
  · exact exec_slotsSound (s := { s with pending := rest }) h hi
  · unfold idleStep
    split
    · exact h
    · exact (tickTimers_settles _).slotsSound ((assemble_settles s).slotsSound h)

end Sys2Proof.Machine
end

section
/-! SUPPORT. The table entry by entry, and that an offset stands only beside its reference at every step (R13 to R16, R21, R23, R203). -/

namespace Sys2Proof.Machine

variable {c : Scope} {s t : State} {p : Port}

/-! ### The table entry by entry -/

theorem State.entryAt_of_ge (s : State) {i : Nat} (h : 192 ≤ i) : s.entryAt i = .empty := by
  unfold State.entryAt
  rw [Vector.getElem?_eq_none h]
  rfl

theorem mapEntries_entryAt (f : Nat → Entry → Entry) (s : State) {i : Nat} (h : i < 192) :
    (mapEntries f s).entryAt i = f i (s.entryAt i) := by
  simp [State.entryAt, mapEntries, h]

theorem setEntry_entryAt (n z : Nat) (e : Entry) (s : State) {i : Nat} (h : i < 192) :
    (setEntry n z e s).entryAt i = if i = entryIndex n z then e else s.entryAt i := by
  unfold State.entryAt setEntry
  dsimp only
  rw [Vector.getElem?_setIfInBounds]
  by_cases hi : entryIndex n z = i
  · rw [if_pos hi, if_pos hi.symm]
    simp [hi, h]
  · rw [if_neg hi, if_neg (Ne.symm hi)]

/-! ### Offsets and references -/

/-- An entry holds an offset only while its zone's reference entry holds a published part (R16). -/
def State.offsetsRefer (s : State) : Prop :=
  ∀ i, i < 192 → ∀ x, (s.entryAt i).published = some x → x.offset.isSome = true →
    (s.entry s.store.profile.referenceHead (i % 12)).published.isSome = true

theorem State.offsetsRefer.congr (h : s.offsetsRefer) (ht : t.table = s.table)
    (hr : t.store.profile.referenceHead = s.store.profile.referenceHead) : t.offsetsRefer := by
  intro i hi x hx ho
  have hat : ∀ k, t.entryAt k = s.entryAt k := fun k => by simp only [State.entryAt, ht]
  simp only [State.entry, hat, hr] at hx ⊢
  exact h i hi x hx ho

/-- What keeps the table, the reference head and an emptying that is asked for keeps the offsets sound. -/
theorem State.offsetsSound.congr (h : s.offsetsSound) (he : s.arbiter.emptying → t.arbiter.emptying) (ht : t.table = s.table)
    (hr : t.store.profile.referenceHead = s.store.profile.referenceHead) : t.offsetsSound := by
  obtain h | h := h
  · exact .inl (he h)
  · exact .inr (State.offsetsRefer.congr h ht hr)

theorem State.offsetsSound.of_aside (h : s.offsetsSound) (ha : t.aside = s.aside) (he : s.arbiter.emptying → t.arbiter.emptying) :
    t.offsetsSound := h.congr he (State.table_of_aside ha) (by rw [State.store_of_aside ha])

theorem Moves.offsetsSound (hm : Moves c s t) (h : s.offsetsSound) : t.offsetsSound := h.congr hm.emptying hm.table (by rw [hm.store])

/-- A change of the table that puts no offset anywhere and takes no published part away keeps every offset beside its reference. -/
theorem State.offsetsRefer.of_entries (h : s.offsetsRefer) (hr : t.store.profile.referenceHead = s.store.profile.referenceHead)
    (ho : ∀ i, i < 192 → ∀ x, (t.entryAt i).published = some x → x.offset.isSome = true →
      ∃ y, (s.entryAt i).published = some y ∧ y.offset.isSome = true)
    (hp : ∀ i, i < 192 → (s.entryAt i).published.isSome = true → (t.entryAt i).published.isSome = true) : t.offsetsRefer := by
  intro i hi x hx hox
  obtain ⟨y, hy, hoy⟩ := ho i hi x hx hox
  have href := h i hi y hy hoy
  rw [hr]
  by_cases hb : entryIndex s.store.profile.referenceHead (i % 12) < 192
  · exact hp _ hb href
  · simp [State.entry, State.entryAt_of_ge s (Nat.le_of_not_lt hb), Entry.empty] at href

/-- A change that leaves every published part but its quality keeps every offset beside its reference. -/
theorem State.offsetsRefer.of_published (h : s.offsetsRefer)
    (hr : t.store.profile.referenceHead = s.store.profile.referenceHead)
    (hp : ∀ i, i < 192 → (t.entryAt i).published.map PublishedPart.offset = (s.entryAt i).published.map PublishedPart.offset) :
    t.offsetsRefer := by
  refine h.of_entries hr (fun i hi x hx ho => ?_) fun i hi hs => ?_
  · have := hp i hi
    rw [hx, Option.map_some] at this
    obtain ⟨y, hy, hyo⟩ := Option.map_eq_some_iff.mp this.symm
    exact ⟨y, hy, by rw [hyo]; exact ho⟩
  · have := congrArg Option.isSome (hp i hi)
    simpa [hs] using this

theorem setEntry_offsetsRefer {n z : Nat} {e : Entry} (he : e.published = (s.entry n z).published) (h : s.offsetsRefer) :
    (setEntry n z e s).offsetsRefer := by
  refine h.of_published rfl fun i hi => ?_
  rw [setEntry_entryAt _ _ _ _ hi]
  split
  · subst i
    rw [he]
    rfl
  · rfl

theorem mapEntries_offsetsRefer {f : Nat → Entry → Entry}
    (hf : ∀ i e, (f i e).published.map PublishedPart.offset = e.published.map PublishedPart.offset) (h : s.offsetsRefer) :
    (mapEntries f s).offsetsRefer :=
  h.of_published rfl fun i hi => by rw [mapEntries_entryAt f s hi]; exact hf i _

theorem commitTable_offsetsRefer (r : SearchRecord) (part : StagedPart) (h : s.offsetsRefer) : (commitTable r part s).offsetsRefer := by
  have staged : ∀ n z, (writeStaged n z part s).offsetsRefer := fun n z => setEntry_offsetsRefer rfl h
  unfold commitTable
  split
  · exact h
  · dsimp only
    split
    · refine mapEntries_offsetsRefer (fun i e => ?_) (staged _ _)
      split
      · cases e.published <;> rfl
      · rfl
    · exact staged _ _

theorem discardAllStaged_offsetsRefer (h : s.offsetsRefer) : (discardAllStaged s).offsetsRefer :=
  mapEntries_offsetsRefer (fun i e => by split <;> rfl) h

theorem emptyTable_offsetsRefer (s : State) : (emptyTable s).offsetsRefer := by
  intro i hi x hx
  rw [emptyTable, mapEntries_entryAt _ _ hi] at hx
  cases hx

theorem State.reset_offsetsRefer : State.reset.offsetsRefer := by
  intro i hi x hx
  simp [State.entryAt, State.reset, HeadMap.reset, hi, Entry.empty] at hx

/-- An entry that takes its staged part keeps an offset or loses it, and never loses its published part (R13). -/
theorem Entry.takeStaged_published (g : Nat) (e : Entry) :
    (∀ x, (e.takeStaged g).published = some x → x.offset.isSome = true → e.published = some x)
      ∧ (e.published.isSome = true → (e.takeStaged g).published.isSome = true) := by
  unfold Entry.takeStaged
  split
  · exact ⟨fun _ hx _ => hx, fun h => h⟩
  · exact ⟨fun x hx ho => (by cases hx; cases ho), fun _ => rfl⟩
  · exact ⟨fun _ hx _ => hx, fun h => h⟩

theorem stagedStep_offsetsRefer (h : s.offsetsRefer) : (stagedStep s).offsetsRefer := by
  refine h.of_entries rfl (fun i hi x hx ho => ?_) fun i hi hs => ?_
  · rw [stagedStep, mapEntries_entryAt _ _ hi] at hx
    split at hx
    · exact ⟨x, (Entry.takeStaged_published _ _).1 x hx ho, ho⟩
    · exact ⟨x, hx, ho⟩
  · rw [stagedStep, mapEntries_entryAt _ _ hi]
    split
    · exact (Entry.takeStaged_published _ _).2 hs
    · exact hs

theorem offsetStep_published_isSome (s : State) {i : Nat} (hi : i < 192) :
    ((offsetStep s).entryAt i).published.isSome = (s.entryAt i).published.isSome := by
  rw [offsetStep, mapEntries_entryAt _ _ hi]
  split
  · simp
  · rfl

/-- The offset step gives offsets where the zone has a reference, and takes the others (R14). -/
theorem offsetStep_offsetsRefer (h : s.offsetsRefer) : (offsetStep s).offsetsRefer := by
  intro i hi x hx ho
  have href : (s.entry s.store.profile.referenceHead (i % 12)).published.isSome = true := by
    rw [offsetStep, mapEntries_entryAt _ _ hi] at hx
    split at hx
    · obtain ⟨y, -, rfl⟩ := Option.map_eq_some_iff.mp hx
      simpa [PublishedPart.withOffset, State.referenceNull] using ho
    · exact h i hi x hx ho
  change ((offsetStep s).entryAt (entryIndex s.store.profile.referenceHead (i % 12))).published.isSome = true
  by_cases hb : entryIndex s.store.profile.referenceHead (i % 12) < 192
  · rw [offsetStep_published_isSome s hb]
    exact href
  · simp [State.entry, State.entryAt_of_ge s (Nat.le_of_not_lt hb), Entry.empty] at href

theorem publishTable_offsetsRefer (h : s.offsetsRefer) : (publishTable s).offsetsRefer :=
  offsetStep_offsetsRefer (stagedStep_offsetsRefer h)

/-- CLEAR ENTRY takes the offsets of a zone with its reference entry (R16, R23). -/
theorem clearEntryTable_offsetsRefer {n z : Nat} (hz : z < 12) (h : s.offsetsRefer) : (clearEntryTable n z s).offsetsRefer := by
  intro i hi x hx ho
  change ((clearEntryTable n z s).entryAt (entryIndex s.store.profile.referenceHead (i % 12))).published.isSome = true
  rw [clearEntryTable, mapEntries_entryAt _ _ hi] at hx
  split at hx
  · cases hx
  · split at hx
    · obtain ⟨y, -, rfl⟩ := Option.map_eq_some_iff.mp hx
      cases ho
    · rename_i hni hkept
      have href := h i hi x hx ho
      have hb : entryIndex s.store.profile.referenceHead (i % 12) < 192 := by
        by_contra hb
        simp [State.entry, State.entryAt_of_ge s (Nat.le_of_not_lt hb), Entry.empty] at href
      rw [clearEntryTable, mapEntries_entryAt _ _ hb]
      have hne : entryIndex s.store.profile.referenceHead (i % 12) ≠ entryIndex n z := by
        intro e
        unfold entryIndex at e
        exact hkept ⟨by omega, by omega⟩
      rw [if_neg hne]
      split
      · simpa [Entry.withoutOffset, State.entry] using href
      · exact href

/-! ### The grant -/

/-- A port whose request is being served asks for no emptying (R157). -/
theorem State.serving.not_emptying {i : Instr} (h : s.serving .workstation i) : ¬ s.arbiter.emptying := by
  obtain ⟨-, h0, -⟩ := h
  rw [State.inHand_eq] at h0
  obtain ⟨hat, -⟩ := Nat.add_eq_zero_iff.mp h0
  rintro ⟨x, l, hh | hw⟩
  · simp [State.atTable, hh, Port.client] at hat
  · have hw' : s.arbiter.waiting.get .w = some (.emptyTable x l) := hw
    simp [State.atTable, Port.client, hw'] at hat

theorem expireHold_emptying (h : s.arbiter.emptying) : (expireHold s).arbiter.emptying := by
  unfold expireHold
  split
  · split
    · exact h
    · obtain ⟨hh, ho⟩ := State.assembling_eq_some.mp ‹s.assembling = _›
      exact finishBlockRead_emptying h hh ho
  · exact h

theorem completeAssembly_emptying (h : s.arbiter.emptying) : (completeAssembly s).arbiter.emptying := by
  unfold completeAssembly
  split
  · obtain ⟨hh, ho⟩ := State.assembling_eq_some.mp ‹s.assembling = _›
    exact finishBlockRead_emptying h hh ho
  · exact h

theorem proceed_emptying (n : Nat) (h : s.arbiter.emptying) : (proceed n s).arbiter.emptying := by
  unfold proceed
  split
  · obtain ⟨hh, ho⟩ := State.assembling_eq_some.mp ‹s.assembling = _›
    obtain ⟨x, l, hx | hx⟩ := h
    · rw [hx, Option.some.injEq, Prod.mk.injEq] at hh
      rw [← hh.2] at ho
      cases ho
    · exact ⟨x, l, .inr hx⟩
  · exact h

theorem reexamineHold_emptying (h : s.arbiter.emptying) : (reexamineHold s).arbiter.emptying := by
  have start : (startHold s).arbiter.emptying := by
    unfold startHold
    split
    · exact expireHold_emptying h
    · exact h
  unfold reexamineHold
  dsimp only
  split <;> split
  · exact start
  · exact h
  · exact h
  · exact h
  · exact h
  · exact h

@[simp] theorem reexamineHold_aside (s : State) : (reexamineHold s).aside = s.aside := by
  unfold reexamineHold
  dsimp only
  split <;> split <;> simp

/-- The withdrawal of a read of Port P or Port D leaves an emptying that Port W asked for. -/
theorem withdrawRead_emptying {q : Port} (hq : q ≠ .workstation) (h : s.arbiter.emptying) : (withdrawRead q s).arbiter.emptying := by
  have hc : Port.client q ≠ .w := by
    cases q <;> simp_all [Port.client]
  have waiting : (withdrawWaiting q s).arbiter.emptying := by
    unfold withdrawWaiting
    split
    · exact withdrawAsk_emptying h hc
    · exact h
  rw [withdrawRead_eq]
  split
  · rename_i hh
    refine release_emptying waiting fun x l e => ?_
    rw [e] at hh
    exact hc (by simpa using hh.symm : Client.w = Port.client q).symm
  · exact waiting

/-! ### Requests -/

theorem askGrant_offsetsSound {i : Instr} (hs : s.serving p i) (h : s.offsetsSound) (op : TableOp) :
    (askGrant (Port.client p) op s).offsetsSound := by
  refine h.of_aside (askGrant_aside _ op s) fun he => ?_
  have hp : p ≠ .workstation := by
    rintro rfl
    exact hs.not_emptying he
  exact askGrant_emptying he (by cases p <;> simp_all [Port.client])

theorem answer_offsetsSound (tag : Byte) (a : Answer) (h : s.offsetsSound) : (answer p tag a s).offsetsSound :=
  h.of_aside (answer_aside p tag a s) fun he => he

theorem answerPending_offsetsSound (a : Answer) (h : s.offsetsSound) : (answerPending p a s).offsetsSound :=
  h.of_aside (answerPending_aside p a s) fun he => by rw [answerPending_arbiter]; exact he

theorem setSlot_offsetsSound (x : Slot) (h : s.offsetsSound) : (s.setSlot p x).offsetsSound := h.congr (fun he => he) rfl rfl

theorem request_offsetsSound {i : Instr} {a : Access} {body : State → State} (hs : s.slotsSound) (h : s.offsetsSound)
    (hp : s.store.profile.sound)
    (hb : ∀ u : State, p ∈ a.senders → u.serving p i → u.store.profile.sound → u.offsetsSound → (body u).offsetsSound) :
    (request i p a body s).offsetsSound := by
  obtain ⟨-, e⟩ | ⟨-, st, e⟩ | ⟨he, hr, e⟩ := request_cases i p a body s <;> rw [e]
  · exact h.congr (t := dropRequest p s) (fun he => he) rfl rfl
  · exact answer_offsetsSound _ _ (setSlot_offsetsSound _ h)
  · exact hb _ (State.sender_of_commonRefusal hr) (hs.serving he) hp (setSlot_offsetsSound _ h)

theorem Reaches.offsetsSound (hr : Reaches c s t) (hs : s.slotsSound) (h : s.offsetsSound) : t.offsetsSound := by
  obtain hm | ⟨p, ⟨-, rfl⟩ | ⟨he, i, ⟨tag, a, u, hm, rfl⟩ | ⟨op, u, x, hm, -, -, rfl⟩⟩⟩ := hr
  · exact hm.offsetsSound h
  · exact h.congr (t := dropRequest p s) (fun he => he) rfl rfl
  · exact answer_offsetsSound _ _ (hm.offsetsSound (setSlot_offsetsSound _ h))
  · exact askGrant_offsetsSound (((hs.serving he).moves hm).setCursor x)
      ((hm.offsetsSound (setSlot_offsetsSound _ h)).congr (t := u.setCursor p x) (fun he => he) rfl rfl) op

theorem resetStanding_offsetsSound {q : Port} (hq : q = p ∨ q ≠ .workstation) (h : s.offsetsSound) :
    (resetStanding p q s).offsetsSound := by
  have read : (if q = p then s else withdrawRead q (dropReply q s)).offsetsSound := by
    split
    · exact h
    · exact State.offsetsSound.of_aside (s := dropReply q s) (h.congr (fun he => he) rfl rfl) (withdrawRead_aside q _)
        (withdrawRead_emptying (hq.resolve_left ‹_›))
  have work := (clearWorkOf_moves (c := .working) rfl q
    ((if q = p then s else withdrawRead q (dropReply q s)).setPort q
      (LinkPort.resetBy (State.port (if q = p then s else withdrawRead q (dropReply q s)) q) (q == p)))).offsetsSound
      (read.congr (fun he => he) rfl rfl)
  unfold resetStanding
  dsimp only
  split
  · exact (dropHome_moves (c := .working) _).offsetsSound work
  · exact work

theorem resetPort_offsetsSound {q : Port} (tag : Byte) (hq : q = p ∨ q ≠ .workstation) (h : s.offsetsSound) :
    (resetPort p q tag s).offsetsSound := by
  have base : (resetStanding p q (withdrawAskIn (s.resetCase q) s)).offsetsSound :=
    resetStanding_offsetsSound hq ((withdrawAskIn_moves (c := .working) _ s).offsetsSound h)
  unfold resetPort
  dsimp only
  split
  · exact answer_offsetsSound _ _ ((endJob_moves (c := .working) rfl (Scope.reports_of_lists (fun _ => rfl) _ _)).offsetsSound base)
  · exact answer_offsetsSound _ _ ((withdrawCommit_moves (c := .working) rfl _).offsetsSound base)
  · exact base.congr (t := addReply p ⟨p, q, _, _⟩ _) (fun he => he) rfl rfl
  · exact answer_offsetsSound _ _ ((advance_moves (c := .working) rfl _).offsetsSound base)

/-! ### The commands told one by one -/

theorem execAttach_offsetsSound (p : Port) (tag : Byte) (hs : s.slotsSound) (hp : s.store.profile.sound) (h : s.offsetsSound)
    (he : execAttach p tag s = .next t) : t.offsetsSound := by
  cases he
  refine request_offsetsSound hs h hp fun u _ _ _ hu => answer_offsetsSound _ _ ?_
  split
  · exact hu
  · obtain ⟨v, w, x, hm, e⟩ := postOwed_moves (c := .clearing) rfl p (setAttached p true u)
    have ho : (postOwed p (setAttached p true u)).offsetsSound := by
      rw [e]
      exact (hm.offsetsSound ((setAttached_moves (c := .clearing) rfl rfl true u).offsetsSound hu)).congr (fun he => he) rfl rfl
    exact (Moves.after (advance_moves (c := .clearing) rfl _) (pulseIfEligible_moves p _)).offsetsSound ho

theorem execResetPort_offsetsSound (p : Port) (tag target : Byte) (hs : s.slotsSound) (hp : s.store.profile.sound)
    (h : s.offsetsSound) (he : execResetPort p tag target s = .next t) : t.offsetsSound := by
  cases he
  refine request_offsetsSound hs h hp fun u _ _ _ hu => ?_
  split
  · exact answer_offsetsSound _ _ hu
  · split
    · exact answer_offsetsSound _ _ hu
    · exact resetPort_offsetsSound tag (reset_target_of_sender ‹_›) hu

theorem execSetArbitration_offsetsSound (q : Port) (tag e w d p preemption holdTime : Byte) (hs : s.slotsSound)
    (hp : s.store.profile.sound) (h : s.offsetsSound)
    (he : execSetArbitration q tag e w d p preemption holdTime s = .next t) : t.offsetsSound := by
  cases he
  refine request_offsetsSound hs h hp fun u _ _ _ hu => ?_
  split
  · rename_i x on _ _
    refine answer_offsetsSound _ _ (State.offsetsSound.of_aside
      (s := u.setArbiter { u.arbiter with priority := x, preemption := on, holdTime := holdTime.toNat }) ?_ (reexamineHold_aside _)
      reexamineHold_emptying)
    exact hu.congr (fun he => he) rfl rfl
  · exact answer_offsetsSound _ _ hu

theorem setStore_offsetsSound {st : ProfileStore} (hr : st.profile.referenceHead = s.store.profile.referenceHead) (h : s.offsetsSound) :
    (s.setStore st).offsetsSound := h.congr (fun he => he) rfl hr

theorem execSelectProfile_offsetsSound (p : Port) (tag slot : Byte) (hs : s.slotsSound) (hp : s.store.profile.sound)
    (h : s.offsetsSound) (he : execSelectProfile p tag slot s = .next t) : t.offsetsSound := by
  cases he
  refine request_offsetsSound hs h hp fun u _ _ _ hu => ?_
  split
  · exact answer_offsetsSound _ _ hu
  · split
    · exact answer_offsetsSound _ _ hu
    · exact setStore_offsetsSound (by rfl) hu

theorem execSaveProfile_offsetsSound (p : Port) (tag slot : Byte) (hs : s.slotsSound) (hp : s.store.profile.sound)
    (h : s.offsetsSound) (he : execSaveProfile p tag slot s = .next t) : t.offsetsSound := by
  cases he
  refine request_offsetsSound hs h hp fun u _ _ _ hu => ?_
  split
  · exact answer_offsetsSound _ _ hu
  · split
    · exact answer_offsetsSound _ _ hu
    · split
      · exact answer_offsetsSound _ _ hu
      · exact setStore_offsetsSound (by rfl) hu

/-- Over a profile in its ranges a parameter other than those that empty the table leaves the reference head (R203). -/
theorem Profile.setParam_referenceHead {pr : Profile} (hp : pr.sound) {n : Nat} (h : emptiesTable n = false) (i : Nat) (v : Int) :
    (pr.setParam n i v).referenceHead = pr.referenceHead := by
  simp only [emptiesTable, Bool.or_eq_false_iff, beq_eq_false_iff_ne] at h
  obtain ⟨⟨⟨⟨h1, -⟩, h3⟩, -⟩, -⟩ := h
  have href : (pr.withParam n i (pr.clampParam n v)).referenceHead = pr.referenceHead := by
    unfold Profile.withParam
    split <;> try contradiction
    all_goals rfl
  have hlt := (hp.1 (3, 0) (by decide)).2
  simp only [Profile.range, Profile.param] at hlt
  simp only [Profile.setParam, Profile.adjust, href, pr.withParam_headCount i _ h1]
  rw [if_neg (by omega)]

theorem execSetParameter_offsetsSound (p : Port) (tag number index : Byte) (value : ValueWord) (hs : s.slotsSound)
    (hp : s.store.profile.sound) (h : s.offsetsSound) (he : execSetParameter p tag number index value s = .next t) :
    t.offsetsSound := by
  cases he
  refine request_offsetsSound hs h hp fun u hpw _ hup hu => ?_
  obtain rfl : p = .workstation := by simpa [storeAccess] using hpw
  split
  · exact answer_offsetsSound _ _ hu
  · rename_i n j _
    split
    · exact answer_offsetsSound _ _ hu
    · split
      · exact answer_offsetsSound _ _ hu
      · unfold setParameter
        dsimp only
        split
        · exact .inl (askGrant_emptying_own _ _ _)
        · rename_i hn
          refine answer_offsetsSound _ _ ((paramEffects_moves (c := .store) rfl (fun _ => rfl) rfl rfl rfl n _).offsetsSound
            (setStore_offsetsSound ?_ hu))
          exact Profile.setParam_referenceHead hup (by simpa using hn) j _

theorem execResponseRead_offsetsSound (p : Port) (clocked : Nat) (h : s.offsetsSound) (he : execResponseRead p clocked s = .next t) :
    t.offsetsSound := by
  cases he
  split
  · split
    · exact h.congr (t := finishRead p _ s) (fun he => he) rfl rfl
    · exact h
  · exact h
  · exact h

theorem execProfileLoadComplete_offsetsSound (b : Option Byte) (image : Option (List Byte)) (h : s.offsetsSound)
    (he : execProfileLoadComplete b image s = .next t) : t.offsetsSound := by
  cases he
  split
  · dsimp only
    split
    · exact .inr (emptyTable_offsetsRefer _)
    · exact .inl (askGrant_emptying_own _ _ _)
  · exact h
  · exact h
  · exact h

theorem execProfileSaveComplete_offsetsSound (x : Option (List Byte)) (h : s.offsetsSound)
    (he : execProfileSaveComplete x s = .next t) : t.offsetsSound := by
  cases he
  split
  · have saved := (advance_moves (c := .store) rfl _).offsetsSound (setStore_offsetsSound (st := { s.store with state := .ready }) rfl h)
    refine answerPending_offsetsSound _ ?_
    split
    · exact saved
    · exact (postFault_moves (c := .store) rfl _ _).offsetsSound saved
  · exact h
  · exact h
  · exact h

theorem execHoldTimerExpiry_offsetsSound (n : Nat) (h : s.offsetsSound) (he : execHoldTimerExpiry n s = .next t) : t.offsetsSound := by
  cases he
  split
  · exact h.of_aside (by simp) fun he => expireHold_emptying (proceed_emptying n he)
  · exact h
  · exact h

/-! ### The ends of operations under the grant -/

/-- The release after a change of the table keeps the offsets sound, where the change keeps them beside their references and the
operation is not the emptying that is asked for. -/
theorem release_offsetsSound {u : State} {a : Client} {op : TableOp} (hh : s.arbiter.holder = some (a, op))
    (hop : ∀ x l, op ≠ .emptyTable x l) (ha : u.arbiter = s.arbiter) (hr : s.offsetsRefer → u.offsetsRefer) (h : s.offsetsSound) :
    (release u).offsetsSound := by
  obtain he | h := h
  · refine .inl (release_emptying (by rw [ha]; exact he) fun x l e => ?_)
    rw [ha, hh, Option.some.injEq, Prod.mk.injEq] at e
    exact hop x l e.2
  · exact .inr ((hr h).congr (State.table_of_aside (release_aside u)) (by rw [State.store_of_aside (release_aside u)]))

theorem release_offsetsSound_of_refer {u : State} (h : u.offsetsRefer) : (release u).offsetsSound :=
  .inr (h.congr (State.table_of_aside (release_aside u)) (by rw [State.store_of_aside (release_aside u)]))

theorem answerReset_offsetsSound (h : s.offsetsSound) : (answerReset s).offsetsSound := by
  unfold answerReset
  obtain ⟨x, e⟩ := answerAll_ports s.engine.resetReplies (s.setEngine { s.engine with resetReplies := [] })
  rw [e]
  exact h.congr (fun he => he) rfl rfl

theorem execCommit_offsetsSound (h : s.offsetsSound) (he : execCommit s = .next t) : t.offsetsSound := by
  cases he
  split
  · rename_i hc
    split
    · rename_i r o part _ _
      have freed : (release (commitTable r part s)).offsetsSound := release_offsetsSound (Arbiter.engineHolds_iff.mp hc.2) (by simp)
        (commitTable_arbiter r part s) (commitTable_offsetsRefer r part) h
      have base := (postDrift_moves (c := .store) rfl r.job.work.zone (s.driftFound r.job.work part)
        (s.store.profile.marks (s.driftFound r.job.work part)) _).offsetsSound freed
      unfold commitJob endCommit
      dsimp only
      split
      · exact answerReset_offsetsSound (((clearActive_moves (c := .store) rfl r _).trans (afterJob_moves rfl _ _ _)).offsetsSound base)
      · exact ((((writeRecord_moves (c := .store) rfl _ _).trans (clearActive_moves rfl r _)).trans (accountEnd_moves rfl _ _)).trans
          (afterJob_moves rfl _ _ _)).offsetsSound base
    · exact h
  · exact h

theorem execGroupEndPublish_offsetsSound (h : s.offsetsSound) (he : execGroupEndPublish s = .next t) : t.offsetsSound := by
  cases he
  split
  · rename_i hc
    exact (((postWD_moves (c := .store) rfl _ _ _).trans (removePublished_moves rfl _)).trans (leavePublish_moves rfl _)).offsetsSound
      (release_offsetsSound (u := publishTable s) (Arbiter.engineHolds_iff.mp hc.2) (by simp) rfl publishTable_offsetsRefer h)
  · exact h

theorem endOperation_offsetsSound {op : TableOp} (hh : s.arbiter.holder = some (Port.client p, op)) (ho : op.inTable = true)
    (h : s.offsetsSound) : (endOperation p op s).offsetsSound := by
  have ends : ∀ u a, (∀ x l, op ≠ .emptyTable x l) → u.arbiter = s.arbiter → (s.offsetsRefer → u.offsetsRefer) →
      (answerPending p a (release u)).offsetsSound := fun u a hop ha hr =>
    answerPending_offsetsSound a (release_offsetsSound hh hop ha hr h)
  unfold endOperation
  split
  · exact answerPending_offsetsSound _ ((postWD_moves (c := .store) rfl _ _ _).offsetsSound
      (release_offsetsSound (u := publishTable s) hh (by simp) rfl publishTable_offsetsRefer h))
  · exact ends _ _ (by simp) rfl (setEntry_offsetsRefer rfl)
  · exact ends _ _ (by simp) rfl discardAllStaged_offsetsRefer
  · exact ends _ _ (by simp) rfl (setEntry_offsetsRefer rfl)
  · exact ends _ _ (by simp) rfl (setEntry_offsetsRefer rfl)
  · rename_i n z idle
    simp only [TableOp.inTable, Bool.and_eq_true, decide_eq_true_eq] at ho
    unfold endClearEntry
    split
    · exact ends _ _ (by simp) rfl (clearEntryTable_offsetsRefer ho.2)
    · exact ends _ _ (by simp) rfl fun h => h
  · exact answerPending_offsetsSound _ (release_offsetsSound_of_refer (emptyTable_offsetsRefer s))
  · exact answerPending_offsetsSound _ (release_offsetsSound_of_refer (emptyTable_offsetsRefer s))
  · exact ends _ _ (by simp) rfl fun h => h
  · exact h
  · exact h
  · exact h
  · exact h
  · exact h

theorem execTableOperationEnd_offsetsSound (ho : s.arbiter.opsInTable) (h : s.offsetsSound) (he : execTableOperationEnd s = .next t) :
    t.offsetsSound := by
  cases he
  split
  · rename_i a op hh
    split
    · rename_i p hp
      exact endOperation_offsetsSound (Client.port_eq_some hp ▸ hh) (ho.1 _ hh) h
    · exact h
  · exact h

/-! ### Every step -/

theorem exec_offsetsSound {i : Instr} (hs : s.slotsSound) (hp : s.store.profile.sound) (ho : s.arbiter.opsInTable)
    (h : s.offsetsSound) (he : exec i s = .next t) : t.offsetsSound := by
  cases hr : Instr.reach i with
  | some c =>
    obtain ⟨u, hu, hreach⟩ := exec_within hr s
    rw [hu] at he
    cases he
    exact hreach.offsetsSound hs h
  | none =>
    cases i <;> try contradiction
    case resetnRelease =>
      cases he
      exact .inr (State.offsetsRefer.congr (s := State.reset) State.reset_offsetsRefer rfl rfl)
    case attach => exact execAttach_offsetsSound _ _ hs hp h he
    case resetPort => exact execResetPort_offsetsSound _ _ _ hs hp h he
    case setArbitration => exact execSetArbitration_offsetsSound _ _ _ _ _ _ _ _ hs hp h he
    case selectProfile => exact execSelectProfile_offsetsSound _ _ _ hs hp h he
    case saveProfile => exact execSaveProfile_offsetsSound _ _ _ hs hp h he
    case setParameter => exact execSetParameter_offsetsSound _ _ _ _ _ hs hp h he
    case responseRead => exact execResponseRead_offsetsSound _ _ h he
    case profileLoadComplete => exact execProfileLoadComplete_offsetsSound _ _ h he
    case profileSaveComplete => exact execProfileSaveComplete_offsetsSound _ h he
    case holdTimerExpiry => exact execHoldTimerExpiry_offsetsSound _ h he
    case commit => exact execCommit_offsetsSound h he
    case groupEndPublish => exact execGroupEndPublish_offsetsSound h he
    case blockReadAssembly =>
      cases he
      exact h.of_aside (completeAssembly_aside s) completeAssembly_emptying
    case tableOperationEnd => exact execTableOperationEnd_offsetsSound ho h he

theorem idleStep_offsetsSound (h : s.offsetsSound) : (idleStep s).offsetsSound := by
  unfold idleStep
  split
  · exact h.congr (fun he => he) rfl rfl
  · have assembled : (assemble s).offsetsSound := by
      unfold assemble
      split
      · exact (h.of_aside (proceed_aside _ s) (proceed_emptying (Config.indicesVisited s.draws % 193))).congr (fun he => he) rfl rfl
      · exact h
    exact assembled.congr (t := tickTimers (assemble s)) (fun he => he) rfl rfl

theorem step_offsetsSound (hs : s.slotsSound) (hp : s.store.profile.sound) (ho : s.arbiter.opsInTable) (h : s.offsetsSound)
    (he : step s = .next t) : t.offsetsSound := by
  obtain ⟨i, rest, -, hi⟩ | ⟨-, rfl⟩ := step_cases he
  · exact exec_offsetsSound (s := { s with pending := rest }) hs hp ho (h.congr (fun he => he) rfl rfl) hi
  · exact idleStep_offsetsSound h

/-- Settles O55: the slots by what each operation of the grant settles, the operations in the table, and the offsets beside their
references or with an emptying asked for. -/
theorem slotsAndOffsetsKept : Obligations.SlotsAndOffsetsKept :=
  ⟨fun _ _ => step_slotsSound, fun _ _ => step_opsInTable, fun _ _ => step_offsetsSound⟩

end Sys2Proof.Machine
end

section
/-! SUPPORT. The state right after reset: every block's power-on values, and the properties that every step keeps (R27, R28, R99, R100,
R141, R156, R172, R184, R198). -/

namespace Sys2Proof.Machine

theorem State.reset_entryAt (i : Nat) : State.reset.entryAt i = .empty := by
  by_cases h : i < 192
  · simp [State.entryAt, State.reset, HeadMap.reset, h]
  · exact State.entryAt_of_ge _ (Nat.le_of_not_lt h)

theorem State.reset_status (i : Nat) : (State.reset.statuses[i]?).getD .idle = .idle := by
  by_cases h : i < 192
  · simp [State.reset, h]
  · rw [Vector.getElem?_eq_none (Nat.le_of_not_lt h)]
    rfl

theorem State.reset_statusesSound : State.reset.statusesSound := by
  refine ⟨List.nodup_nil, fun j hj => (by cases hj), fun z hz => (by cases hz), fun i _ => ?_⟩
  rw [State.reset_status]
  simp [State.reset, JobQueue.reset, Engine.reset]

/-- Settles O4: the power-on state with the model's own queue and count kept. -/
theorem resetnRelease : Obligations.ResetnRelease := fun s =>
  ⟨{ State.reset with draws := s.draws, pending := s.pending }, rfl, fun p => by cases p <;> rfl,
    fun h z => ⟨State.reset_entryAt _, State.reset_status _⟩, rfl, rfl, rfl, rfl, rfl, rfl, rfl, rfl, rfl, rfl, rfl, rfl, rfl, rfl, rfl,
    rfl, rfl, rfl, rfl⟩

/-- Settles O60: nothing is held, queued, waiting or running at reset, and every value is inside its range. -/
theorem resetIsSound : Obligations.ResetIsSound := by
  refine ⟨⟨by decide, by decide, by decide, by decide, fun p => by cases p <;> decide⟩,
    ⟨fun _ => ⟨rfl, fun c => by cases c <;> rfl⟩, fun c op x h => by cases h⟩,
    ⟨fun x h => (by cases h), fun c op h => (by cases c <;> cases h)⟩, fun p => by cases p <;> rfl, .inr State.reset_offsetsRefer,
    ⟨by decide, fun _ => ⟨rfl, rfl⟩⟩, ⟨⟨rfl, rfl⟩, ?_, rfl, rfl⟩, ⟨List.Pairwise.nil, fun r h => by cases h⟩,
    ⟨List.nodup_nil, by decide, by decide, by decide, by decide⟩, State.reset_statusesSound, State.reset_ranged⟩
  unfold PositionFrame.timerSound
  simp [State.reset, PositionFrame.reset]

end Sys2Proof.Machine
end

section
/-! SUPPORT. The frame of every command (R8, R19, R63, R80, R111, R159, R163, R179, R189, R198): what each may change of the table, the
store, the settings of the arbiter, the count, the revolutions and the servo state, the selected head, and the ports' attachment, window
and mask. -/

namespace Sys2Proof.Machine

variable {c : Scope} {s t u : State}

/-! ### Extents -/

/-- What a command may change of the parts that CommandsKeepTheirFrame names. -/
structure Extent where
  table : Bool := false
  store : Bool := false
  settings : Bool := false
  count : Bool := false
  servo : Bool := false
  selected : Bool := false
  attached : Port → Bool := fun _ => false
  window : Port → Bool := fun _ => false
  mask : Port → Bool := fun _ => false

/-- What each command may change. -/
def Instr.extent : Instr → Extent
  | .resetnRelease => ⟨true, true, true, true, true, true, fun _ => true, fun _ => true, fun _ => true⟩
  | .commit => { table := true }
  | .groupEndPublish => { table := true }
  | .tableOperationEnd => { table := true }
  | .profileLoadComplete _ _ => { table := true, store := true }
  | .profileSaveComplete _ => { store := true }
  | .selectProfile _ _ _ => { store := true }
  | .saveProfile _ _ _ => { store := true }
  | .setParameter _ _ _ _ _ => { store := true }
  | .attach p _ => { store := true, attached := fun q => q == p }
  | .detach p _ => { attached := fun q => q == p }
  | .setWindow _ _ target _ _ => { window := fun q => portArg target == some q }
  | .resetPort _ _ target =>
    { attached := fun q => portArg target == some q, window := fun q => portArg target == some q
      mask := fun q => portArg target == some q }
  | .setNoticeMask p _ _ => { mask := fun q => q == p }
  | .setArbitration _ _ _ _ _ _ _ _ => { settings := true }
  | .filterSample _ _ _ _ => { count := true }
  | .wedgeRecord _ => { servo := true }
  | .wedgeWindowExpiry => { servo := true }
  | .indexPulse => { servo := true }
  | .headSelected _ _ _ _ => { selected := true }
  | _ => {}

/-- The second state is as the first in what lies outside an extent. -/
structure State.KeptBut (e : Extent) (s t : State) : Prop where
  pending : t.pending = s.pending
  table : e.table = false → t.table = s.table
  store : e.store = false → t.store = s.store
  settings : e.settings = false → t.arbiter.settings = s.arbiter.settings
  count : e.count = false → t.frame.count = s.frame.count
  servo : e.servo = false → t.sample.revolutions = s.sample.revolutions ∧ t.sample.locked = s.sample.locked
  selected : e.selected = false → t.handshake.selected = s.handshake.selected
  attached : ∀ q, e.attached q = false → (t.port q).attached = (s.port q).attached
  window : ∀ q, e.window q = false → (t.port q).window = (s.port q).window
  mask : ∀ q, e.mask q = false → (t.port q).notices.mask = (s.port q).notices.mask

variable {e : Extent}

theorem State.KeptBut.refl (e : Extent) (s : State) : s.KeptBut e s :=
  ⟨rfl, fun _ => rfl, fun _ => rfl, fun _ => rfl, fun _ => rfl, fun _ => ⟨rfl, rfl⟩, fun _ => rfl, fun _ _ => rfl, fun _ _ => rfl,
    fun _ _ => rfl⟩

theorem State.KeptBut.trans (h : s.KeptBut e t) (h' : t.KeptBut e u) : s.KeptBut e u where
  pending := h'.pending.trans h.pending
  table x := (h'.table x).trans (h.table x)
  store x := (h'.store x).trans (h.store x)
  settings x := (h'.settings x).trans (h.settings x)
  count x := (h'.count x).trans (h.count x)
  servo x := ⟨(h'.servo x).1.trans (h.servo x).1, (h'.servo x).2.trans (h.servo x).2⟩
  selected x := (h'.selected x).trans (h.selected x)
  attached q x := (h'.attached q x).trans (h.attached q x)
  window q x := (h'.window q x).trans (h.window q x)
  mask q x := (h'.mask q x).trans (h.mask q x)

/-! ### The updates -/

theorem State.KeptBut.of_ports (hp : t.ports = s.ports) (hq : t.pending = s.pending) (ht : e.table = false → t.table = s.table)
    (hs : e.store = false → t.store = s.store) (ha : t.arbiter.settings = s.arbiter.settings)
    (hc : t.frame.count = s.frame.count) (hr : t.sample.revolutions = s.sample.revolutions ∧ t.sample.locked = s.sample.locked)
    (hh : t.handshake.selected = s.handshake.selected) : s.KeptBut e t :=
  ⟨hq, ht, hs, fun _ => ha, fun _ => hc, fun _ => hr, fun _ => hh, fun q _ => by simp only [State.port, hp],
    fun q _ => by simp only [State.port, hp], fun q _ => by simp only [State.port, hp]⟩

theorem setPort_keptBut {p : Port} {x : LinkPort} (ha : e.attached p = false → x.attached = (s.port p).attached)
    (hw : e.window p = false → x.window = (s.port p).window) (hm : e.mask p = false → x.notices.mask = (s.port p).notices.mask) :
    s.KeptBut e (s.setPort p x) := by
  refine ⟨rfl, fun _ => rfl, fun _ => rfl, fun _ => rfl, fun _ => rfl, fun _ => ⟨rfl, rfl⟩, fun _ => rfl, fun q h => ?_, fun q h => ?_,
    fun q h => ?_⟩ <;> rw [State.port_setPort_eq] <;> split
  · subst q
    exact ha h
  · rfl
  · subst q
    exact hw h
  · rfl
  · subst q
    exact hm h
  · rfl

theorem setSlot_keptBut (p : Port) (x : Slot) (s : State) : s.KeptBut e (s.setSlot p x) :=
  setPort_keptBut (fun _ => rfl) (fun _ => rfl) fun _ => rfl

theorem setCursor_keptBut (p : Port) (x : Option Cursor) (s : State) : s.KeptBut e (s.setCursor p x) :=
  setPort_keptBut (fun _ => rfl) (fun _ => rfl) fun _ => rfl

theorem setNotices_keptBut {p : Port} {x : NoticeUnit} (hm : x.mask = (s.port p).notices.mask) : s.KeptBut e (s.setNotices p x) :=
  setPort_keptBut (fun _ => rfl) (fun _ => rfl) fun _ => hm

theorem answer_keptBut (p : Port) (tag : Byte) (a : Answer) (s : State) : s.KeptBut e (answer p tag a s) := setSlot_keptBut _ _ s

theorem answerPending_keptBut (p : Port) (a : Answer) (s : State) : s.KeptBut e (answerPending p a s) := by
  unfold answerPending
  split
  · exact answer_keptBut _ _ _ s
  · exact .refl e s
  · exact .refl e s

theorem dropRequest_keptBut (p : Port) (s : State) : s.KeptBut e (dropRequest p s) :=
  setPort_keptBut (fun _ => rfl) (fun _ => rfl) fun _ => rfl

theorem State.KeptBut.of_aside (h : t.aside = s.aside) (ha : e.settings = false → t.arbiter.settings = s.arbiter.settings) :
    s.KeptBut e t := by
  refine ⟨State.pending_of_aside h, fun _ => State.table_of_aside h, fun _ => State.store_of_aside h, ha,
    fun _ => (by rw [State.frame_of_aside h]), fun _ => (by rw [State.sample_of_aside h]; exact ⟨rfl, rfl⟩),
    fun _ => (by rw [State.handshake_of_aside h]), fun q _ => ?_, fun q _ => ?_, fun q _ => ?_⟩ <;> rw [State.port_of_aside h q]

theorem release_keptBut (s : State) : s.KeptBut e (release s) := .of_aside (release_aside s) fun _ => release_settings s

theorem askGrant_keptBut (a : Client) (op : TableOp) (s : State) : s.KeptBut e (askGrant a op s) :=
  .of_aside (askGrant_aside a op s) fun _ => askGrant_settings a op s

theorem setEngine_keptBut (s : State) (x : Engine) : s.KeptBut e (s.setEngine x) :=
  .of_ports rfl rfl (fun _ => rfl) (fun _ => rfl) rfl rfl ⟨rfl, rfl⟩ rfl

theorem setStore_keptBut (he : e.store = true) (s : State) (x : ProfileStore) : s.KeptBut e (s.setStore x) :=
  .of_ports rfl rfl (fun _ => rfl) (fun h => by rw [he] at h; cases h) rfl rfl ⟨rfl, rfl⟩ rfl

theorem setTable_keptBut (he : e.table = true) (s : State) (x : HeadMap) : s.KeptBut e { s with table := x } :=
  .of_ports rfl rfl (fun h => by rw [he] at h; cases h) (fun _ => rfl) rfl rfl ⟨rfl, rfl⟩ rfl

theorem setFrame_keptBut {f : PositionFrame} (h : f.count = s.frame.count) : s.KeptBut e (s.setFrame f) :=
  .of_ports rfl rfl (fun _ => rfl) (fun _ => rfl) rfl h ⟨rfl, rfl⟩ rfl

theorem setSample_keptBut {x : SamplePath} (h : x.revolutions = s.sample.revolutions ∧ x.locked = s.sample.locked) :
    s.KeptBut e (s.setSample x) := .of_ports rfl rfl (fun _ => rfl) (fun _ => rfl) rfl rfl h rfl

/-- A run of small changes stays inside an extent that holds what its scope reaches. -/
theorem Moves.keptBut (hm : Moves c s t) (hf : c.frame = true → e.count = true) (hs : c.sample = true → e.servo = true)
    (hh : c.selected = true → e.selected = true)
    (hp : ∀ q, c.ports q = true → e.attached q = true ∧ e.window q = true ∧ e.mask q = true) : s.KeptBut e t := by
  refine ⟨hm.pending, fun _ => hm.table, fun _ => hm.store, fun _ => hm.settings, fun h => ?_, fun h => ?_, fun h => ?_, fun q h => ?_,
    fun q h => ?_, fun q h => ?_⟩
  · have hk := congrArg PositionFrame.count (hm.frame (by by_contra hc; rw [hf (by simpa using hc)] at h; cases h))
    exact hk
  · have hk := hm.sample (by by_contra hc; rw [hs (by simpa using hc)] at h; cases h)
    have hr := congrArg SamplePath.revolutions hk
    have hl := congrArg SamplePath.locked hk
    exact ⟨hr, hl⟩
  · exact hm.selected (by by_contra hc; rw [hh (by simpa using hc)] at h; cases h)
  · exact hm.attached (by by_contra hc; rw [(hp q (by simpa using hc)).1] at h; cases h)
  · exact hm.window (by by_contra hc; rw [(hp q (by simpa using hc)).2.1] at h; cases h)
  · exact hm.mask (by by_contra hc; rw [(hp q (by simpa using hc)).2.2] at h; cases h)

/-- The scope of changes of jobs, completion lists and notices alone. -/
def Scope.duties : Scope := { jobs := true, lists := fun _ => true, details := true }

/-- Changes of jobs, completion lists and notices stay inside every extent. -/
theorem Moves.duties_keptBut (hm : Moves .duties s t) : s.KeptBut e t :=
  hm.keptBut (fun h => by cases h) (fun h => by cases h) (fun h => by cases h) fun q h => by cases h

theorem request_keptBut {i : Instr} {p : Port} {a : Access} {body : State → State} (hb : ∀ u : State, u.KeptBut e (body u)) (s : State) :
    s.KeptBut e (request i p a body s) := by
  obtain ⟨-, h⟩ | ⟨-, st, h⟩ | ⟨-, -, h⟩ := request_cases i p a body s <;> rw [h]
  · exact dropRequest_keptBut p s
  · exact (setSlot_keptBut _ _ s).trans (answer_keptBut _ _ _ _)
  · exact (setSlot_keptBut _ _ s).trans (hb _)

theorem Reaches.keptBut (hr : Reaches c s t) (hf : c.frame = true → e.count = true) (hs : c.sample = true → e.servo = true)
    (hh : c.selected = true → e.selected = true)
    (hp : ∀ q, c.ports q = true → e.attached q = true ∧ e.window q = true ∧ e.mask q = true) : s.KeptBut e t := by
  obtain hm | ⟨p, ⟨-, rfl⟩ | ⟨-, i, ⟨tag, a, u, hm, rfl⟩ | ⟨op, u, x, hm, -, -, rfl⟩⟩⟩ := hr
  · exact hm.keptBut hf hs hh hp
  · exact dropRequest_keptBut p s
  · exact ((setSlot_keptBut _ _ s).trans (hm.keptBut hf hs hh hp)).trans (answer_keptBut _ _ _ _)
  · exact (((setSlot_keptBut _ _ s).trans (hm.keptBut hf hs hh hp)).trans (setCursor_keptBut p x u)).trans (askGrant_keptBut _ op _)

/-! ### The requests of the ports' settings -/

/-- A command answers a next state inside its extent. -/
def Instr.KeepsFrame (i : Instr) (s : State) : Prop := ∃ t, exec i s = .next t ∧ s.KeptBut (Instr.extent i) t

theorem Instr.KeepsFrame.request {i : Instr} {p : Port} {a : Access} {body : State → State}
    (he : exec i s = .next (Machine.request i p a body s)) (h : ∀ u : State, u.KeptBut (Instr.extent i) (body u)) : Instr.KeepsFrame i s :=
  ⟨_, he, request_keptBut h s⟩

theorem pulseIfEligible_keptBut (p : Port) (s : State) : s.KeptBut e (pulseIfEligible p s) :=
  (pulseIfEligible_moves (c := .duties) p s).duties_keptBut

theorem exec_detach_keepsFrame (p : Port) (tag : Byte) (s : State) : Instr.KeepsFrame (.detach p tag) s := by
  refine .request rfl fun u => State.KeptBut.trans ?_ (answer_keptBut _ _ _ _)
  split
  · refine State.KeptBut.trans (t := setAttached p false u) (setPort_keptBut (fun h => ?_) (fun _ => rfl) fun _ => rfl)
      (setNotices_keptBut rfl)
    simp [Instr.extent] at h
  · exact .refl _ u

theorem exec_setWindow_keepsFrame (p : Port) (tag target base size : Byte) (s : State) :
    Instr.KeepsFrame (.setWindow p tag target base size) s := by
  refine .request rfl fun u => ?_
  split
  · rename_i q w hq _
    refine State.KeptBut.trans (t := setWindowOf q w u) (setPort_keptBut (fun _ => rfl) (fun h => ?_) fun _ => rfl) (answer_keptBut _ _ _ _)
    simp [Instr.extent, hq] at h
  · exact answer_keptBut _ _ _ u

theorem exec_takeNotice_keepsFrame (p : Port) (tag : Byte) (s : State) : Instr.KeepsFrame (.takeNotice p tag) s := by
  refine .request rfl fun u => ?_
  split
  · exact answer_keptBut _ _ _ u
  · exact State.KeptBut.trans (t := takeSource p _ u) (setNotices_keptBut rfl) (answer_keptBut _ _ _ _)

theorem exec_endService_keepsFrame (p : Port) (tag : Byte) (s : State) : Instr.KeepsFrame (.endService p tag) s := by
  refine .request rfl fun u => ?_
  split
  · exact answer_keptBut _ _ _ u
  · exact (State.KeptBut.trans (t := closeService p _ u) (setNotices_keptBut rfl) (pulseIfEligible_keptBut p _)).trans
      (answer_keptBut _ _ _ _)

theorem exec_setNoticeMask_keepsFrame (p : Port) (tag : Byte) (sources : BitVec 16) (s : State) :
    Instr.KeepsFrame (.setNoticeMask p tag sources) s := by
  refine .request rfl fun u => ?_
  refine (State.KeptBut.trans (t := setMask p (maskArg sources) u) (setPort_keptBut (fun _ => rfl) (fun _ => rfl) fun h => ?_)
    (pulseIfEligible_keptBut p _)).trans (answer_keptBut _ _ _ _)
  simp [Instr.extent] at h

theorem exec_setNoticeMode_keepsFrame (p : Port) (tag mode tracking base : Byte) (s : State) :
    Instr.KeepsFrame (.setNoticeMode p tag mode tracking base) s := by
  refine .request rfl fun u => ?_
  dsimp only
  split
  · refine State.KeptBut.trans ?_ (answer_keptBut _ _ _ _)
    exact State.KeptBut.trans (setNotices_keptBut (by rfl)) (pulseIfEligible_keptBut p _)
  · exact answer_keptBut _ _ _ u

theorem exec_attnPulseEnd_keepsFrame (p : Port) (s : State) : Instr.KeepsFrame (.attnPulseEnd p) s := by
  refine ⟨_, rfl, ?_⟩
  split
  · exact setNotices_keptBut rfl
  · exact setNotices_keptBut rfl
  · exact .refl _ s
  · exact .refl _ s

theorem exec_attnSecondPulse_keepsFrame (p : Port) (s : State) : Instr.KeepsFrame (.attnSecondPulse p) s := by
  refine ⟨_, rfl, ?_⟩
  split
  · exact setNotices_keptBut rfl
  · exact .refl _ s
  · exact .refl _ s

theorem exec_attach_keepsFrame (p : Port) (tag : Byte) (s : State) : Instr.KeepsFrame (.attach p tag) s := by
  refine .request rfl fun u => State.KeptBut.trans ?_ (answer_keptBut _ _ _ _)
  split
  · exact .refl _ u
  · obtain ⟨v, w, x, hm, h⟩ := postOwed_moves (c := .duties) rfl p (setAttached p true u)
    have attached : u.KeptBut (Instr.extent (.attach p tag)) (setAttached p true u) :=
      setPort_keptBut (fun h => by simp [Instr.extent] at h) (fun _ => rfl) fun _ => rfl
    have owed : u.KeptBut (Instr.extent (.attach p tag)) (postOwed p (setAttached p true u)) := by
      rw [h]
      exact (attached.trans hm.duties_keptBut).trans (setStore_keptBut rfl _ _)
    exact (owed.trans (pulseIfEligible_keptBut p _)).trans (advance_moves (c := .duties) rfl _).duties_keptBut

theorem withdrawRead_settings (q : Port) (s : State) : (withdrawRead q s).arbiter.settings = s.arbiter.settings := by
  have waiting : (withdrawWaiting q s).arbiter.settings = s.arbiter.settings := by
    unfold withdrawWaiting
    split
    · exact withdrawAsk_settings _ s
    · rfl
  rw [withdrawRead_eq]
  split
  · rw [release_settings, waiting]
  · exact waiting

theorem resetStanding_keptBut {p q : Port} (ha : e.attached q = true) (hw : e.window q = true) (hm : e.mask q = true) (s : State) :
    s.KeptBut e (resetStanding p q s) := by
  have read : s.KeptBut e (if q = p then s else withdrawRead q (dropReply q s)) := by
    split
    · exact .refl e s
    · exact (setEngine_keptBut s _).trans (.of_aside (withdrawRead_aside q (dropReply q s)) fun _ => withdrawRead_settings q _)
  have port : ∀ v x, State.KeptBut e v (v.setPort q x) := fun v x =>
    setPort_keptBut (fun h => by rw [ha] at h; cases h) (fun h => by rw [hw] at h; cases h) fun h => by rw [hm] at h; cases h
  have work := (read.trans (port _ _)).trans (clearWorkOf_moves (c := .duties) rfl q
    ((if q = p then s else withdrawRead q (dropReply q s)).setPort q
      (LinkPort.resetBy (State.port (if q = p then s else withdrawRead q (dropReply q s)) q) (q == p)))).duties_keptBut
  unfold resetStanding
  dsimp only
  split
  · exact work.trans (dropHome_moves (c := .duties) _).duties_keptBut
  · exact work

theorem exec_resetPort_keepsFrame (p : Port) (tag target : Byte) (s : State) : Instr.KeepsFrame (.resetPort p tag target) s := by
  refine .request rfl fun u => ?_
  split
  · exact answer_keptBut _ _ _ u
  · rename_i q hq
    split
    · exact answer_keptBut _ _ _ u
    · have hit : (portArg target == some q) = true := by rw [hq, beq_self_eq_true]
      have base := (withdrawAskIn_moves (c := .duties) (u.resetCase q) u).duties_keptBut.trans
        (resetStanding_keptBut (e := Instr.extent (.resetPort p tag target)) (p := p) hit hit hit _)
      unfold resetPort
      dsimp only
      split
      · exact (base.trans (endJob_moves (c := .duties) rfl (Scope.reports_of_lists (fun _ => rfl) _ _)).duties_keptBut).trans
          (answer_keptBut _ _ _ _)
      · exact (base.trans (withdrawCommit_moves (c := .duties) rfl _).duties_keptBut).trans (answer_keptBut _ _ _ _)
      · exact base.trans (setEngine_keptBut _ _)
      · exact (base.trans (advance_moves (c := .duties) rfl _).duties_keptBut).trans (answer_keptBut _ _ _ _)

/-! ### CLEAR BENCH, the reports and the Sample Path -/

theorem clearList_keptBut (p : Port) (s : State) : s.KeptBut e (clearList p s) :=
  setPort_keptBut (fun _ => rfl) (fun _ => rfl) fun _ => rfl

theorem exec_clearBench_keepsFrame (p : Port) (tag : Byte) (s : State) : Instr.KeepsFrame (.clearBench p tag) s := by
  refine .request rfl fun u => State.KeptBut.trans ?_ (askGrant_keptBut _ _ _)
  have jobs := ((clearEngine_moves (c := .duties) rfl u).trans (clearJobs_moves rfl _)).duties_keptBut
    (e := Instr.extent (.clearBench p tag))
  exact ((jobs.trans (clearList_keptBut _ _)).trans (clearList_keptBut _ _)).trans (clearList_keptBut _ _)

theorem exec_readPosition_keepsFrame (p : Port) (tag clear : Byte) (s : State) : Instr.KeepsFrame (.readPosition p tag clear) s := by
  refine .request rfl fun u => ?_
  split
  · exact answer_keptBut _ _ _ u
  · exact answer_keptBut _ _ _ u
  · split
    · exact answer_keptBut _ _ _ u
    · exact State.KeptBut.trans (t := u.setFrame { u.frame with errors := 0 }) (setFrame_keptBut rfl) (answer_keptBut _ _ _ _)

theorem exec_readServo_keepsFrame (p : Port) (tag clear : Byte) (s : State) : Instr.KeepsFrame (.readServo p tag clear) s := by
  refine .request rfl fun u => ?_
  split
  · exact answer_keptBut _ _ _ u
  · exact answer_keptBut _ _ _ u
  · split
    · exact answer_keptBut _ _ _ u
    · exact State.KeptBut.trans (t := u.setSample u.sample.cleared) (setSample_keptBut ⟨rfl, rfl⟩) (answer_keptBut _ _ _ _)

theorem exec_servoLossTimeoutExpiry_keepsFrame (s : State) : Instr.KeepsFrame .servoLossTimeoutExpiry s := by
  refine ⟨_, rfl, ?_⟩
  split
  · have expire : State.KeptBut (Instr.extent .servoLossTimeoutExpiry) s (s.setSample { s.sample with loss := .expired }) :=
      setSample_keptBut ⟨rfl, rfl⟩
    dsimp only
    split
    · exact expire.trans (endJob_moves (c := .duties) rfl (Scope.reports_of_lists (fun _ => rfl) _ _)).duties_keptBut
    · exact expire
  · exact .refl _ s
  · exact .refl _ s

theorem applyClass_moves (hc : c.jobs = true) (k : Class) (s : State) : Moves c s (applyClass k s) := by
  unfold applyClass
  split
  · exact countAccept_moves hc _ s
  · exact countReject_moves hc s
  · exact countReject_moves hc s
  · exact countReject_moves hc s
  · exact countReject_moves hc s

theorem exec_sampleTake_keepsFrame (s : State) : Instr.KeepsFrame .sampleTake s := by
  refine ⟨_, rfl, ?_⟩
  split
  · split
    · refine State.KeptBut.trans (t := s.setSample _) (setSample_keptBut ?_) (applyClass_moves (c := .duties) rfl _ _).duties_keptBut
      cases classify s.store.profile.burstFloor s.targetTrack _ <;> exact ⟨rfl, rfl⟩
    · exact .refl _ s
  · exact .refl _ s

/-! ### The arbiter and the table -/

theorem exec_setArbitration_keepsFrame (q : Port) (tag a w d p preemption holdTime : Byte) (s : State) :
    Instr.KeepsFrame (.setArbitration q tag a w d p preemption holdTime) s := by
  refine .request rfl fun u => ?_
  split
  · rename_i x on _ _
    refine State.KeptBut.trans ?_ (answer_keptBut _ _ _ _)
    exact .of_aside (by simp [setArbitration]) fun h => by cases h
  · exact answer_keptBut _ _ _ u

theorem exec_holdTimerExpiry_keepsFrame (n : Nat) (s : State) : Instr.KeepsFrame (.holdTimerExpiry n) s := by
  refine ⟨_, rfl, ?_⟩
  split
  · exact .of_aside (by simp) fun _ => by simp
  · exact .refl _ s
  · exact .refl _ s

theorem exec_blockReadAssembly_keepsFrame (s : State) : Instr.KeepsFrame .blockReadAssembly s :=
  ⟨_, rfl, .of_aside (completeAssembly_aside s) fun _ => completeAssembly_settings s⟩

theorem commitTable_keptBut (he : e.table = true) (r : SearchRecord) (part : StagedPart) (s : State) :
    s.KeptBut e (commitTable r part s) := by
  unfold commitTable
  split
  · exact .refl e s
  · dsimp only
    split
    · exact (setTable_keptBut he s _).trans (setTable_keptBut he _ _)
    · exact setTable_keptBut he s _

theorem answerAll_keptBut (l : List ResetReply) (s : State) : s.KeptBut e (answerAll l s) := by
  induction l generalizing s with
  | nil => exact .refl e s
  | cons x l ih =>
    have forget : s.KeptBut e (forgetDrops x s) := by
      unfold forgetDrops
      split
      · exact setPort_keptBut (fun _ => rfl) (fun _ => rfl) fun _ => rfl
      · exact .refl e s
    exact (forget.trans (answerPending_keptBut _ _ _)).trans (ih _)

theorem commitJob_keptBut (he : e.table = true) (r : SearchRecord) (o : JobOutcome) (part : StagedPart) (s : State) :
    s.KeptBut e (commitJob r o part s) := by
  have base := ((commitTable_keptBut he r part s).trans (release_keptBut _)).trans
    (postDrift_moves (c := .duties) rfl r.job.work.zone (s.driftFound r.job.work part)
      (s.store.profile.marks (s.driftFound r.job.work part)) _).duties_keptBut
  unfold commitJob endCommit
  dsimp only
  split
  · exact ((base.trans ((clearActive_moves (c := .duties) rfl r _).trans (afterJob_moves rfl _ _ _)).duties_keptBut).trans
      (setEngine_keptBut _ _)).trans (answerAll_keptBut _ _)
  · exact base.trans ((((writeRecord_moves (c := .duties) rfl _ _).trans (clearActive_moves rfl r _)).trans
      (accountEnd_moves rfl _ _)).trans (afterJob_moves rfl _ _ _)).duties_keptBut

theorem exec_commit_keepsFrame (s : State) : Instr.KeepsFrame .commit s := by
  refine ⟨_, rfl, ?_⟩
  split
  · split
    · exact commitJob_keptBut rfl _ _ _ s
    · exact .refl _ s
  · exact .refl _ s

theorem publishTable_keptBut (he : e.table = true) (s : State) : s.KeptBut e (publishTable s) :=
  ((setTable_keptBut he s _).trans (setTable_keptBut he _ _)).trans (setTable_keptBut he _ _)

theorem exec_groupEndPublish_keepsFrame (s : State) : Instr.KeepsFrame .groupEndPublish s := by
  refine ⟨_, rfl, ?_⟩
  split
  · exact ((publishTable_keptBut rfl s).trans (release_keptBut _)).trans (((postWD_moves (c := .duties) rfl _ _ _).trans
      (removePublished_moves rfl _)).trans (leavePublish_moves rfl _)).duties_keptBut
  · exact .refl _ s

theorem endOperation_keptBut (he : e.table = true) (p : Port) (op : TableOp) (s : State) : s.KeptBut e (endOperation p op s) := by
  have ends : ∀ u a, s.KeptBut e u → s.KeptBut e (answerPending p a (release u)) := fun u a hu =>
    (hu.trans (release_keptBut u)).trans (answerPending_keptBut p a _)
  unfold endOperation
  split
  · exact (((publishTable_keptBut he s).trans (release_keptBut _)).trans (postWD_moves (c := .duties) rfl _ _ _).duties_keptBut).trans
      (answerPending_keptBut _ _ _)
  · exact ends _ _ (setTable_keptBut he s _)
  · exact ends _ _ (setTable_keptBut he s _)
  · exact ends _ _ (setTable_keptBut he s _)
  · exact ends _ _ (setTable_keptBut he s _)
  · unfold endClearEntry
    split
    · exact ends _ _ (setTable_keptBut he s _)
    · exact ends _ _ (.refl e s)
  · exact ends _ _ (setTable_keptBut he s _)
  · exact ends _ _ (setTable_keptBut he s _)
  · exact ends _ _ (.refl e s)
  · exact .refl e s
  · exact .refl e s
  · exact .refl e s
  · exact .refl e s
  · exact .refl e s

theorem exec_tableOperationEnd_keepsFrame (s : State) : Instr.KeepsFrame .tableOperationEnd s := by
  refine ⟨_, rfl, ?_⟩
  split
  · split
    · exact endOperation_keptBut rfl _ _ s
    · exact .refl _ s
  · exact .refl _ s

/-! ### The Profile Store -/

theorem exec_selectProfile_keepsFrame (p : Port) (tag slot : Byte) (s : State) : Instr.KeepsFrame (.selectProfile p tag slot) s := by
  refine .request rfl fun u => ?_
  split
  · exact answer_keptBut _ _ _ u
  · split
    · exact answer_keptBut _ _ _ u
    · exact setStore_keptBut rfl u _

theorem exec_saveProfile_keepsFrame (p : Port) (tag slot : Byte) (s : State) : Instr.KeepsFrame (.saveProfile p tag slot) s := by
  refine .request rfl fun u => ?_
  split
  · exact answer_keptBut _ _ _ u
  · split
    · exact answer_keptBut _ _ _ u
    · split
      · exact answer_keptBut _ _ _ u
      · exact setStore_keptBut rfl u _

theorem testTravel_keptBut (s : State) : s.KeptBut e (testTravel s) := by
  have look : ∀ x, s.KeptBut e { s with frame := { s.frame with travel := x } } := fun x => setFrame_keptBut rfl
  unfold testTravel
  dsimp only
  split
  · split
    · exact ((look _).trans (postFault_moves (c := .duties) rfl _ _).duties_keptBut).trans
        (takeFault_moves (c := .duties) rfl (Scope.reports_of_lists (fun _ => rfl) _ _)).duties_keptBut
    · exact look _
  · exact .refl e s

theorem unalign_keptBut (s : State) : s.KeptBut e (unalign s) := setSample_keptBut ⟨rfl, rfl⟩

theorem paramEffects_keptBut (n : Nat) (s : State) : s.KeptBut e (paramEffects n s) := by
  unfold paramEffects
  split
  · exact unalign_keptBut s
  · split
    · exact (clearDrift_moves (c := .duties) rfl s).duties_keptBut
    · split
      · exact setFrame_keptBut rfl
      · split
        · exact testTravel_keptBut s
        · exact .refl e s

theorem exec_setParameter_keepsFrame (p : Port) (tag number index : Byte) (value : ValueWord) (s : State) :
    Instr.KeepsFrame (.setParameter p tag number index value) s := by
  refine .request rfl fun u => ?_
  split
  · exact answer_keptBut _ _ _ u
  · split
    · exact answer_keptBut _ _ _ u
    · split
      · exact answer_keptBut _ _ _ u
      · unfold setParameter
        dsimp only
        split
        · exact ((setStore_keptBut rfl u _).trans (paramEffects_keptBut _ _)).trans (askGrant_keptBut _ _ _)
        · exact ((setStore_keptBut rfl u _).trans (paramEffects_keptBut _ _)).trans (answer_keptBut _ _ _ _)

theorem postOrOwe_keptBut (he : e.store = true) (p : Port) (slot : Nat) (s : State) : s.KeptBut e (postOrOwe p slot s) := by
  obtain ⟨u, w, x, hm, h⟩ := postOrOwe_moves (c := .duties) rfl p slot s
  rw [h]
  exact hm.duties_keptBut.trans (setStore_keptBut he _ _)

theorem completeLoad_keptBut (he : e.store = true) (slot : Nat) (loaded : Option Profile) (s : State) :
    s.KeptBut e (completeLoad slot loaded s) := by
  have effects : s.KeptBut e (loadEffects s) :=
    ((dropHome_moves (c := .duties) s).trans (clearDrift_moves rfl _)).duties_keptBut.trans (unalign_keptBut _)
  unfold completeLoad
  split
  · refine (effects.trans ?_).trans (advance_moves (c := .duties) rfl _).duties_keptBut
    have length : ∀ v : State, v.KeptBut e { v with frame := { v.frame with filterLength := v.store.profile.filterLength } } :=
      fun v => setFrame_keptBut rfl
    have timers : ∀ v : State, v.KeptBut e (startSampleTimers v) := fun v => setSample_keptBut ⟨rfl, rfl⟩
    unfold goodLoad
    dsimp only
    split
    · exact ((setStore_keptBut he _ _).trans (length _)).trans (testTravel_keptBut _)
    · exact (((setStore_keptBut he _ _).trans (length _)).trans (timers _)).trans (testTravel_keptBut _)
  · have stop : ∀ v : State, v.KeptBut e { v with
        frame := { v.frame with travel := .untested }
        sample := { v.sample with window := .stopped, loss := .stopped } } := fun v =>
      .of_ports rfl rfl (fun _ => rfl) (fun _ => rfl) rfl rfl ⟨rfl, rfl⟩ rfl
    exact ((((effects.trans (setStore_keptBut he _ _)).trans (stop _)).trans (postOrOwe_keptBut he _ _ _))).trans (postOrOwe_keptBut he _ _ _)

theorem exec_profileLoadComplete_keepsFrame (b : Option Byte) (image : Option (List Byte)) (s : State) :
    Instr.KeepsFrame (.profileLoadComplete b image) s := by
  refine ⟨_, rfl, ?_⟩
  split
  · dsimp only
    split
    · exact (completeLoad_keptBut rfl _ _ s).trans (setTable_keptBut rfl _ _)
    · exact (completeLoad_keptBut rfl _ _ s).trans (askGrant_keptBut _ _ _)
  · exact .refl _ s
  · exact .refl _ s
  · exact .refl _ s

theorem exec_profileSaveComplete_keepsFrame (x : Option (List Byte)) (s : State) : Instr.KeepsFrame (.profileSaveComplete x) s := by
  refine ⟨_, rfl, ?_⟩
  split
  · have saved := (setStore_keptBut (e := Instr.extent (.profileSaveComplete x)) rfl s { s.store with state := .ready }).trans
      (advance_moves (c := .duties) rfl _).duties_keptBut
    refine State.KeptBut.trans ?_ (answerPending_keptBut _ _ _)
    split
    · exact saved
    · exact saved.trans (postFault_moves (c := .duties) rfl _ _).duties_keptBut
  · exact .refl _ s
  · exact .refl _ s
  · exact .refl _ s

theorem exec_responseRead_keepsFrame (p : Port) (clocked : Nat) (s : State) : Instr.KeepsFrame (.responseRead p clocked) s := by
  refine ⟨_, rfl, ?_⟩
  split
  · split
    · exact setPort_keptBut (fun _ => rfl) (fun _ => rfl) fun _ => rfl
    · exact .refl _ s
  · exact .refl _ s
  · exact .refl _ s

theorem exec_resetnRelease_keepsFrame (s : State) : Instr.KeepsFrame .resetnRelease s := by
  refine ⟨_, rfl, rfl, fun h => ?_, fun h => ?_, fun h => ?_, fun h => ?_, fun h => ?_, fun h => ?_, fun _ h => ?_, fun _ h => ?_,
    fun _ h => ?_⟩ <;> cases h

/-! ### Together -/

/-- A command whose reach lies inside its extent keeps its frame. -/
theorem Instr.KeepsFrame.of_reach {i : Instr} (h : Instr.reach i = some c) (hf : c.frame = true → (Instr.extent i).count = true)
    (hs : c.sample = true → (Instr.extent i).servo = true) (hh : c.selected = true → (Instr.extent i).selected = true)
    (hp : ∀ q, c.ports q = true → (Instr.extent i).attached q = true ∧ (Instr.extent i).window q = true ∧ (Instr.extent i).mask q = true) (s : State) :
    Instr.KeepsFrame i s := by
  obtain ⟨t, ht, hr⟩ := exec_within h s
  exact ⟨t, ht, hr.keptBut hf hs hh hp⟩

/-- Every command completes, inside its extent. -/
theorem exec_keepsFrame (i : Instr) (s : State) : Instr.KeepsFrame i s := by
  cases i
  case resetnRelease => exact exec_resetnRelease_keepsFrame s
  case attach => exact exec_attach_keepsFrame _ _ s
  case detach => exact exec_detach_keepsFrame _ _ s
  case setWindow => exact exec_setWindow_keepsFrame _ _ _ _ _ s
  case resetPort => exact exec_resetPort_keepsFrame _ _ _ s
  case takeNotice => exact exec_takeNotice_keepsFrame _ _ s
  case endService => exact exec_endService_keepsFrame _ _ s
  case setNoticeMask => exact exec_setNoticeMask_keepsFrame _ _ _ s
  case setNoticeMode => exact exec_setNoticeMode_keepsFrame _ _ _ _ _ s
  case attnPulseEnd => exact exec_attnPulseEnd_keepsFrame _ s
  case attnSecondPulse => exact exec_attnSecondPulse_keepsFrame _ s
  case clearBench => exact exec_clearBench_keepsFrame _ _ s
  case readPosition => exact exec_readPosition_keepsFrame _ _ _ s
  case readServo => exact exec_readServo_keepsFrame _ _ _ s
  case servoLossTimeoutExpiry => exact exec_servoLossTimeoutExpiry_keepsFrame s
  case sampleTake => exact exec_sampleTake_keepsFrame s
  case setArbitration => exact exec_setArbitration_keepsFrame _ _ _ _ _ _ _ _ s
  case holdTimerExpiry => exact exec_holdTimerExpiry_keepsFrame _ s
  case blockReadAssembly => exact exec_blockReadAssembly_keepsFrame s
  case commit => exact exec_commit_keepsFrame s
  case groupEndPublish => exact exec_groupEndPublish_keepsFrame s
  case tableOperationEnd => exact exec_tableOperationEnd_keepsFrame s
  case selectProfile => exact exec_selectProfile_keepsFrame _ _ _ s
  case saveProfile => exact exec_saveProfile_keepsFrame _ _ _ s
  case setParameter => exact exec_setParameter_keepsFrame _ _ _ _ _ s
  case profileLoadComplete => exact exec_profileLoadComplete_keepsFrame _ _ s
  case profileSaveComplete => exact exec_profileSaveComplete_keepsFrame _ s
  case responseRead => exact exec_responseRead_keepsFrame _ _ s
  all_goals
    refine .of_reach rfl (fun h => ?_) (fun h => ?_) (fun h => ?_) (fun _ h => ?_) s <;> try rfl
    all_goals cases h

/-! ### The extents as CommandsKeepTheirFrame lists them -/

theorem Instr.extent_table {i : Instr} (h : (Instr.extent i).table = true) : i = .resetnRelease ∨ i = .commit ∨ i = .groupEndPublish
    ∨ i = .tableOperationEnd ∨ ∃ b image, i = .profileLoadComplete b image := by
  cases i <;> try contradiction
  all_goals simp

theorem Instr.extent_store {i : Instr} (h : (Instr.extent i).store = true) : i = .resetnRelease ∨ (∃ b image, i = .profileLoadComplete b image)
    ∨ (∃ image, i = .profileSaveComplete image) ∨ (∃ p tag, i = .attach p tag) ∨ (∃ p tag n, i = .selectProfile p tag n)
    ∨ (∃ p tag n, i = .saveProfile p tag n) ∨ ∃ p tag n k v, i = .setParameter p tag n k v := by
  cases i <;> try contradiction
  all_goals simp

theorem Instr.extent_settings {i : Instr} (h : (Instr.extent i).settings = true) :
    i = .resetnRelease ∨ ∃ q tag e w d p on hold, i = .setArbitration q tag e w d p on hold := by
  cases i <;> try contradiction
  all_goals simp

theorem Instr.extent_count {i : Instr} (h : (Instr.extent i).count = true) : i = .resetnRelease ∨ ∃ a b z pf, i = .filterSample a b z pf := by
  cases i <;> try contradiction
  all_goals simp

theorem Instr.extent_servo {i : Instr} (h : (Instr.extent i).servo = true) :
    i = .resetnRelease ∨ (∃ w, i = .wedgeRecord w) ∨ i = .wedgeWindowExpiry ∨ i = .indexPulse := by
  cases i <;> try contradiction
  all_goals simp

theorem Instr.extent_selected {i : Instr} (h : (Instr.extent i).selected = true) :
    i = .resetnRelease ∨ ∃ p tag n h, i = .headSelected p tag n h := by
  cases i <;> try contradiction
  all_goals simp

theorem Instr.extent_attached {i : Instr} {q : Port} (h : (Instr.extent i).attached q = true) : i = .resetnRelease
    ∨ (∃ tag, i = .attach q tag ∨ i = .detach q tag) ∨ ∃ p tag target, i = .resetPort p tag target ∧ portArg target = some q := by
  cases i <;> try contradiction
  all_goals simp_all [Instr.extent]

theorem Instr.extent_window {i : Instr} {q : Port} (h : (Instr.extent i).window q = true) : i = .resetnRelease
    ∨ (∃ p tag target base size, i = .setWindow p tag target base size ∧ portArg target = some q)
    ∨ ∃ p tag target, i = .resetPort p tag target ∧ portArg target = some q := by
  cases i <;> try contradiction
  all_goals simp_all [Instr.extent]

theorem Instr.extent_mask {i : Instr} {q : Port} (h : (Instr.extent i).mask q = true) : i = .resetnRelease
    ∨ (∃ tag m, i = .setNoticeMask q tag m) ∨ ∃ p tag target, i = .resetPort p tag target ∧ portArg target = some q := by
  cases i <;> try contradiction
  all_goals simp_all [Instr.extent]

/-- A part that lies outside an extent, or a command whose extent holds it. -/
theorem kept_or {b : Bool} {P Q : Prop} (hP : b = false → P) (hQ : b = true → Q) : P ∨ Q := by
  cases b with
  | false => exact .inl (hP rfl)
  | true => exact .inr (hQ rfl)

/-- Settles O3: every command stays inside its extent, and the extents are the lists of the statement. -/
theorem commandsKeepTheirFrame : Obligations.CommandsKeepTheirFrame := by
  intro i s
  obtain ⟨t, ht, h⟩ := exec_keepsFrame i s
  have settings : (Instr.extent i).settings = false → t.arbiter.priority = s.arbiter.priority ∧ t.arbiter.preemption = s.arbiter.preemption
      ∧ t.arbiter.holdTime = s.arbiter.holdTime := fun he => by
    simpa [Arbiter.settings] using h.settings he
  exact ⟨t, ht, h.pending, kept_or h.table Instr.extent_table, kept_or h.store Instr.extent_store,
    kept_or settings Instr.extent_settings, kept_or h.count Instr.extent_count, kept_or h.servo Instr.extent_servo,
    kept_or h.selected Instr.extent_selected, fun q => ⟨kept_or (h.attached q) Instr.extent_attached,
      kept_or (h.window q) Instr.extent_window, kept_or (h.mask q) Instr.extent_mask⟩⟩

end Sys2Proof.Machine
end

section
/-! SUPPORT. Where the jobs stand and what their entries' statuses say (R2, R28): the pairing of jobs with statuses as a list, and what
each operation of the queue and the engine does to it. -/

namespace Sys2Proof.Machine

/-! ### Statuses that agree with a list of jobs -/

/-- The list of all statuses with the status of the entry a job names replaced. -/
def JobWork.mark (w : JobWork) (st : EntryStatus) (v : Vector EntryStatus 192) : Vector EntryStatus 192 :=
  match w.place with
  | some (h, z) => v.setIfInBounds (entryIndex h z) st
  | none => v

theorem setStatus_eq (w : JobWork) (st : EntryStatus) (s : State) : setStatus w st s = { s with statuses := w.mark st s.statuses } := by
  unfold setStatus JobWork.mark
  rcases w.place with _ | ⟨h, z⟩ <;> rfl

/-- The statuses agree with a list of jobs and the statuses they give their entries: each entry has the status of the one job that
names it, and is IDLE where none does. -/
structure Stands (v : Vector EntryStatus 192) (l : List (EntryStatus × JobRecord)) : Prop where
  distinct : (l.filterMap fun x => x.2.work.index).Nodup
  placed : ∀ x ∈ l, ∀ h z, x.2.work.place = some (h, z) → h < 16 ∧ z < 12
  busy : ∀ x ∈ l, x.1 ≠ .idle
  marked : ∀ x ∈ l, ∀ i, x.2.work.index = some i → (v[i]?).getD .idle = x.1
  held : ∀ i, i < 192 → (v[i]?).getD .idle ≠ .idle → ∃ x ∈ l, x.2.work.index = some i

variable {v : Vector EntryStatus 192} {l l' : List (EntryStatus × JobRecord)} {st st' : EntryStatus} {j j' : JobRecord}

theorem Stands.perm (h : Stands v l) (hp : l.Perm l') : Stands v l' where
  distinct := (hp.filterMap _).nodup_iff.mp h.distinct
  placed x hx := h.placed x (hp.mem_iff.mpr hx)
  busy x hx := h.busy x (hp.mem_iff.mpr hx)
  marked x hx := h.marked x (hp.mem_iff.mpr hx)
  held i hi hv := by
    obtain ⟨x, hx, he⟩ := h.held i hi hv
    exact ⟨x, hp.mem_iff.mp hx, he⟩

theorem JobWork.index_eq_some {w : JobWork} {i : Nat} : w.index = some i ↔ ∃ h z, w.place = some (h, z) ∧ entryIndex h z = i := by
  unfold JobWork.index
  rcases w.place with _ | ⟨h, z⟩ <;> simp

theorem JobWork.index_of_place {w : JobWork} {h z : Nat} (hp : w.place = some (h, z)) : w.index = some (entryIndex h z) :=
  JobWork.index_eq_some.mpr ⟨h, z, hp, rfl⟩

theorem entryIndex_lt {h z : Nat} (hh : h < 16) (hz : z < 12) : entryIndex h z < 192 := by
  unfold entryIndex
  omega

/-- Two places that lie in the table and have one index are one place. -/
theorem entryIndex_inj {h z h' z' : Nat} (hz : z < 12) (hz' : z' < 12) (he : entryIndex h z = entryIndex h' z') : h = h' ∧ z = z' := by
  unfold entryIndex at he
  omega

theorem JobWork.mark_index {w : JobWork} {i : Nat} (hi : w.index = some i) (hl : i < 192) (st : EntryStatus) (v : Vector EntryStatus 192) :
    ((w.mark st v)[i]?).getD .idle = st := by
  obtain ⟨h, z, hp, rfl⟩ := JobWork.index_eq_some.mp hi
  simp [JobWork.mark, hp, hl]

theorem JobWork.mark_other {w : JobWork} {i : Nat} (hi : w.index ≠ some i) (st : EntryStatus) (v : Vector EntryStatus 192) :
    (w.mark st v)[i]? = v[i]? := by
  unfold JobWork.mark
  split
  · rename_i h z hp
    have hne : entryIndex h z ≠ i := fun he => hi (he ▸ JobWork.index_of_place hp)
    simp [hne]
  · rfl

theorem Stands.index_lt (h : Stands v l) {x : EntryStatus × JobRecord} (hx : x ∈ l) {i : Nat} (hi : x.2.work.index = some i) :
    i < 192 := by
  obtain ⟨a, b, hp, rfl⟩ := JobWork.index_eq_some.mp hi
  obtain ⟨ha, hb⟩ := h.placed x hx a b hp
  exact entryIndex_lt ha hb

/-- The entry of the first job is named by no other. -/
theorem Stands.apart (h : Stands v ((st, j) :: l)) {i : Nat} (hi : j.work.index = some i) {x : EntryStatus × JobRecord} (hx : x ∈ l) :
    x.2.work.index ≠ some i := by
  intro he
  have hd := h.distinct
  rw [List.filterMap_cons_some (by exact hi), List.nodup_cons] at hd
  exact hd.1 (List.mem_filterMap.mpr ⟨x, hx, he⟩)

/-- A job leaves, its entry returning to IDLE. -/
theorem Stands.drop (h : Stands v ((st, j) :: l)) : Stands (j.work.mark .idle v) l where
  distinct := by
    have hd := h.distinct
    rw [List.filterMap_cons] at hd
    split at hd
    · exact hd
    · exact hd.of_cons
  placed x hx := h.placed x (List.mem_cons_of_mem _ hx)
  busy x hx := h.busy x (List.mem_cons_of_mem _ hx)
  marked x hx i hi := by
    rw [JobWork.mark_other fun he => h.apart he hx hi]
    exact h.marked x (List.mem_cons_of_mem _ hx) i hi
  held i hi hv := by
    by_cases he : j.work.index = some i
    · exact absurd (JobWork.mark_index he hi .idle v) hv
    · rw [JobWork.mark_other he] at hv
      obtain ⟨x, hx, hxi⟩ := h.held i hi hv
      obtain rfl | hx := List.mem_cons.mp hx
      · exact absurd hxi he
      · exact ⟨x, hx, hxi⟩

/-- A job whose entry is IDLE joins. -/
theorem Stands.join (h : Stands v l) (hs : st ≠ .idle) (hp : ∀ a b, j.work.place = some (a, b) → a < 16 ∧ b < 12)
    (hv : ∀ i, j.work.index = some i → (v[i]?).getD .idle = .idle) : Stands (j.work.mark st v) ((st, j) :: l) := by
  have none_names : ∀ x ∈ l, ∀ i, x.2.work.index = some i → j.work.index ≠ some i := fun x hx i hi he =>
    h.busy x hx ((h.marked x hx i hi).symm.trans (hv i he))
  have bound : ∀ i, j.work.index = some i → i < 192 := fun i hi => by
    obtain ⟨a, b, hab, rfl⟩ := JobWork.index_eq_some.mp hi
    exact entryIndex_lt (hp a b hab).1 (hp a b hab).2
  refine ⟨?_, ?_, ?_, ?_, ?_⟩
  · rw [List.filterMap_cons]
    split
    · exact h.distinct
    · rename_i i hi
      refine List.nodup_cons.mpr ⟨fun hm => ?_, h.distinct⟩
      obtain ⟨x, hx, hxi⟩ := List.mem_filterMap.mp hm
      exact none_names x hx i hxi hi
  · intro x hx
    obtain rfl | hx := List.mem_cons.mp hx
    · exact hp
    · exact h.placed x hx
  · intro x hx
    obtain rfl | hx := List.mem_cons.mp hx
    · exact hs
    · exact h.busy x hx
  · intro x hx i hi
    obtain rfl | hx := List.mem_cons.mp hx
    · exact JobWork.mark_index hi (bound i hi) st v
    · rw [JobWork.mark_other (none_names x hx i hi)]
      exact h.marked x hx i hi
  · intro i hi hv'
    by_cases he : j.work.index = some i
    · exact ⟨(st, j), List.mem_cons_self, he⟩
    · rw [JobWork.mark_other he] at hv'
      obtain ⟨x, hx, hxi⟩ := h.held i hi hv'
      exact ⟨x, List.mem_cons_of_mem _ hx, hxi⟩

theorem JobWork.mark_mark (w : JobWork) (st st' : EntryStatus) (v : Vector EntryStatus 192) :
    w.mark st' (w.mark st v) = w.mark st' v := by
  unfold JobWork.mark
  split
  · ext i hi
    simp only [Vector.getElem_setIfInBounds]
    split <;> rfl
  · rfl

/-- A job turns from one place to another, its entry's status with it. -/
theorem Stands.turn (h : Stands v ((st, j) :: l)) (hs : st' ≠ .idle) : Stands (j.work.mark st' v) ((st', j) :: l) := by
  have hk := h.drop.join (j := j) hs (h.placed (st, j) List.mem_cons_self) fun i hi =>
    JobWork.mark_index hi (h.index_lt List.mem_cons_self hi) _ _
  rwa [JobWork.mark_mark] at hk

/-! ### Where the jobs stand -/

/-- The queued and the stacked jobs, with the statuses they give. -/
def Work.parked (w : Work) : List (EntryStatus × JobRecord) := w.queue.map (Prod.mk .queued) ++ w.stack.map (Prod.mk .suspended)

/-- All jobs, with the statuses they give. -/
def Work.stationed (w : Work) : List (EntryStatus × JobRecord) := w.active.toList.map (Prod.mk .measuring) ++ w.parked

/-- The statuses agree with the jobs (R2), and what the automatic check needs to stay in the table (R137). -/
structure Work.agrees (w : Work) (pr : Profile) : Prop where
  stands : Stands w.statuses w.stationed
  zone : ∀ z, w.zone = some z → z < 12
  head : pr.referenceHead < 16
  zones : pr.zoneCount ≤ 12

/-- A job is active exactly in the states that work on one and in COMMIT (R28). -/
def Work.manned (w : Work) : Prop := w.active.isSome = true ↔ w.state.working = true ∨ w.state = .commit

/-- The statuses agree with the jobs. -/
def State.agrees (s : State) : Prop := s.work.agrees s.store.profile

/-- The statuses agree with the jobs, and the engine state with the active job. -/
def State.steady (s : State) : Prop := s.agrees ∧ s.work.manned

variable {c : Scope} {s t : State}

theorem Stands.status_iff (h : Stands v l) {i : Nat} (hi : i < 192) (hs : st ≠ .idle) :
    (v[i]?).getD .idle = st ↔ ∃ j, (st, j) ∈ l ∧ j.work.index = some i := by
  constructor
  · intro hv
    obtain ⟨x, hx, hxi⟩ := h.held i hi (hv ▸ hs)
    obtain rfl : st = x.1 := hv.symm.trans (h.marked x hx i hxi)
    exact ⟨x.2, hx, hxi⟩
  · rintro ⟨j, hj, hji⟩
    exact h.marked (st, j) hj i hji

theorem State.queued_mem_stationed (s : State) : (EntryStatus.queued, j) ∈ s.work.stationed ↔ j ∈ s.jobs.queue := by
  simp [Work.stationed, Work.parked, State.work]

theorem State.measuring_mem_stationed (s : State) :
    (EntryStatus.measuring, j) ∈ s.work.stationed ↔ ∃ r, s.engine.active = some r ∧ r.job = j := by
  simp [Work.stationed, Work.parked, State.work]

theorem State.suspended_mem_stationed (s : State) : (EntryStatus.suspended, j) ∈ s.work.stationed ↔ ∃ r ∈ s.stack, r.job = j := by
  simp [Work.stationed, Work.parked, State.work]

theorem State.idle_not_mem_stationed (s : State) : (EntryStatus.idle, j) ∉ s.work.stationed := by
  simp [Work.stationed, Work.parked]

theorem State.stationed_jobs (s : State) : (s.work.stationed.map Prod.snd).Perm s.heldJobs := by
  have hl : s.work.stationed.map Prod.snd
      = (s.engine.active.map SearchRecord.job).toList ++ (s.jobs.queue ++ s.stack.map SearchRecord.job) := by
    simp [Work.stationed, Work.parked, State.work, Function.comp_def]
  rw [hl, State.heldJobs, ← List.append_assoc]
  exact List.perm_append_comm.append_right _

theorem State.mem_heldJobs (s : State) : j ∈ s.heldJobs ↔ ∃ x ∈ s.work.stationed, x.2 = j := by
  rw [← s.stationed_jobs.mem_iff, List.mem_map]

theorem State.stationed_nodup (s : State) :
    (s.work.stationed.filterMap fun x => x.2.work.index).Nodup ↔ (s.heldJobs.filterMap fun j => j.work.index).Nodup := by
  rw [← (s.stationed_jobs.filterMap _).nodup_iff, List.filterMap_map]
  rfl

/-- The statement of R2 about the statuses is that they agree with where the jobs stand. -/
theorem State.statusesSound_iff (hp : s.store.profile.referenceHead < 16) (hz : s.store.profile.zoneCount ≤ 12) :
    s.statusesSound ↔ s.agrees := by
  constructor
  · rintro ⟨hd, hb, hzone, hst⟩
    have placed : ∀ x ∈ s.work.stationed, ∀ h z, x.2.work.place = some (h, z) → h < 16 ∧ z < 12 := fun x hx =>
      hb x.2 (s.mem_heldJobs.mpr ⟨x, hx, rfl⟩)
    have status : ∀ x ∈ s.work.stationed, ∀ i, x.2.work.index = some i → i < 192 → (s.statuses[i]?).getD .idle = x.1 := by
      rintro ⟨k, j⟩ hx i hi hl
      obtain ⟨hq, hm, hs⟩ := hst i hl
      cases k with
      | idle => exact absurd hx s.idle_not_mem_stationed
      | queued => exact hq.mpr ⟨j, s.queued_mem_stationed.mp hx, hi⟩
      | measuring =>
        obtain ⟨r, hr, rfl⟩ := s.measuring_mem_stationed.mp hx
        exact hm.mpr ⟨r, hr, hi⟩
      | suspended =>
        obtain ⟨r, hr, rfl⟩ := s.suspended_mem_stationed.mp hx
        exact hs.mpr ⟨r, hr, hi⟩
    refine ⟨⟨s.stationed_nodup.mpr hd, placed, ?_, fun x hx i hi => ?_, fun i hi hv => ?_⟩, hzone, hp, hz⟩
    · rintro ⟨k, j⟩ hx rfl
      exact s.idle_not_mem_stationed hx
    · obtain ⟨a, b, hab, rfl⟩ := JobWork.index_eq_some.mp hi
      obtain ⟨ha, hb⟩ := placed x hx a b hab
      exact status x hx _ hi (entryIndex_lt ha hb)
    · obtain ⟨hq, hm, hs⟩ := hst i hi
      cases hc : (s.statuses[i]?).getD .idle with
      | idle => exact absurd hc hv
      | queued =>
        obtain ⟨j, hj, hji⟩ := hq.mp hc
        exact ⟨(.queued, j), s.queued_mem_stationed.mpr hj, hji⟩
      | measuring =>
        obtain ⟨r, hr, hji⟩ := hm.mp hc
        exact ⟨(.measuring, r.job), s.measuring_mem_stationed.mpr ⟨r, hr, rfl⟩, hji⟩
      | suspended =>
        obtain ⟨r, hr, hji⟩ := hs.mp hc
        exact ⟨(.suspended, r.job), s.suspended_mem_stationed.mpr ⟨r, hr, rfl⟩, hji⟩
  · rintro ⟨h, hzone, -, -⟩
    refine ⟨s.stationed_nodup.mp h.distinct, fun j hj => ?_, hzone, fun i hi => ⟨?_, ?_, ?_⟩⟩
    · obtain ⟨x, hx, rfl⟩ := s.mem_heldJobs.mp hj
      exact h.placed x hx
    · exact (h.status_iff hi (st := .queued) (by decide)).trans (by simp only [s.queued_mem_stationed])
    · refine (h.status_iff hi (st := .measuring) (by decide)).trans ⟨?_, fun ⟨r, hr, hri⟩ => ?_⟩
      · rintro ⟨j, hj, hji⟩
        obtain ⟨r, hr, rfl⟩ := s.measuring_mem_stationed.mp hj
        exact ⟨r, hr, hji⟩
      · exact ⟨r.job, s.measuring_mem_stationed.mpr ⟨r, hr, rfl⟩, hri⟩
    · refine (h.status_iff hi (st := .suspended) (by decide)).trans ⟨?_, fun ⟨r, hr, hri⟩ => ?_⟩
      · rintro ⟨j, hj, hji⟩
        obtain ⟨r, hr, rfl⟩ := s.suspended_mem_stationed.mp hj
        exact ⟨r, hr, hji⟩
      · exact ⟨r.job, s.suspended_mem_stationed.mpr ⟨r, hr, rfl⟩, hri⟩

end Sys2Proof.Machine
end

section
/-! SUPPORT. Every operation of the queue and of the engine leaves statuses and jobs in agreement (R2, R28). -/

namespace Sys2Proof.Machine

variable {c : Scope} {s t : State} {w : Work} {pr : Profile} {j : JobRecord} {v : Vector EntryStatus 192}

/-! ### The jobs, rearranged -/

theorem Work.parked_queue {q : List JobRecord} (h : w.queue.Perm (j :: q)) :
    w.parked.Perm ((.queued, j) :: { w with queue := q }.parked) := (h.map _).append_right _

theorem Work.parked_stack {l : List JobRecord} (h : w.stack.Perm (j :: l)) :
    w.parked.Perm ((.suspended, j) :: { w with stack := l }.parked) := ((h.map _).append_left _).trans List.perm_middle

theorem Work.stationed_of_parked {l : List (EntryStatus × JobRecord)} {x : EntryStatus × JobRecord} (h : w.parked.Perm (x :: l)) :
    w.stationed.Perm (x :: (w.active.toList.map (Prod.mk .measuring) ++ l)) := (h.append_left _).trans List.perm_middle

theorem Work.stationed_queue {q : List JobRecord} (h : w.queue.Perm (j :: q)) :
    w.stationed.Perm ((.queued, j) :: { w with queue := q }.stationed) := Work.stationed_of_parked (Work.parked_queue h)

theorem Work.stationed_stack {l : List JobRecord} (h : w.stack.Perm (j :: l)) :
    w.stationed.Perm ((.suspended, j) :: { w with stack := l }.stationed) := Work.stationed_of_parked (Work.parked_stack h)

theorem Work.stationed_active (h : w.active = some j) : w.stationed = (.measuring, j) :: w.parked := by
  simp [Work.stationed, h]

theorem Work.stationed_inactive (h : w.active = none) : w.stationed = w.parked := by
  simp [Work.stationed, h]

/-- A list without the one element that has a key. -/
theorem perm_cons_filter {α : Type} {f : α → Nat} {l : List α} (h : (l.map f).Nodup) {x : α} (hx : x ∈ l) :
    l.Perm (x :: l.filter fun y => f y != f x) := by
  induction l with
  | nil => cases hx
  | cons y l ih =>
    rw [List.map_cons, List.nodup_cons] at h
    obtain rfl | hx := List.mem_cons.mp hx
    · have others : l.filter (fun y => f y != f x) = l := List.filter_eq_self.mpr fun y hy => by
        simpa using fun he => h.1 (List.mem_map.mpr ⟨y, hy, he⟩)
      rw [List.filter_cons_of_neg (by simp), others]
    · have hne : f y ≠ f x := fun he => h.1 (List.mem_map.mpr ⟨x, hx, he.symm⟩)
      rw [List.filter_cons_of_pos (by simpa using hne)]
      exact ((ih h.2 hx).cons y).trans (List.Perm.swap x y _)

theorem nodup_filter_map {α : Type} {f : α → Nat} {l : List α} (h : (l.map f).Nodup) (p : α → Bool) : ((l.filter p).map f).Nodup :=
  h.sublist (List.filter_sublist.map f)

/-! ### Runs that leave the jobs -/

/-- Every change but that of jobs. -/
def Scope.still : Scope :=
  { lists := fun _ => true, details := true, ports := fun _ => true, sample := true, frame := true, selected := true }

theorem State.agrees.of_work (h : s.agrees) (hw : t.work = s.work) (hp : t.store.profile = s.store.profile) : t.agrees := by
  unfold State.agrees
  rw [hw, hp]
  exact h

theorem State.agrees.quiet (h : s.agrees) (hm : Moves .still s t) : t.agrees := h.of_work (hm.work rfl) (by rw [hm.store])

theorem State.steady.of_work (h : s.steady) (hw : t.work = s.work) (hp : t.store.profile = s.store.profile) : t.steady :=
  ⟨h.1.of_work hw hp, by rw [hw]; exact h.2⟩

theorem State.steady.quiet (h : s.steady) (hm : Moves .still s t) : t.steady := h.of_work (hm.work rfl) (by rw [hm.store])

/-- Other statuses, queue, zone, active job and stack that agree. -/
theorem Work.agrees.rearranged {w' : Work} (h : w.agrees pr) (hs : Stands w'.statuses w'.stationed)
    (hz : ∀ z, w'.zone = some z → z < 12) : w'.agrees pr := ⟨hs, hz, h.head, h.zones⟩

/-- The engine turns from one state of a job to another. -/
theorem State.steady.turns (h : s.steady) {e : EngineState} (ha : s.engine.active.isSome = true)
    (he : e.working = true ∨ e = .commit) (hw : t.work = { s.work with state := e }) (hp : t.store.profile = s.store.profile) :
    t.steady := by
  obtain ⟨⟨h1, h2, h3, h4⟩, -⟩ := h
  have hs : s.work.active.isSome = true := by simpa [State.work] using ha
  unfold State.steady State.agrees
  rw [hw, hp]
  exact ⟨⟨h1, h2, h3, h4⟩, by simp only [Work.manned, hs, he]⟩

/-- In the states that work on a job one is active. -/
theorem State.steady.active (h : s.steady) (hw : s.engine.state.working = true) : s.engine.active.isSome = true := by
  have hm : s.work.active.isSome = true := h.2.mpr (.inl hw)
  simpa [State.work] using hm

/-! ### The queue -/

theorem acceptWith_agrees {place : JobRecord → List JobRecord → List JobRecord} (hplace : ∀ j q, (place j q).Perm (j :: q))
    {k : JobWork} (x : JobClass) (b : Submitter) (g l : Option Nat) (h : s.agrees)
    (hk : ∀ a z, k.place = some (a, z) → a < 16 ∧ z < 12 ∧ s.status a z = .idle) : (acceptWith place k x b g l s).agrees := by
  unfold acceptWith
  rw [setStatus_eq]
  refine Work.agrees.rearranged h ?_ h.zone
  have joined := h.stands.join (st := .queued) (j := ⟨s.newJobId, k, x, b, g, l⟩) (by decide)
    (fun a z hp => ⟨(hk a z hp).1, (hk a z hp).2.1⟩) fun i hi => by
      obtain ⟨a, z, hp, rfl⟩ := JobWork.index_eq_some.mp hi
      exact (hk a z hp).2.2
  exact joined.perm (Work.stationed_queue (w := { s.work with queue := _ }) (hplace _ _)).symm

theorem enqueue_perm (j : JobRecord) (q : List JobRecord) : (enqueue j q).Perm (j :: q) := by
  unfold enqueue aheadOf
  refine List.perm_middle.trans (.of_eq ?_)
  rw [List.takeWhile_append_dropWhile]

theorem enqueueAutomatic_perm (j : JobRecord) (q : List JobRecord) : (enqueueAutomatic j q).Perm (j :: q) := by
  unfold enqueueAutomatic
  refine List.perm_middle.trans (.of_eq ?_)
  rw [List.takeWhile_append_dropWhile]

theorem accept_agrees {k : JobWork} (x : JobClass) (b : Submitter) (g l : Option Nat) (h : s.agrees)
    (hk : ∀ a z, k.place = some (a, z) → a < 16 ∧ z < 12 ∧ s.status a z = .idle) : (accept k x b g l s).agrees :=
  acceptWith_agrees enqueue_perm x b g l h hk

/-- The engine is as it was after an acceptance. -/
theorem acceptWith_engine (place : JobRecord → List JobRecord → List JobRecord) (k : JobWork) (x : JobClass) (b : Submitter)
    (g l : Option Nat) (s : State) : (acceptWith place k x b g l s).engine = s.engine := by
  unfold acceptWith
  rw [setStatus_eq]
  rfl

theorem accept_status {a z a' z' : Nat} (x : JobClass) (b : Submitter) (g l : Option Nat) (s : State)
    (hne : entryIndex a z ≠ entryIndex a' z') : (accept (.measure a z) x b g l s).status a' z' = s.status a' z' := by
  unfold accept acceptWith
  rw [setStatus_eq]
  unfold State.status
  rw [JobWork.mark_other]
  · rfl
  · intro he
    obtain ⟨_, _, hp, he⟩ := JobWork.index_eq_some.mp he
    obtain ⟨rfl, rfl⟩ := Prod.mk.inj (Option.some.inj hp)
    exact hne he

/-- The members of a sweep are accepted one by one; no entry is named twice. -/
theorem acceptAll_agrees (x : JobClass) (g : Nat) {l : List (Nat × Nat)} (hl : l.Nodup) (h : s.agrees)
    (hm : ∀ m ∈ l, m.1 < 16 ∧ m.2 < 12 ∧ s.status m.1 m.2 = .idle) : (acceptAll x g l s).agrees := by
  induction l generalizing s with
  | nil => exact h
  | cons m l ih =>
    obtain ⟨a, z⟩ := m
    obtain ⟨ha, hz, hi⟩ := hm (a, z) List.mem_cons_self
    rw [List.nodup_cons] at hl
    refine ih hl.2 (accept_agrees x .w (some g) none h fun a' z' hp => ?_) fun m hm' => ?_
    · obtain ⟨rfl, rfl⟩ := Prod.mk.inj (Option.some.inj hp)
      exact ⟨ha, hz, hi⟩
    · obtain ⟨ha', hz', hi'⟩ := hm m (List.mem_cons_of_mem _ hm')
      refine ⟨ha', hz', ?_⟩
      rw [accept_status]
      · exact hi'
      · intro he
        obtain ⟨h1, h2⟩ := entryIndex_inj hz hz' he
        exact hl.1 ((Prod.ext h1 h2 : (a, z) = m) ▸ hm')

theorem acceptAll_engine (x : JobClass) (g : Nat) (l : List (Nat × Nat)) (s : State) : (acceptAll x g l s).engine = s.engine := by
  induction l generalizing s with
  | nil => rfl
  | cons m l ih => exact (ih _).trans (acceptWith_engine _ _ _ _ _ _ s)

theorem memberGone_agrees (g : Option Nat) (h : s.agrees) : (memberGone g s).agrees := by
  unfold memberGone
  split
  · exact h
  · exact Work.agrees.rearranged h h.stands h.zone

theorem countDrift_agrees {k : JobWork} (hk : ∀ a z, k.place = some (a, z) → z < 12) (h : s.agrees) : (countDrift k s).agrees := by
  unfold countDrift
  split
  · rename_i a z
    split
    · refine Work.agrees.rearranged h h.stands fun y hy => ?_
      have hy : (if s.jobs.drift + 1 = s.store.profile.driftInterval then some z else s.jobs.pendingZone) = some y := hy
      split at hy
      · exact Option.some.inj hy ▸ hk a z rfl
      · exact h.zone y hy
    · exact h
  · exact h
  · exact h

theorem insertCheck_agrees (h : s.agrees) : (insertCheck s).agrees := by
  unfold insertCheck
  split
  · exact h
  · rename_i z hz
    split
    · rename_i hc
      obtain ⟨⟨-, hzc⟩, hi⟩ : (s.jobs.queue.length < Config.queueSlots ∧ z < s.store.profile.zoneCount)
          ∧ s.status s.store.profile.referenceHead z = .idle := by simpa [State.canInsert] using hc
      have accepted := acceptWith_agrees enqueueAutomatic_perm (k := .referenceCheck s.store.profile.referenceHead z) .priority .internal
        none none h fun a b hp => by
          obtain ⟨rfl, rfl⟩ := Prod.mk.inj (Option.some.inj hp)
          exact ⟨h.head, lt_of_lt_of_le hzc h.zones, hi⟩
      exact Work.agrees.rearranged accepted accepted.stands fun y hy => by cases hy
    · exact h

theorem accountEnd_agrees {r : JobRecord} (hr : ∀ a z, r.work.place = some (a, z) → z < 12) (h : s.agrees) : (accountEnd r s).agrees :=
  insertCheck_agrees (countDrift_agrees hr (memberGone_agrees r.group h))

/-- The accounting of an end leaves the engine. -/
theorem accountEnd_engine (r : JobRecord) (s : State) : (accountEnd r s).engine = s.engine := by
  have gone : (memberGone r.group s).engine = s.engine := by
    unfold memberGone
    split <;> rfl
  have drift : ∀ u : State, (countDrift r.work u).engine = u.engine := fun u => by
    unfold countDrift
    split
    · split <;> rfl
    · rfl
    · rfl
  have check : ∀ u : State, (insertCheck u).engine = u.engine := fun u => by
    unfold insertCheck
    split
    · rfl
    · split
      · exact acceptWith_engine _ _ _ _ _ _ u
      · rfl
  exact (check _).trans ((drift _).trans gone)

theorem dropQueued_agrees (h : s.agrees) (hq : (s.jobs.queue.map JobRecord.id).Nodup) (hj : j ∈ s.jobs.queue) : (dropQueued j s).agrees := by
  unfold dropQueued
  rw [setStatus_eq]
  refine Work.agrees.rearranged h ?_ h.zone
  exact (h.stands.perm (Work.stationed_queue (perm_cons_filter hq hj))).drop

/-- The stacked jobs without one. -/
theorem dropStacked_stack (r : SearchRecord) (s : State) :
    (dropStacked r s).work.stack = s.work.stack.filter fun k => k.id != r.job.id := by
  unfold dropStacked
  rw [setStatus_eq]
  exact (List.filter_map (p := fun k : JobRecord => k.id != r.job.id) (f := SearchRecord.job) (l := s.stack)).symm

theorem dropStacked_agrees {r : SearchRecord} (h : s.agrees) (hq : (s.work.stack.map JobRecord.id).Nodup) (hr : r.job ∈ s.work.stack) :
    (dropStacked r s).agrees := by
  have hw : (dropStacked r s).work = { s.work with
      statuses := r.job.work.mark .idle s.statuses, stack := s.work.stack.filter fun k => k.id != r.job.id } := by
    rw [← dropStacked_stack]
    unfold dropStacked
    rw [setStatus_eq]
    rfl
  have hp : (dropStacked r s).store.profile = s.store.profile := by rw [dropStacked, setStatus_eq]
  unfold State.agrees
  rw [hw, hp]
  exact Work.agrees.rearranged h ((h.stands.perm (Work.stationed_stack (perm_cons_filter hq hr))).drop) h.zone

/-! ### Removals in a row -/

section Removals

variable {f : JobRecord → State → State} {g : SearchRecord → State → State}

/-- A queued job's removal takes it from the queue, and only from there. -/
structure RemovesQueued (f : JobRecord → State → State) : Prop where
  agrees : ∀ j s, s.agrees → (s.work.queue.map JobRecord.id).Nodup → j ∈ s.work.queue → (f j s).agrees
  queue : ∀ j s, (f j s).work.queue = s.work.queue.filter fun k => k.id != j.id
  stack : ∀ j s, (f j s).work.stack = s.work.stack
  engine : ∀ j s, (f j s).work.state = s.work.state ∧ (f j s).work.active = s.work.active

/-- A stacked job's removal takes it from the stack, and only from there. -/
structure RemovesStacked (g : SearchRecord → State → State) : Prop where
  agrees : ∀ r s, s.agrees → (s.work.stack.map JobRecord.id).Nodup → r.job ∈ s.work.stack → (g r s).agrees
  queue : ∀ r s, (g r s).work.queue = s.work.queue
  stack : ∀ r s, (g r s).work.stack = s.work.stack.filter fun k => k.id != r.job.id
  engine : ∀ r s, (g r s).work.state = s.work.state ∧ (g r s).work.active = s.work.active

theorem forQueued_agrees (hf : RemovesQueued f) {l : List JobRecord} (hl : (l.map JobRecord.id).Nodup) (h : s.agrees)
    (hq : (s.work.queue.map JobRecord.id).Nodup) (hm : ∀ j ∈ l, j ∈ s.work.queue) : (forQueued f l s).agrees := by
  induction l generalizing s with
  | nil => exact h
  | cons j l ih =>
    rw [List.map_cons, List.nodup_cons] at hl
    refine ih hl.2 (hf.agrees j s h hq (hm j List.mem_cons_self)) ?_ fun k hk => ?_ <;> rw [hf.queue]
    · exact nodup_filter_map hq _
    · exact List.mem_filter.mpr ⟨hm k (List.mem_cons_of_mem _ hk), by
        simpa using fun he => hl.1 (List.mem_map.mpr ⟨k, hk, he⟩)⟩

theorem forStacked_agrees (hg : RemovesStacked g) {l : List SearchRecord} (hl : (l.map fun r => r.job.id).Nodup) (h : s.agrees)
    (hq : (s.work.stack.map JobRecord.id).Nodup) (hm : ∀ r ∈ l, r.job ∈ s.work.stack) : (forStacked g l s).agrees := by
  induction l generalizing s with
  | nil => exact h
  | cons r l ih =>
    rw [List.map_cons, List.nodup_cons] at hl
    refine ih hl.2 (hg.agrees r s h hq (hm r List.mem_cons_self)) ?_ fun k hk => ?_ <;> rw [hg.stack]
    · exact nodup_filter_map hq _
    · exact List.mem_filter.mpr ⟨hm k (List.mem_cons_of_mem _ hk), by
        simpa using fun he => hl.1 (List.mem_map.mpr ⟨k, hk, he⟩)⟩

theorem forQueued_queue (hf : RemovesQueued f) (l : List JobRecord) (s : State) :
    (forQueued f l s).work.queue = s.work.queue.filter fun k => decide (∀ j ∈ l, k.id ≠ j.id) := by
  induction l generalizing s with
  | nil => simp [forQueued]
  | cons j l ih =>
    rw [forQueued, ih, hf.queue, List.filter_filter]
    refine List.filter_congr fun k _ => ?_
    rw [Bool.eq_iff_iff]
    simp [and_comm]

theorem forStacked_stack (hg : RemovesStacked g) (l : List SearchRecord) (s : State) :
    (forStacked g l s).work.stack = s.work.stack.filter fun k => decide (∀ r ∈ l, k.id ≠ r.job.id) := by
  induction l generalizing s with
  | nil => simp [forStacked]
  | cons r l ih =>
    rw [forStacked, ih, hg.stack, List.filter_filter]
    refine List.filter_congr fun k _ => ?_
    rw [Bool.eq_iff_iff]
    simp [and_comm]

theorem forQueued_stack (hf : RemovesQueued f) (l : List JobRecord) (s : State) : (forQueued f l s).work.stack = s.work.stack := by
  induction l generalizing s with
  | nil => rfl
  | cons j l ih => exact (ih _).trans (hf.stack j s)

theorem forStacked_queue (hg : RemovesStacked g) (l : List SearchRecord) (s : State) : (forStacked g l s).work.queue = s.work.queue := by
  induction l generalizing s with
  | nil => rfl
  | cons r l ih => exact (ih _).trans (hg.queue r s)

theorem forQueued_engine (hf : RemovesQueued f) (l : List JobRecord) (s : State) :
    (forQueued f l s).work.state = s.work.state ∧ (forQueued f l s).work.active = s.work.active := by
  induction l generalizing s with
  | nil => exact ⟨rfl, rfl⟩
  | cons j l ih => exact ⟨(ih _).1.trans (hf.engine j s).1, (ih _).2.trans (hf.engine j s).2⟩

theorem forStacked_engine (hg : RemovesStacked g) (l : List SearchRecord) (s : State) :
    (forStacked g l s).work.state = s.work.state ∧ (forStacked g l s).work.active = s.work.active := by
  induction l generalizing s with
  | nil => exact ⟨rfl, rfl⟩
  | cons r l ih => exact ⟨(ih _).1.trans (hg.engine r s).1, (ih _).2.trans (hg.engine r s).2⟩

end Removals

theorem memberGone_work (g : Option Nat) (s : State) : ∃ l, (memberGone g s).work = { s.work with groups := l } := by
  unfold memberGone
  split
  · exact ⟨_, rfl⟩
  · exact ⟨_, rfl⟩

theorem dropQueued_removes : RemovesQueued dropQueued where
  agrees _ _ h hq hj := dropQueued_agrees h hq hj
  queue j s := by unfold dropQueued; rw [setStatus_eq]; rfl
  stack j s := by unfold dropQueued; rw [setStatus_eq]; rfl
  engine j s := by unfold dropQueued; rw [setStatus_eq]; exact ⟨rfl, rfl⟩

theorem dropStacked_removes : RemovesStacked dropStacked where
  agrees _ _ h hq hj := dropStacked_agrees h hq hj
  queue r s := by unfold dropStacked; rw [setStatus_eq]; rfl
  stack r s := dropStacked_stack r s
  engine r s := by unfold dropStacked; rw [setStatus_eq]; exact ⟨rfl, rfl⟩

/-- CANCEL's removal of a queued job places the other jobs as the removal alone does. -/
theorem cancelQueued_work (j : JobRecord) (s : State) :
    ∃ l, (cancelQueued j s).work = { (dropQueued j s).work with groups := l } := by
  obtain ⟨l, hl⟩ := memberGone_work j.group (writeRecord j (plainRecord j .cancelled 0 s.sample.revolutions) (dropQueued j s))
  exact ⟨l, by rw [cancelQueued, hl, (writeRecord_moves (c := .still) rfl _ _).work rfl]⟩

theorem cancelStacked_work (r : SearchRecord) (s : State) :
    ∃ l, (cancelStacked r s).work = { (dropStacked r s).work with groups := l } := by
  obtain ⟨l, hl⟩ := memberGone_work r.job.group
    (writeRecord r.job (plainRecord r.job .cancelled r.iterations s.sample.revolutions) (dropStacked r s))
  exact ⟨l, by rw [cancelStacked, hl, (writeRecord_moves (c := .still) rfl _ _).work rfl]⟩

theorem cancelQueued_removes : RemovesQueued cancelQueued where
  agrees j s h hq hj := memberGone_agrees j.group ((dropQueued_agrees h hq hj).quiet (writeRecord_moves (c := .still) rfl _ _))
  queue j s := by
    obtain ⟨l, hl⟩ := cancelQueued_work j s
    exact (congrArg Work.queue hl).trans (dropQueued_removes.queue j s)
  stack j s := by
    obtain ⟨l, hl⟩ := cancelQueued_work j s
    exact (congrArg Work.stack hl).trans (dropQueued_removes.stack j s)
  engine j s := by
    obtain ⟨l, hl⟩ := cancelQueued_work j s
    rw [hl]
    exact dropQueued_removes.engine j s

theorem cancelStacked_removes : RemovesStacked cancelStacked where
  agrees r s h hq hr := memberGone_agrees r.job.group ((dropStacked_agrees h hq hr).quiet (writeRecord_moves (c := .still) rfl _ _))
  queue r s := by
    obtain ⟨l, hl⟩ := cancelStacked_work r s
    exact (congrArg Work.queue hl).trans (dropStacked_removes.queue r s)
  stack r s := by
    obtain ⟨l, hl⟩ := cancelStacked_work r s
    exact (congrArg Work.stack hl).trans (dropStacked_removes.stack r s)
  engine r s := by
    obtain ⟨l, hl⟩ := cancelStacked_work r s
    rw [hl]
    exact dropStacked_removes.engine r s

end Sys2Proof.Machine
end

section
/-! SUPPORT. The engine's operations leave the statuses in agreement with the jobs and the engine state with the active job (R2, R28). -/

namespace Sys2Proof.Machine

variable {s t : State} {r : SearchRecord}

/-! ### Starting work -/

theorem work_setActiveMeasuring (r : SearchRecord) (e : EngineState) (s : State) :
    (setEngineState e (setStatus r.job.work .measuring (setActive (some r) (dropHome s)))).work
      = { s.work with statuses := r.job.work.mark .measuring s.statuses, active := some r.job, state := e } := by
  rw [setStatus_eq]
  rfl

/-- Beginning a job's work makes it the active one. -/
theorem beginWork_work (r : SearchRecord) (s : State) : ∃ e : EngineState, e.working = true ∧ (beginWork r s).work
    = { s.work with statuses := r.job.work.mark .measuring s.statuses, active := some r.job, state := e } := by
  have quiet : ∀ {e : EngineState} {u : State}, e.working = true →
      Moves .still (setEngineState e (setStatus r.job.work .measuring (setActive (some r) (dropHome s)))) u →
      ∃ e : EngineState, e.working = true ∧ u.work
        = { s.work with statuses := r.job.work.mark .measuring s.statuses, active := some r.job, state := e } := fun he hm =>
    ⟨_, he, (hm.work rfl).trans (work_setActiveMeasuring r _ s)⟩
  unfold beginWork
  dsimp only
  split
  · exact quiet rfl (placeMove_moves _)
  · split
    · exact quiet rfl (placeHead_moves _)
    · exact quiet rfl (askEngine_moves rfl _)
  · split
    · exact quiet rfl (placeHead_moves _)
    · exact quiet rfl (askEngine_moves rfl _)

theorem takeHead_work {j : JobRecord} {rest : List JobRecord} (hq : s.jobs.queue = j :: rest) :
    ∃ e : EngineState, e.working = true ∧ (takeHead s).work
      = { s.work with queue := rest, statuses := j.work.mark .measuring s.statuses, active := some j, state := e } := by
  have freed : (postSpace (s.setJobs { s.jobs with queue := rest })).work = { s.work with queue := rest } :=
    (postSpace_moves (c := .still) _).work rfl
  obtain ⟨e, he, hw⟩ := beginWork_work (.fresh s.store.profile j) (postSpace (s.setJobs { s.jobs with queue := rest }))
  refine ⟨e, he, ?_⟩
  have hk : takeHead s = beginWork (.fresh s.store.profile j) (postSpace (s.setJobs { s.jobs with queue := rest })) := by
    simp only [takeHead, hq]
  have hst : (postSpace (s.setJobs { s.jobs with queue := rest })).statuses = s.statuses := congrArg Work.statuses freed
  rw [hk, hw, freed, hst]
  rfl

theorem resumeTop_work {rest : List SearchRecord} (hs : s.stack = r :: rest) :
    ∃ e : EngineState, e.working = true ∧ (resumeTop s).work = { s.work with
      stack := rest.map SearchRecord.job, statuses := r.job.work.mark .measuring s.statuses, active := some r.job, state := e } := by
  obtain ⟨e, he, hw⟩ := beginWork_work r { s with stack := rest }
  refine ⟨e, he, ?_⟩
  have hk : resumeTop s = beginWork r { s with stack := rest } := by simp only [resumeTop, hs]
  rw [hk, hw]
  rfl

theorem preempt_work {j : JobRecord} {rest : List JobRecord} (ha : s.engine.active = some r) (hq : s.jobs.queue = j :: rest) :
    ∃ e : EngineState, e.working = true ∧ (preempt s).work = { s.work with
      queue := rest, stack := r.job :: s.work.stack
      statuses := j.work.mark .measuring (r.job.work.mark .suspended s.statuses), active := some j, state := e } := by
  have left : (withdrawBoth .preempted (withdrawLookUp (dropDwell s))).work = s.work :=
    Moves.work (c := .still) rfl (((dropDwell_moves s).trans (withdrawLookUp_moves _)).trans (withdrawBoth_moves _ _))
  have stacked : ∀ u : State, u.work = s.work →
      (setStatus r.job.work .suspended { u with stack := r :: u.stack }).work
        = { s.work with stack := r.job :: s.work.stack, statuses := r.job.work.mark .suspended s.statuses } := fun u hu => by
    rw [setStatus_eq, ← hu]
    have hst : u.statuses = s.statuses := congrArg Work.statuses hu
    rw [← hst]
    rfl
  have hx := stacked _ left
  have hxq := congrArg Work.queue hx
  obtain ⟨e, he, hw⟩ := takeHead_work (hxq.trans hq)
  refine ⟨e, he, ?_⟩
  have hk : preempt s = takeHead (setStatus r.job.work .suspended
      { withdrawBoth .preempted (withdrawLookUp (dropDwell s)) with
        stack := r :: (withdrawBoth .preempted (withdrawLookUp (dropDwell s))).stack }) := by simp only [preempt, ha]
  have hxs := congrArg Work.statuses hx
  rw [hk, hw, hx]
  exact congrArg (fun v => ({ s.work with
    queue := rest, stack := r.job :: s.work.stack, statuses := j.work.mark .measuring v, active := some j, state := e } : Work)) hxs

/-- A state in which a job has just begun. -/
theorem State.steady.begun {w : Work} {j : JobRecord} {a : EntryStatus} {e : EngineState} (h : s.agrees)
    (hs : Stands w.statuses ((a, j) :: w.parked)) (hz : w.zone = s.work.zone) (he : e.working = true)
    (hw : t.work = { w with statuses := j.work.mark .measuring w.statuses, active := some j, state := e })
    (hp : t.store = s.store) : t.steady := by
  unfold State.steady State.agrees
  rw [hw, hp]
  refine ⟨⟨?_, hz ▸ h.zone, h.head, h.zones⟩, by simp [Work.manned, he]⟩
  rw [Work.stationed_active rfl]
  exact hs.turn (by decide)

theorem takeHead_steady {j : JobRecord} {rest : List JobRecord} (h : s.agrees) (ha : s.work.active = none)
    (hq : s.jobs.queue = j :: rest) : (takeHead s).steady := by
  obtain ⟨e, he, hw⟩ := takeHead_work hq
  have hs := h.stands
  rw [Work.stationed_inactive ha] at hs
  exact .begun h (w := { s.work with queue := rest })
    (hs.perm (Work.parked_queue (.of_eq hq))) rfl he hw (takeHead_moves (c := .duties) rfl s).store

theorem resumeTop_steady {rest : List SearchRecord} (h : s.agrees) (ha : s.work.active = none) (hr : s.stack = r :: rest) :
    (resumeTop s).steady := by
  obtain ⟨e, he, hw⟩ := resumeTop_work hr
  have hs := h.stands
  rw [Work.stationed_inactive ha] at hs
  exact .begun h (w := { s.work with stack := rest.map SearchRecord.job })
    (hs.perm (Work.parked_stack (.of_eq (congrArg (List.map SearchRecord.job) hr)))) rfl he hw (resumeTop_moves (c := .duties) rfl s).store

theorem preempt_steady {j : JobRecord} {rest : List JobRecord} (h : s.agrees) (ha : s.engine.active = some r)
    (hq : s.jobs.queue = j :: rest) : (preempt s).steady := by
  obtain ⟨e, he, hw⟩ := preempt_work ha hq
  have hs := h.stands
  rw [Work.stationed_active (congrArg (Option.map SearchRecord.job) ha)] at hs
  have suspended := (hs.turn (st' := .suspended) (by decide)).perm
    (Work.parked_stack (w := { s.work with stack := r.job :: s.work.stack }) (.refl _)).symm
  exact .begun h (w := { s.work with
      queue := rest, stack := r.job :: s.work.stack, statuses := r.job.work.mark .suspended s.statuses })
    (suspended.perm (Work.parked_queue (w := { s.work with stack := r.job :: s.work.stack }) (.of_eq hq))) rfl he hw
    (preempt_moves (c := .duties) rfl s).store

theorem tryPreempt_steady (h : s.steady) : (tryPreempt s).steady := by
  unfold tryPreempt
  split
  · rename_i hp
    unfold State.mustPreempt at hp
    split at hp
    · exact preempt_steady h.1 ‹_› ‹_›
    · cases hp
  · exact h

theorem State.steady.inactive (h : s.steady) (hw : s.engine.state.working = false) (hc : s.engine.state ≠ .commit) :
    s.engine.active = none := by
  have hm : ¬ s.work.active.isSome = true := fun ha => by
    obtain hw' | hc' := h.2.mp ha
    · exact absurd (hw'.symm.trans hw) (by decide)
    · exact hc hc'
  simpa [State.work] using hm

theorem State.agrees.steady_of_inactive (h : s.agrees) (ha : s.engine.active = none) (hw : s.engine.state.working = false)
    (hc : s.engine.state ≠ .commit) : s.steady := by
  refine ⟨h, ?_⟩
  have hn : s.work.active = none := by simp [State.work, ha]
  simp only [Work.manned, hn, Option.isSome_none, Bool.false_eq_true, false_iff, not_or, Bool.not_eq_true]
  exact ⟨hw, hc⟩

theorem enterPublish_steady (h : s.agrees) (ha : s.engine.active = none) : (enterPublish s).steady := by
  refine State.steady.quiet ?_ (askEngine_moves rfl _)
  refine State.agrees.steady_of_inactive ?_ ha rfl nofun
  exact Work.agrees.rearranged h h.stands h.zone

theorem advance_steady (h : s.steady) : (advance s).steady := by
  unfold advance
  split
  · rename_i hi
    have ha : s.engine.active = none := h.inactive (by rw [hi]; rfl) (by rw [hi]; decide)
    have hn : s.work.active = none := by simp [State.work, ha]
    split
    · exact enterPublish_steady h.1 ha
    · split
      · split
        · exact tryPreempt_steady (resumeTop_steady h.1 hn ‹_›)
        · exact h
      · split
        · split
          · exact takeHead_steady h.1 hn ‹_›
          · exact h
        · exact h
  · exact tryPreempt_steady h

/-! ### Ending a job -/

theorem clearActive_work (r : SearchRecord) (s : State) :
    (clearActive r s).work = { s.work with statuses := r.job.work.mark .idle s.statuses, active := none } := by
  unfold clearActive
  rw [setStatus_eq]
  rfl

theorem clearActive_agrees {j : JobRecord} (h : s.agrees) (ha : s.work.active = some j) (hr : r.job = j) : (clearActive r s).agrees := by
  have hs := h.stands
  rw [Work.stationed_active ha] at hs
  unfold State.agrees
  rw [clearActive_work, (clearActive_moves (c := .duties) rfl r s).store, hr]
  exact Work.agrees.rearranged h hs.drop h.zone

theorem afterJob_steady (h : s.agrees) (ha : s.engine.active = none) (f b : Bool) : (afterJob f b s).steady := by
  unfold afterJob
  split
  · exact enterPublish_steady (s := s.setEngine { s.engine with faultPending := f }) h ha
  · split
    · exact State.agrees.steady_of_inactive (s := s.setEngine { s.engine with state := .faultHold, faultPending := false })
        (Work.agrees.rearranged h h.stands h.zone) ha rfl nofun
    · exact advance_steady (s := s.setEngine { s.engine with state := .idle, faultPending := false })
        (State.agrees.steady_of_inactive (Work.agrees.rearranged h h.stands h.zone) ha rfl nofun)

theorem State.agrees.zone_lt (h : s.agrees) (ha : s.work.active = some r.job) :
    ∀ a z, r.job.work.place = some (a, z) → z < 12 := fun a z hp =>
  (h.stands.placed (.measuring, r.job) (by rw [Work.stationed_active ha]; exact List.mem_cons_self) a z hp).2

/-- The active job's record and its entry are cleared, and it is accounted for. -/
theorem accountEnd_clearActive (h : s.agrees) (ha : s.work.active = some r.job) :
    (accountEnd r.job (clearActive r s)).agrees ∧ (accountEnd r.job (clearActive r s)).engine.active = none :=
  ⟨accountEnd_agrees (h.zone_lt ha) (clearActive_agrees h ha rfl), by rw [accountEnd_engine]; rfl⟩

theorem closeJob_agrees (o : JobOutcome) (h : s.agrees) (ha : s.engine.active = some r) :
    (closeJob o s).agrees ∧ (closeJob o s).engine.active = none := by
  have left : Moves .still s (withdrawBoth (.ended o) (leaveWork s)) := (leaveWork_moves s).trans (withdrawBoth_moves _ _)
  have hw : s.work.active = some r.job := by simp [State.work, ha]
  have hl : (withdrawBoth (.ended o) (leaveWork s)).work.active = some r.job := by rw [left.work rfl, hw]
  unfold closeJob
  simp only [ha]
  split
  · exact ⟨clearActive_agrees (h.quiet left) hl rfl, rfl⟩
  · have written := writeRecord_moves (c := .still) (j := r.job) rfl
      (plainRecord r.job o r.iterations (withdrawBoth (.ended o) (leaveWork s)).sample.revolutions) (withdrawBoth (.ended o) (leaveWork s))
    exact accountEnd_clearActive ((h.quiet left).quiet written) (by rw [written.work rfl, hl])

theorem endJob_steady (o : JobOutcome) (h : s.steady) : (endJob o s).steady := by
  unfold endJob
  split
  · exact h
  · obtain ⟨closed, ha⟩ := closeJob_agrees o h.1 ‹_›
    exact afterJob_steady closed ha _ _

theorem endArrived_steady (h : s.steady) (ha : s.engine.active = some r) : (endArrived r s).steady := by
  have left : Moves .still s (releaseBoth (leaveWork s)) := (leaveWork_moves s).trans (releaseBoth_moves _)
  have written := left.trans (writeRecord_moves (j := r.job) rfl
    (arrivedRecord r.job (releaseBoth (leaveWork s)).frame.count (releaseBoth (leaveWork s)).sample.revolutions) _)
  obtain ⟨ended, he⟩ := accountEnd_clearActive (r := r) (h.1.quiet written) (by rw [written.work rfl]; simp [State.work, ha])
  exact afterJob_steady ended he _ _

theorem stageJob_steady (o : JobOutcome) (part : StagedPart) (h : s.steady) (ha : s.engine.active.isSome = true) :
    (stageJob o part s).steady := by
  have left : Moves .still s (releaseBoth (leaveWork s)) := (leaveWork_moves s).trans (releaseBoth_moves _)
  refine State.steady.quiet ?_ (askEngine_moves rfl _)
  refine h.turns (e := .commit) ha (.inr rfl) ?_ (by simp only [State.setEngine_store, left.store])
  rw [← left.work rfl]
  rfl

theorem takeFault_steady (o : JobOutcome) (h : s.steady) : (takeFault o s).steady := by
  unfold takeFault
  split
  · rename_i hi
    exact State.agrees.steady_of_inactive (Work.agrees.rearranged h.1 h.1.stands h.1.zone)
      (h.inactive (by rw [hi]; rfl) (by rw [hi]; decide) : s.engine.active = none) rfl nofun
  · exact endJob_steady o h
  · exact endJob_steady o h
  · exact endJob_steady o h
  · exact endJob_steady o h
  · exact h.quiet (setEngine_moves_quiet rfl rfl rfl)
  · exact h.quiet (setEngine_moves_quiet rfl rfl rfl)
  · exact h

end Sys2Proof.Machine
end

section
/-! SUPPORT. The search, the handshakes' turns, the Sample Path and the Position Frame leave the statuses in agreement with the jobs and
the engine state with the active job (R2, R28). -/

namespace Sys2Proof.Machine

variable {s t : State} {r : SearchRecord}

theorem State.isSome_active_of_work {s t : State} (h : t.work = s.work) : t.engine.active.isSome = s.engine.active.isSome := by
  have ha := congrArg (fun w => w.active.isSome) h
  simpa [State.work] using ha

theorem setSample_steady (x : SamplePath) (h : s.steady) : (s.setSample x).steady := h.of_work rfl rfl

theorem setFrame_steady (x : PositionFrame) (h : s.steady) : (s.setFrame x).steady := h.of_work rfl rfl

/-! ### The states of a job -/

theorem startDwell_steady (h : s.steady) (ha : s.engine.active.isSome = true) : (startDwell s).steady :=
  h.turns (e := .dwell) ha (.inl rfl) rfl rfl

theorem enterDwell_steady (h : s.steady) (ha : s.engine.active.isSome = true) : (enterDwell s).steady := by
  unfold enterDwell
  split
  · exact endJob_steady _ h
  · exact startDwell_steady h ha

theorem enterSettling_steady (h : s.steady) (ha : s.engine.active.isSome = true) : (enterSettling s).steady := by
  unfold enterSettling
  split
  · exact endJob_steady _ h
  · exact h.turns (e := .settling) ha (.inl rfl) rfl rfl

theorem headReady_steady (h : s.steady) : (headReady s).steady := by
  have ready : (setHeadPhase .ready (s.setHandshake { s.handshake with headSettle := .stopped })).steady :=
    h.quiet (.after (setHeadPhase_moves _ _) (setHandshake_moves (fun h => h) rfl))
  have turned : ∀ u : State, u.steady → u.engine.active.isSome = true → (setEngineState .moveWait u).steady := fun u hu ha =>
    hu.turns (e := .moveWait) ha (.inl rfl) rfl rfl
  unfold headReady
  dsimp only
  split
  · rename_i hw
    have ha := ready.active (by rw [hw]; rfl)
    split
    · exact (turned _ ready ha).quiet (placeMove_moves _)
    · split
      · exact turned _ ready ha
      · exact turned _ ready ha
      · exact enterSettling_steady ready ha
      · exact enterDwell_steady ready ha
  · exact ready

theorem settleMet_steady (h : s.steady) : (settleMet s).steady := by
  unfold settleMet
  dsimp only
  set s' := setMovePhase .settled _ with hs'
  have met : s'.steady := h.quiet (.after (setMovePhase_moves _ _) (.after (setHandshake_moves (fun h => h) rfl)
    (stillFrame_moves s s.frame.home .met .stopped)))
  split
  · split
    · rename_i r hr
      split
      · exact enterDwell_steady met (by rw [hr]; rfl)
      · exact endArrived_steady met hr
    · exact met
  · exact met

theorem settleEvaluate_steady (h : s.steady) : (settleEvaluate s).steady := by
  unfold settleEvaluate
  split
  · split
    · exact settleMet_steady h
    · exact h.of_work rfl rfl
  · exact h.of_work rfl rfl

theorem settleLoss_steady (h : s.steady) : (settleLoss s).steady := by
  unfold settleLoss
  dsimp only
  set s' := setMovePhase .done _ with hs'
  have loss : s'.steady := h.quiet (.after (setMovePhase_moves _ _) (.after (setHandshake_moves (fun h => h) rfl)
    (stillFrame_moves s s.frame.home .outside .stopped)))
  split
  · rename_i hd
    have dropped := dropDwell_moves (c := .still) s'
    exact enterSettling_steady (loss.quiet dropped)
      ((State.isSome_active_of_work (dropped.work rfl)).trans (loss.active (by rw [hd]; rfl)))
  · exact loss

theorem settleSample_steady (h : s.steady) : (settleSample s).steady := by
  unfold settleSample
  split
  · exact h
  · split
    · exact settleEvaluate_steady h
    · exact h
  · split
    · exact h
    · exact h.of_work rfl rfl
  · split
    · exact h
    · exact settleLoss_steady h

/-! ### The search -/

/-- The search goes on at a new target for the active job. -/
theorem goTo_steady (h : s.steady) (ha : s.work.active = some r.job) : (goTo r s).steady := by
  have dropped := dropDwell_moves (c := .still) s
  have active : (setActive (some r) (setEngineState .moveWait (dropDwell s))).work = { s.work with state := .moveWait } := by
    have hk := dropped.work rfl
    calc (setActive (some r) (setEngineState .moveWait (dropDwell s))).work
        = { (dropDwell s).work with state := .moveWait, active := some r.job } := rfl
      _ = { s.work with state := .moveWait } := by rw [hk, ← ha]
  refine State.steady.quiet ?_ (placeMove_moves _)
  exact h.turns (e := .moveWait) (by simpa [State.work] using congrArg Option.isSome ha) (.inl rfl) active
    (congrArg ProfileStore.profile dropped.store)

theorem setActive_steady (h : s.steady) {x : SearchRecord} (ha : s.engine.active = some r) (hx : x.job = r.job) :
    (setActive (some x) s).steady := h.quiet (setActive_moves_quiet ha hx)

theorem applyDwell_steady (mean : Int) (h : s.steady) {x : SearchRecord} (ha : s.engine.active = some x) (hx : r.job = x.job) :
    (applyDwell r mean s).steady := by
  have hw : s.work.active = some r.job := by simp [State.work, ha, hx]
  have stage : ∀ y : SearchRecord, y.job = r.job → ∀ o part, (stageJob o part (setActive (some y) s)).steady := fun y hy o part =>
    stageJob_steady o part (setActive_steady h ha (hy.trans hx)) rfl
  have go : ∀ y : SearchRecord, y.job = r.job → (goTo y s).steady := fun y hy => goTo_steady h (by rw [hy]; exact hw)
  unfold applyDwell
  split
  · exact go _ (by rfl)
  · unfold applyStep
    dsimp only
    split
    · exact stage _ (by rfl) _ _
    · exact go _ (by rfl)
  · unfold applyVerify
    dsimp only
    split
    · exact stage _ (by rfl) _ _
    · split
      · exact stage _ (by rfl) _ _
      · split
        · exact stage _ (by rfl) _ _
        · exact go _ (by rfl)

theorem completeDwell_steady (h : s.steady) (ha : s.engine.active = some r) : (completeDwell r s).steady := by
  unfold completeDwell
  dsimp only
  split
  · exact applyDwell_steady _ (setActive_steady h ha (x := { r with
      spreadRepeat := false, lastMean := some (dwellMean s.engine.dwell.sum s.engine.dwell.n), lastStamp := some s.sample.revolutions }) rfl)
      rfl rfl
  · split
    · exact stageJob_steady _ _ h (by rw [ha]; rfl)
    · exact startDwell_steady (setActive_steady h ha rfl) rfl

theorem countAccept_steady (x : Int) (h : s.steady) : (countAccept x s).steady := by
  unfold countAccept
  split
  · exact h
  · dsimp only
    split
    · exact completeDwell_steady (h.quiet (setEngine_moves_quiet rfl rfl rfl)) ‹_›
    · exact h.quiet (setEngine_moves_quiet rfl rfl rfl)

theorem countReject_steady (h : s.steady) : (countReject s).steady := by
  unfold countReject
  split
  · exact h
  · rename_i r hr
    have counted : ∀ (x : SearchRecord) (d : Dwell), x.job = r.job →
        (s.setEngine { s.engine with active := some x, dwell := d }).steady := fun x d hx =>
      h.quiet (setEngine_moves_quiet rfl rfl (by simp [hr, hx]))
    dsimp only
    split
    · exact stageJob_steady _ _ (counted _ _ (by rfl)) rfl
    · exact counted _ _ (by rfl)

/-! ### The Sample Path -/

theorem joinFifo_steady (r : WedgeRecord) (h : s.steady) : (joinFifo r s).steady := by
  unfold joinFifo
  split
  · exact setSample_steady _ h
  · exact countReject_steady (setSample_steady _ h)

theorem wedgeArrival_steady (r : WedgeRecord) (h : s.steady) : (wedgeArrival r s).steady := by
  have judged : (judgeLock r.sync (s.setSample (s.sample.advance s.wedgesPerRevolution))).steady :=
    (setSample_steady _ h).quiet (judgeLock_moves rfl rfl r.sync _)
  unfold wedgeArrival
  dsimp only
  split
  · exact joinFifo_steady r judged
  · exact judged

theorem applyClass_steady (k : Class) (h : s.steady) : (applyClass k s).steady := by
  unfold applyClass
  split
  · exact countAccept_steady _ h
  · exact countReject_steady h
  · exact countReject_steady h
  · exact countReject_steady h
  · exact countReject_steady h

theorem takeSample_steady (r : WedgeRecord) (rest : List WedgeRecord) (h : s.steady) : (takeSample r rest s).steady :=
  applyClass_steady _ (setSample_steady _ h)

/-! ### The Position Frame -/

theorem testTravel_steady (h : s.steady) : (testTravel s).steady := by
  have look : ∀ x, ({ s with frame := { s.frame with travel := x } } : State).steady := fun x => setFrame_steady _ h
  unfold testTravel
  dsimp only
  split
  · split
    · exact takeFault_steady _ ((look _).quiet (postFault_moves rfl _ _))
    · exact look _
  · exact h

theorem positionerFault_steady (h : s.steady) : (positionerFault s).steady := takeFault_steady _ (h.quiet (postFault_moves rfl _ _))

theorem countStage_steady (b : PositionFrame) (h : s.steady) : (countStage b s).steady := by
  unfold countStage
  split
  · exact takeFault_steady _ ((setFrame_steady _ h).quiet (postFault_moves rfl _ _))
  · exact setFrame_steady _ h

theorem filterSample_steady (a b z pf : Bool) (h : s.steady) : (filterSample a b z pf s).steady := by
  have captured : ∀ b (u : State), u.steady → (captureStage b u).steady := fun b u hu => by
    unfold captureStage
    split
    · exact setFrame_steady _ hu
    · exact hu
  have travelled : ∀ b (u : State), u.steady → (travelStage b u).steady := fun b u hu => by
    unfold travelStage
    split
    · exact hu
    · exact testTravel_steady hu
  have faulted : ∀ b (u : State), u.steady → (pfaultStage b u).steady := fun b u hu => by
    unfold pfaultStage
    split
    · exact positionerFault_steady hu
    · exact hu
  have settled : ∀ b (u : State), u.steady → (settleStage b u).steady := fun b u hu => by
    unfold settleStage
    split
    · exact hu
    · exact settleSample_steady hu
  exact settled _ _ (faulted _ _ (travelled _ _ (captured _ _ (countStage_steady _ (setFrame_steady _ h)))))

theorem firstFilterSample_steady (a b z pf : Bool) (h : s.steady) : (firstFilterSample a b z pf s).steady := by
  unfold firstFilterSample
  dsimp only
  split
  · exact positionerFault_steady (setFrame_steady _ h)
  · exact setFrame_steady _ h

/-! ### Handshakes -/

theorem acceptMoveDone_steady (n : Byte) (h : s.steady) : (acceptMoveDone n s).steady := by
  have test : ∀ u : State, u.steady → (startSettleTest n u).steady := fun u hu => by
    unfold startSettleTest
    split
    · split
      · exact settleEvaluate_steady hu
      · exact hu
    · exact hu
  have done : (setMovePhase .done s).steady := h.quiet (setMovePhase_moves _ s)
  unfold acceptMoveDone
  dsimp only
  split
  · rename_i hw
    exact test _ (enterSettling_steady done (done.active (by rw [hw]; rfl)))
  · exact test _ done

theorem enterDelay_steady (h : s.steady) : (enterDelay s).steady := by
  have delay : (setHeadPhase .delay (s.setHandshake { s.handshake with
      headTimeout := .stopped, headSettle := startMs s.store.profile.headSettleDelay })).steady :=
    h.quiet (.after (setHeadPhase_moves _ _) (setHandshake_moves (fun h => h) rfl))
  unfold enterDelay
  dsimp only
  split
  · exact headReady_steady delay
  · split
    · exact endJob_steady _ delay
    · exact delay

theorem reissueHead_steady (x : HeadRequest) (h : s.steady) : (reissueHead x s).steady := by
  have ended : (endHead .reissued s).steady := h.quiet (endHead_moves _ s)
  have back : ∀ u : State, u.steady → u.engine.state.working = true → (setEngineState .headWait (dropDwell u)).steady := fun u hu hw => by
    have dropped := dropDwell_moves (c := .still) u
    refine hu.turns (e := .headWait) (hu.active hw) (.inl rfl) ?_ (congrArg ProfileStore.profile dropped.store)
    rw [← dropped.work rfl]
    rfl
  unfold reissueHead
  dsimp only
  refine State.steady.quiet ?_ (placeHeadFor_moves _ _ _)
  split
  · exact back _ ended (by rw [‹(endHead .reissued s).engine.state = _›]; rfl)
  · exact back _ ended (by rw [‹(endHead .reissued s).engine.state = _›]; rfl)
  · exact back _ ended (by rw [‹(endHead .reissued s).engine.state = _›]; rfl)
  · exact ended

theorem reportHead_steady (n : Nat) (h : s.steady) : (reportHead n s).steady := by
  unfold reportHead
  split
  · exact h
  · split
    · exact h
    · exact h
    · split
      · exact h
      · exact reissueHead_steady _ h
    · split
      · exact h
      · exact reissueHead_steady _ h

theorem headReport_steady (n : Byte) {a : Nat} (ha : a ≤ 15) (h : s.steady) : (headReport n a s).2.steady := by
  have selected : (selectHead a s).steady := h.quiet (selectHead_moves rfl ha s)
  have answered : ∀ (x : HeadRequest) (u : State), u.steady → (answerHead x a u).steady := fun x u hu => by
    unfold answerHead
    split
    · exact enterDelay_steady hu
    · exact endJob_steady _ (hu.quiet (endHead_moves _ u))
  unfold headReport
  dsimp only
  split
  · exact reportHead_steady a selected
  · split
    · exact answered _ _ selected
    · exact answered _ _ selected
    · exact reportHead_steady a selected
    · exact reportHead_steady a selected

/-- The look-up of the active job's search. -/
theorem lookUp_steady (h : s.steady) (ha : s.engine.active = some r) : (lookUp r s).steady := by
  have released : (release s).work = s.work := State.work_of_aside (release_aside s)
  have free : (release s).steady := h.of_work released (by rw [State.store_of_aside (release_aside s)])
  have active : (release s).engine.active = some r := by rw [State.engine_of_aside (release_aside s), ha]
  unfold lookUp
  split
  · exact free
  · refine State.steady.quiet ?_ (placeHead_moves _)
    exact setActive_steady free active rfl

end Sys2Proof.Machine
end

section
/-! SUPPORT. Every step leaves the statuses in agreement with the jobs (R2). -/

namespace Sys2Proof.Machine

variable {s t u : State} {r : SearchRecord}

/-! ### What every command starts from -/

theorem Profile.sound.head_lt {pr : Profile} (h : pr.sound) : pr.referenceHead < 16 := by
  have h1 := (h.1 (1, 0) (by decide)).2
  have h3 := (h.1 (3, 0) (by decide)).2
  simp only [Profile.range, Profile.param] at h1 h3
  omega

theorem Profile.sound.zones_le {pr : Profile} (h : pr.sound) : pr.zoneCount ≤ 12 := by
  have h2 := (h.1 (2, 0) (by decide)).2
  simp only [Profile.range, Profile.param] at h2
  omega

/-- An entry of the profile is an entry of the table (R1, R198). -/
theorem Profile.sound.in_table {pr : Profile} (h : pr.sound) {a z : Nat} (hz : pr.holds a z = true) : a < 16 ∧ z < 12 := by
  have h1 := (h.1 (1, 0) (by decide)).2
  have h2 := h.zones_le
  simp only [Profile.range, Profile.param] at h1
  simp only [Profile.holds, Bool.and_eq_true, decide_eq_true_eq] at hz
  omega

/-- No id appears twice in the queue, nor in the stack. -/
def State.idsApart (s : State) : Prop := (s.work.queue.map JobRecord.id).Nodup ∧ (s.work.stack.map JobRecord.id).Nodup

/-- Statuses and jobs in agreement, with the profile in its ranges and the ids apart. -/
def State.ordered (s : State) : Prop := s.store.profile.sound ∧ s.steady ∧ s.idsApart

theorem State.idsSound.apart (h : s.idsSound) : s.idsApart := by
  obtain ⟨hd, -⟩ := h
  unfold State.heldIds at hd
  rw [List.nodup_append, List.nodup_append] at hd
  obtain ⟨⟨hq, -, -⟩, hst, -⟩ := hd
  refine ⟨hq, ?_⟩
  simpa [State.work, Function.comp_def] using hst

theorem State.ordered_of_sound (hp : s.store.profile.sound) (he : s.engineSound) (hi : s.idsSound) (hs : s.statusesSound) : s.ordered := by
  refine ⟨hp, ⟨(State.statusesSound_iff hp.head_lt hp.zones_le).mp hs, ?_⟩, hi.apart⟩
  simpa [Work.manned, State.work] using he.1

/-! ### Changes beside the jobs -/

theorem State.steady.of_aside (h : s.steady) (ht : t.aside = s.aside) : t.steady :=
  h.of_work (State.work_of_aside ht) (by rw [State.store_of_aside ht])

theorem State.steady.answer (h : s.steady) (p : Port) (tag : Byte) (a : Answer) : (answer p tag a s).steady := h.of_work rfl rfl

theorem State.steady.reply (h : s.steady) (p : Port) (tag : Byte) (l : List Byte) : (reply p tag l s).steady := h.of_work rfl rfl

theorem State.steady.refuse (h : s.steady) (p : Port) (tag : Byte) (st : Status) : (refuse p tag st s).steady := h.of_work rfl rfl

theorem State.steady.setPort (h : s.steady) (p : Port) (x : LinkPort) : (s.setPort p x).steady := h.of_work rfl rfl

theorem State.steady.answerPending (h : s.steady) (p : Port) (a : Answer) : (answerPending p a s).steady :=
  h.of_aside (answerPending_aside p a s)

theorem State.steady.release (h : s.steady) : (release s).steady := h.of_aside (release_aside s)

theorem State.steady.askGrant (h : s.steady) (c : Client) (op : TableOp) : (askGrant c op s).steady := h.of_aside (askGrant_aside c op s)

/-- A request that its block leaves steady. -/
theorem request_steady {i : Instr} {p : Port} {a : Access} {body : State → State} (hb : ∀ u : State, u.ordered → (body u).steady)
    (h : s.ordered) : (request i p a body s).steady := by
  obtain ⟨-, he⟩ | ⟨-, st, he⟩ | ⟨-, -, he⟩ := request_cases i p a body s <;> rw [he]
  · exact h.2.1.setPort _ _
  · exact (h.2.1.setPort _ _).answer _ _ _
  · exact hb _ h

/-- A run that does not reach the jobs leaves them. -/
theorem Reaches.steady {c : Scope} (hc : c.jobs = false) (hr : Reaches c s t) (h : s.steady) : t.steady := by
  have run : ∀ {u v : State}, Moves c u v → u.steady → v.steady := fun hm hu => hu.of_work (hm.work hc) (by rw [hm.store])
  obtain hm | ⟨p, ⟨-, rfl⟩ | ⟨-, i, ⟨tag, a, u, hm, rfl⟩ | ⟨op, u, x, hm, -, -, rfl⟩⟩⟩ := hr
  · exact run hm h
  · exact h.setPort _ _
  · exact (run hm (h.setPort _ _)).answer _ _ _
  · exact ((run hm (h.setPort _ _)).setPort p _).askGrant _ _

/-- An operation on the jobs alone that leaves the engine. -/
theorem State.steady.staffed (h : s.steady) (ha : t.agrees) (he : t.work.state = s.work.state ∧ t.work.active = s.work.active) :
    t.steady := ⟨ha, by unfold Work.manned; rw [he.1, he.2]; exact h.2⟩

theorem State.steady.staffed_of_engine (h : s.steady) (ha : t.agrees) (he : t.engine = s.engine) : t.steady :=
  h.staffed ha ⟨congrArg Engine.state he, congrArg (fun e : Engine => e.active.map SearchRecord.job) he⟩

/-- A command that leaves the statuses in agreement with the jobs. -/
def Instr.Steadies (i : Instr) (s : State) : Prop := ∃ t, exec i s = .next t ∧ t.steady

theorem Instr.Steadies.request {i : Instr} {p : Port} {a : Access} {body : State → State}
    (he : exec i s = .next (Machine.request i p a body s)) (h : s.ordered) (hb : ∀ u : State, u.ordered → (body u).steady) :
    Instr.Steadies i s := ⟨_, he, request_steady hb h⟩

/-! ### Submissions (R124 to R130) -/

theorem refuseSubmission_steady (p : Port) (tag : Byte) (st : Status) (h : s.steady) : (refuseSubmission p tag st s).steady := by
  unfold refuseSubmission
  split
  · exact (h.quiet (armSpace_moves p s)).refuse _ _ _
  · exact h.refuse _ _ _

theorem accept_steady {k : JobWork} (x : JobClass) (b : Submitter) (g l : Option Nat) (h : s.steady)
    (hk : ∀ a z, k.place = some (a, z) → a < 16 ∧ z < 12 ∧ s.status a z = .idle) : (accept k x b g l s).steady :=
  h.staffed_of_engine (accept_agrees x b g l h.1 hk) (acceptWith_engine _ _ _ _ _ _ s)

/-- Past its checks a submission names an IDLE entry of the table (R124). -/
theorem State.entryCheck_idle {p : Port} {a z : Nat} (hp : s.store.profile.sound) (hc : s.entryCheck p a z = none) :
    a < 16 ∧ z < 12 ∧ s.status a z = .idle := by
  unfold State.entryCheck at hc
  split at hc
  · cases hc
  · rename_i hh
    split at hc
    · cases hc
    · split at hc
      · cases hc
      · rename_i hi
        obtain ⟨ha, hz⟩ := hp.in_table (by simpa using hh)
        exact ⟨ha, hz, by simpa using hi⟩

theorem submitJob_steady {k : JobWork} (p : Port) (tag : Byte) (x : JobClass) (b : Submitter) (l : Option Nat) (h : s.ordered)
    {a z : Nat} (hk : k.place = some (a, z)) (hc : s.entryCheck p a z = none) : (submitJob p tag k x b l s).steady := by
  refine State.steady.reply (advance_steady (accept_steady x b none l h.2.1 fun a' z' hp => ?_)) _ _ _
  obtain ⟨rfl, rfl⟩ := Prod.mk.inj (Option.some.inj (hk.symm.trans hp))
  exact State.entryCheck_idle h.1 hc

theorem exec_submitMeasure_steadies (p : Port) (tag head zone cls limit : Byte) (h : s.ordered) :
    Instr.Steadies (.submitMeasure p tag head zone cls limit) s := by
  refine .request rfl h fun u hu => ?_
  split
  · split
    · exact refuseSubmission_steady _ _ _ hu.2.1
    · exact submitJob_steady _ _ _ _ _ hu rfl ‹_›
  · exact hu.2.1.refuse _ _ _

theorem exec_submitReferenceCheck_steadies (p : Port) (tag zone : Byte) (h : s.ordered) :
    Instr.Steadies (.submitReferenceCheck p tag zone) s := by
  refine .request rfl h fun u hu => ?_
  split
  · exact refuseSubmission_steady _ _ _ hu.2.1
  · exact submitJob_steady _ _ _ _ _ hu rfl ‹_›

theorem exec_submitMove_steadies (p : Port) (tag : Byte) (target : CountWord) (h : s.ordered) :
    Instr.Steadies (.submitMove p tag target) s := by
  refine .request rfl h fun u hu => ?_
  dsimp only
  split
  · exact refuseSubmission_steady _ _ _ hu.2.1
  · exact (advance_steady (accept_steady _ _ _ _ hu.2.1 fun a z hp => by cases hp)).answer _ _ _

theorem mem_sweepPlaces {firstHead lastHead firstZone lastZone : Nat} {x : Nat × Nat}
    (hx : x ∈ sweepPlaces firstHead lastHead firstZone lastZone) : x.1 ≤ lastHead ∧ x.2 ≤ lastZone := by
  unfold sweepPlaces at hx
  obtain ⟨a, ha, hx⟩ := List.mem_flatMap.mp hx
  obtain ⟨z, hz, rfl⟩ := List.mem_map.mp hx
  rw [List.mem_range'_1] at ha hz
  exact ⟨by simp only; omega, by simp only; omega⟩

theorem sweepPlaces_nodup (firstHead lastHead firstZone lastZone : Nat) : (sweepPlaces firstHead lastHead firstZone lastZone).Nodup := by
  unfold sweepPlaces
  refine List.nodup_flatMap.mpr ⟨fun a _ => List.Nodup.map (fun x y h => (Prod.mk.inj h).2) List.nodup_range', ?_⟩
  refine List.Nodup.pairwise_of_forall_ne List.nodup_range' fun a _ b _ hne => ?_
  intro x ha hb
  obtain ⟨_, -, rfl⟩ := List.mem_map.mp ha
  obtain ⟨_, -, he⟩ := List.mem_map.mp hb
  exact hne (Prod.mk.inj he).1.symm

/-- Past its checks the members of a sweep are IDLE entries of the table (R130). -/
theorem State.membersOf_idle {p : Port} {firstHead lastHead firstZone lastZone : Nat} (hp : s.store.profile.sound)
    (hc : s.sweepCheck p firstHead lastHead firstZone lastZone = none) {x : Nat × Nat}
    (hx : x ∈ s.membersOf (sweepPlaces firstHead lastHead firstZone lastZone)) : x.1 < 16 ∧ x.2 < 12 ∧ s.status x.1 x.2 = .idle := by
  obtain ⟨hmem, hidle⟩ := List.mem_filter.mp hx
  obtain ⟨h1, h2⟩ := mem_sweepPlaces hmem
  unfold State.sweepCheck at hc
  split at hc
  · cases hc
  · rename_i hh
    obtain ⟨ha, hz⟩ := hp.in_table (a := lastHead) (z := lastZone) (by simp only [not_or] at hh; simpa using hh.2.2)
    exact ⟨by omega, by omega, by simpa using hidle⟩

theorem submitSweep_steady (p : Port) (tag : Byte) (x : JobClass) (b : Bool) {members : List (Nat × Nat)} (k : Nat) (h : s.steady)
    (hn : members.Nodup) (hm : ∀ m ∈ members, m.1 < 16 ∧ m.2 < 12 ∧ s.status m.1 m.2 = .idle) :
    (submitSweep p tag x b members k s).steady := by
  have opened : (openGroup members.length b s).steady :=
    h.staffed_of_engine (Work.agrees.rearranged h.1 h.1.stands h.1.zone) rfl
  refine State.steady.reply (advance_steady (opened.staffed_of_engine (acceptAll_agrees x s.newGroupId hn opened.1 hm)
    (acceptAll_engine _ _ _ _))) _ _ _

theorem exec_submitSweep_steadies (p : Port) (tag firstHead lastHead firstZone lastZone cls publishAtEnd : Byte) (h : s.ordered) :
    Instr.Steadies (.submitSweep p tag firstHead lastHead firstZone lastZone cls publishAtEnd) s := by
  refine .request rfl h fun u hu => ?_
  dsimp only
  split
  · split
    · exact hu.2.1.refuse _ _ _
    · rename_i hc
      split
      · exact hu.2.1.reply _ _ _
      · split
        · exact refuseSubmission_steady _ _ _ hu.2.1
        · exact submitSweep_steady _ _ _ _ _ hu.2.1 ((sweepPlaces_nodup _ _ _ _).filter _) fun m hm => State.membersOf_idle hu.1 hc hm
  · exact hu.2.1.refuse _ _ _

/-! ### CANCEL and RESUME ENGINE (R58, R133, R134, R153) -/

theorem RemovesQueued.steady {f : JobRecord → State → State} (hf : RemovesQueued f) {l : List JobRecord} (hl : (l.map JobRecord.id).Nodup)
    (h : s.steady) (hq : (s.work.queue.map JobRecord.id).Nodup) (hm : ∀ j ∈ l, j ∈ s.work.queue) : (forQueued f l s).steady :=
  h.staffed (forQueued_agrees hf hl h.1 hq hm) (forQueued_engine hf l s)

theorem RemovesStacked.steady {g : SearchRecord → State → State} (hg : RemovesStacked g) {l : List SearchRecord}
    (hl : (l.map fun r => r.job.id).Nodup) (h : s.steady) (hq : (s.work.stack.map JobRecord.id).Nodup) (hm : ∀ r ∈ l, r.job ∈ s.work.stack) :
    (forStacked g l s).steady := h.staffed (forStacked_agrees hg hl h.1 hq hm) (forStacked_engine hg l s)

theorem State.stack_job_mem (hr : r ∈ s.stack) : r.job ∈ s.work.stack := List.mem_map_of_mem hr

theorem State.filtered_stack_ids (h : (s.work.stack.map JobRecord.id).Nodup) (p : SearchRecord → Bool) :
    ((s.stack.filter p).map fun r => r.job.id).Nodup := by
  refine nodup_filter_map ?_ p
  simpa [State.work, Function.comp_def] using h

theorem State.findJob_mem {n : Nat} {x : JobPlace} (h : s.findJob n = some x) :
    match x with
    | .queued j => j ∈ s.jobs.queue
    | .active r => s.engine.active = some r
    | .stacked r => r ∈ s.stack := by
  unfold State.findJob at h
  split at h
  · cases h
    exact List.mem_of_find?_eq_some ‹_›
  · split at h
    · cases h
      exact (Option.filter_eq_some_iff.mp ‹_›).1
    · obtain ⟨r, hr, rfl⟩ := Option.map_eq_some_iff.mp h
      exact List.mem_of_find?_eq_some hr

theorem cancelJob_steady (p : Port) (tag : Byte) {x : JobPlace} {n : Nat} (h : s.ordered) (hx : s.findJob n = some x) :
    (cancelJob p tag x s).steady := by
  obtain ⟨-, hs, hq, hst⟩ := h
  have found := State.findJob_mem hx
  cases x with
  | queued j =>
    have gone : (cancelQueued j s).steady := hs.staffed (cancelQueued_removes.agrees j s hs.1 hq found) (cancelQueued_removes.engine j s)
    exact (advance_steady (gone.quiet (postSpace_moves _))).reply _ _ _
  | active r =>
    unfold cancelJob
    dsimp only
    split
    · exact (endJob_steady _ hs).reply _ _ _
    · exact hs.refuse _ _ _
  | stacked r =>
    have gone : (cancelStacked r s).steady := hs.staffed (cancelStacked_removes.agrees r s hs.1 hst (State.stack_job_mem found))
      (cancelStacked_removes.engine r s)
    exact (advance_steady gone).reply _ _ _

theorem cancelForm_steady (p : Port) (tag id : Byte) (h : s.ordered) : (cancelForm p tag id s).steady := by
  unfold cancelForm
  split
  · exact h.2.1.refuse _ _ _
  · split
    · exact h.2.1.refuse _ _ _
    · split
      · exact h.2.1.refuse _ _ _
      · exact cancelJob_steady p tag h ‹_›

theorem cancelMembers_steady (p : Port) (tag : Byte) (id : Nat) (h : s.ordered) : (cancelMembers p tag id s).steady := by
  obtain ⟨-, hs, hq, hst⟩ := h
  have marked : (markCancelled id s).steady := hs.staffed_of_engine (Work.agrees.rearranged hs.1 hs.1.stands hs.1.zone) rfl
  have queued := cancelQueued_removes.steady (nodup_filter_map hq fun j : JobRecord => j.inGroup id) marked hq
    fun j hj => (List.mem_filter.mp hj).1
  have freed : ∀ v : State, v.steady → v.work.stack = s.work.stack →
      (forStacked cancelStacked (s.stack.filter fun r => r.job.inGroup id) v).steady := fun v hv hw =>
    cancelStacked_removes.steady (State.filtered_stack_ids hst _) hv (by rw [hw]; exact hst) fun r hr => by
      rw [hw]
      exact State.stack_job_mem (List.mem_filter.mp hr).1
  have stack : (forQueued cancelQueued (s.jobs.queue.filter fun j => j.inGroup id) (markCancelled id s)).work.stack = s.work.stack :=
    forQueued_stack cancelQueued_removes _ _
  have space := postSpace_moves (c := .still) (forQueued cancelQueued (s.jobs.queue.filter fun j => j.inGroup id) (markCancelled id s))
  have posted := freed _ (queued.quiet space) ((congrArg Work.stack (space.work rfl)).trans stack)
  have plain := freed _ queued stack
  unfold cancelMembers
  dsimp only
  refine State.steady.reply ?_ _ _ _
  split <;> split
  · exact endJob_steady _ plain
  · exact endJob_steady _ posted
  · exact advance_steady plain
  · exact advance_steady posted

theorem cancelGroupForm_steady (p : Port) (tag id : Byte) (h : s.ordered) : (cancelGroupForm p tag id s).steady := by
  unfold cancelGroupForm
  split
  · exact h.2.1.refuse _ _ _
  · split
    · exact h.2.1.refuse _ _ _
    · split
      · exact h.2.1.refuse _ _ _
      · split
        · exact h.2.1.refuse _ _ _
        · exact cancelMembers_steady p tag _ h

theorem exec_cancel_steadies (p : Port) (tag id groupFlag : Byte) (h : s.ordered) : Instr.Steadies (.cancel p tag id groupFlag) s := by
  refine .request rfl h fun u hu => ?_
  split
  · exact hu.2.1.refuse _ _ _
  · exact cancelGroupForm_steady p tag id hu
  · exact cancelForm_steady p tag id hu

theorem exec_resumeEngine_steadies (p : Port) (tag : Byte) (h : s.ordered) : Instr.Steadies (.resumeEngine p tag) s := by
  refine .request rfl h fun u hu => ?_
  dsimp only
  split
  · exact hu.2.1.refuse _ _ _
  · split
    · rename_i hf
      refine State.steady.reply (advance_steady ?_) _ _ _
      exact State.agrees.steady_of_inactive (Work.agrees.rearranged hu.2.1.1 hu.2.1.1.stands hu.2.1.1.zone)
        (hu.2.1.inactive (by rw [hf]; rfl) (by rw [hf]; decide) : u.engine.active = none) rfl nofun
    · exact hu.2.1.reply _ _ _

/-! ### Handshakes -/

theorem exec_moveDone_steadies (p : Port) (tag sequence : Byte) (h : s.ordered) : Instr.Steadies (.moveDone p tag sequence) s := by
  refine .request rfl h fun u hu => ?_
  dsimp only
  split
  · exact hu.2.1.refuse _ _ _
  · split
    · exact (acceptMoveDone_steady _ hu.2.1).reply _ _ _
    · exact (acceptMoveDone_steady _ hu.2.1).reply _ _ _
    · exact hu.2.1.reply _ _ _
    · exact hu.2.1.reply _ _ _

theorem exec_moveRefused_steadies (p : Port) (tag sequence reason : Byte) (h : s.ordered) :
    Instr.Steadies (.moveRefused p tag sequence reason) s := by
  refine .request rfl h fun u hu => ?_
  have refused : (refuseMove reason u).steady := endJob_steady _ (hu.2.1.quiet (endMove_moves _ u))
  split
  · exact hu.2.1.refuse _ _ _
  · split
    · exact refused.reply _ _ _
    · exact refused.reply _ _ _
    · exact hu.2.1.refuse _ _ _
    · exact hu.2.1.refuse _ _ _

theorem exec_headRefused_steadies (p : Port) (tag sequence reason : Byte) (h : s.ordered) :
    Instr.Steadies (.headRefused p tag sequence reason) s := by
  refine .request rfl h fun u hu => ?_
  have refused : (refuseHead reason u).steady := endJob_steady _ (hu.2.1.quiet (endHead_moves _ u))
  split
  · exact hu.2.1.refuse _ _ _
  · split
    · exact refused.reply _ _ _
    · exact refused.reply _ _ _
    · exact hu.2.1.refuse _ _ _
    · exact hu.2.1.refuse _ _ _

theorem exec_headSelected_steadies (p : Port) (tag sequence head : Byte) (h : s.ordered) :
    Instr.Steadies (.headSelected p tag sequence head) s := by
  refine .request rfl h fun u hu => ?_
  split
  · exact hu.2.1.refuse _ _ _
  · exact (headReport_steady sequence (by omega) hu.2.1).refuse _ _ _

theorem exec_settleTimerExpiry_steadies (h : s.steady) : Instr.Steadies .settleTimerExpiry s := by
  refine ⟨_, rfl, ?_⟩
  split
  · exact settleMet_steady h
  · exact h

theorem exec_moveTimeoutExpiry_steadies (h : s.steady) : Instr.Steadies .moveTimeoutExpiry s := by
  refine ⟨_, rfl, ?_⟩
  split
  · exact endJob_steady _ (h.quiet (timeOutMove_moves s))
  · exact h
  · exact h

theorem exec_headSelectTimeoutExpiry_steadies (h : s.steady) : Instr.Steadies .headSelectTimeoutExpiry s := by
  refine ⟨_, rfl, ?_⟩
  split
  · exact endJob_steady _ (h.quiet (timeOutHead_moves s))
  · exact h
  · exact h

theorem exec_headSettleTimerExpiry_steadies (h : s.steady) : Instr.Steadies .headSettleTimerExpiry s := by
  refine ⟨_, rfl, ?_⟩
  split
  · exact headReady_steady h
  · exact h

theorem State.lookingUp_active (h : s.lookingUp = some r) : s.engine.active = some r := by
  unfold State.lookingUp at h
  split at h
  · exact (Option.filter_eq_some_iff.mp h).1
  · cases h

theorem exec_e0Lookup_steadies (h : s.steady) : Instr.Steadies .e0Lookup s := by
  refine ⟨_, rfl, ?_⟩
  split
  · split
    · exact lookUp_steady h (State.lookingUp_active ‹_›)
    · exact h.release
  · exact h

/-! ### The Sample Path and the Position Frame -/

theorem exec_wedgeWindowExpiry_steadies (h : s.steady) : Instr.Steadies .wedgeWindowExpiry s := by
  refine ⟨_, rfl, ?_⟩
  split
  · exact wedgeArrival_steady _ (setSample_steady _ h)
  · exact h
  · exact h

theorem exec_servoLossTimeoutExpiry_steadies (h : s.steady) : Instr.Steadies .servoLossTimeoutExpiry s := by
  refine ⟨_, rfl, ?_⟩
  split
  · dsimp only
    split
    · exact endJob_steady _ (setSample_steady _ h)
    · exact setSample_steady _ h
  · exact h
  · exact h

theorem exec_sampleTake_steadies (h : s.steady) : Instr.Steadies .sampleTake s := by
  refine ⟨_, rfl, ?_⟩
  split
  · split
    · exact takeSample_steady _ _ h
    · exact h
  · exact h

theorem exec_filterSample_steadies (a b z pf : Bool) (h : s.steady) : Instr.Steadies (.filterSample a b z pf) s := by
  refine ⟨_, rfl, ?_⟩
  split
  · exact filterSample_steady a b z pf h
  · exact firstFilterSample_steady a b z pf h

end Sys2Proof.Machine
end

section
/-! SUPPORT. The commands of the ports, the store and the table, and O58: every step leaves the statuses in agreement with the jobs
(R2). -/

namespace Sys2Proof.Machine

variable {s t u : State} {r : SearchRecord}

/-! ### CLEAR BENCH (R24) -/

/-- A job that ends CLEARED leaves the other jobs where they are. -/
theorem closeJob_cleared_work (ha : s.engine.active = some r) :
    (closeJob .cleared s).work = { s.work with statuses := r.job.work.mark .idle s.statuses, active := none } := by
  have left : Moves .still s (withdrawBoth (.ended .cleared) (leaveWork s)) := (leaveWork_moves s).trans (withdrawBoth_moves _ _)
  have hv : (withdrawBoth (.ended .cleared) (leaveWork s)).statuses = s.statuses := congrArg Work.statuses (left.work rfl)
  unfold closeJob
  simp only [ha, ↓reduceIte]
  rw [clearActive_work, left.work rfl, hv]

theorem settleEngine_steady (h : s.agrees) (ha : s.engine.active = none) : (settleEngine s).steady := by
  have still : (settleEngine s).agrees := Work.agrees.rearranged h h.stands h.zone
  refine still.steady_of_inactive ha ?_ ?_ <;> unfold settleEngine <;> dsimp only [State.setEngine] <;> split <;> simp [EngineState.working]

theorem settleEngine_queue (s : State) : (settleEngine s).work.queue = s.work.queue := rfl

theorem settleEngine_stack (s : State) : (settleEngine s).work.stack = s.work.stack := rfl

/-- Step 1 of R24 leaves no active job but one whose commit holds the grant, and the other jobs where they are. -/
theorem clearEngine_steady (h : s.steady) :
    (clearEngine s).steady ∧ (clearEngine s).work.queue = s.work.queue ∧ (clearEngine s).work.stack = s.work.stack := by
  have close : s.engine.state.working = true → (settleEngine (closeJob .cleared s)).steady
      ∧ (settleEngine (closeJob .cleared s)).work.queue = s.work.queue ∧ (settleEngine (closeJob .cleared s)).work.stack = s.work.stack := by
    intro hw
    obtain ⟨r, ha⟩ := Option.isSome_iff_exists.mp (h.active hw)
    obtain ⟨closed, hn⟩ := closeJob_agrees .cleared h.1 ha
    have hk := closeJob_cleared_work ha
    exact ⟨settleEngine_steady closed hn, (settleEngine_queue _).trans (by rw [hk]), (settleEngine_stack _).trans (by rw [hk])⟩
  have asked : (withdrawAsk .engine s).steady := h.of_aside (withdrawAsk_aside .engine s)
  have hwork : (withdrawAsk .engine s).work = s.work := State.work_of_aside (withdrawAsk_aside .engine s)
  unfold clearEngine
  split
  · exact ⟨h, rfl, rfl⟩
  · exact ⟨h, rfl, rfl⟩
  · unfold clearCommit
    split
    · exact ⟨h.of_work rfl rfl, rfl, rfl⟩
    · split
      · rename_i r ha
        have hw := clearActive_work r (withdrawAsk .engine s)
        rw [hwork] at hw
        refine ⟨settleEngine_steady (clearActive_agrees asked.1 ?_ rfl) rfl,
          (settleEngine_queue _).trans (by rw [hw]), (settleEngine_stack _).trans (by rw [hw])⟩
        rw [hwork]
        simp [State.work, ha]
      · rename_i ha
        refine ⟨settleEngine_steady asked.1 ?_, (settleEngine_queue _).trans (by rw [hwork]), (settleEngine_stack _).trans (by rw [hwork])⟩
        rw [State.engine_of_aside (withdrawAsk_aside .engine s), ha]
  · rename_i hp
    unfold clearPublish
    split
    · exact ⟨h.of_work rfl rfl, rfl, rfl⟩
    · refine ⟨settleEngine_steady asked.1 ?_, (settleEngine_queue _).trans (by rw [hwork]), (settleEngine_stack _).trans (by rw [hwork])⟩
      rw [State.engine_of_aside (withdrawAsk_aside .engine s)]
      exact h.inactive (by rw [hp]; rfl) (by rw [hp]; decide)
  · exact close (by rw [‹s.engine.state = _›]; rfl)
  · exact close (by rw [‹s.engine.state = _›]; rfl)
  · exact close (by rw [‹s.engine.state = _›]; rfl)
  · exact close (by rw [‹s.engine.state = _›]; rfl)

theorem filter_absent {α : Type} {f : α → Nat} (l : List α) : l.filter (fun k => decide (∀ j ∈ l, f k ≠ f j)) = [] :=
  List.filter_eq_nil_iff.mpr fun k hk h => (of_decide_eq_true h) k hk rfl

/-- Steps 2 and 3 of R24 leave no job but an active one. -/
theorem clearJobs_steady (h : s.steady) (hi : s.idsApart) : (clearJobs s).steady := by
  obtain ⟨hq, hst⟩ := hi
  have hst' : (s.stack.map fun r => r.job.id).Nodup := by simpa [State.work, Function.comp_def] using hst
  have stacked := dropStacked_removes.steady hst' h hst fun r hr => State.stack_job_mem hr
  have hqueue : (forStacked dropStacked s.stack s).work.queue = s.work.queue := forStacked_queue dropStacked_removes _ s
  have dropped := dropQueued_removes.steady (l := s.jobs.queue) hq stacked (by rw [hqueue]; exact hq) fun j hj => by rw [hqueue]; exact hj
  have noQueue : (forQueued dropQueued s.jobs.queue (forStacked dropStacked s.stack s)).work.queue = [] := by
    rw [forQueued_queue dropQueued_removes, hqueue]
    exact filter_absent (f := JobRecord.id) s.jobs.queue
  have noStack : (forQueued dropQueued s.jobs.queue (forStacked dropStacked s.stack s)).work.stack = [] := by
    rw [forQueued_stack dropQueued_removes, forStacked_stack dropStacked_removes]
    refine List.filter_eq_nil_iff.mpr fun k hk h => ?_
    obtain ⟨r, hr, rfl⟩ := List.mem_map.mp hk
    exact (of_decide_eq_true h) r hr rfl
  have emptied : ∀ v : State, v.steady → v.work.queue = [] → v.work.stack = [] → ({ v with stack := [], jobs := .reset } : State).steady := by
    intro v hv h1 h2
    refine hv.staffed_of_engine (Work.agrees.rearranged hv.1 ?_ fun z hz => by cases hz) rfl
    have hs : v.work.stationed = ({ v with stack := [], jobs := .reset } : State).work.stationed := by
      rw [Work.stationed, Work.parked, h1, h2]
      rfl
    exact hs ▸ hv.1.stands
  unfold clearJobs
  dsimp only
  split
  · have space := postSpace_moves (c := .still) (forQueued dropQueued s.jobs.queue (forStacked dropStacked s.stack s))
    exact emptied _ (dropped.quiet space) (by rw [space.work rfl, noQueue]) (by rw [space.work rfl, noStack])
  · exact emptied _ dropped noQueue noStack

theorem exec_clearBench_steadies (p : Port) (tag : Byte) (h : s.ordered) : Instr.Steadies (.clearBench p tag) s := by
  refine .request rfl h fun u hu => State.steady.askGrant ?_ _ _
  obtain ⟨engine, hq, hst⟩ := clearEngine_steady hu.2.1
  have apart : (clearEngine u).idsApart := by
    obtain ⟨-, -, h1, h2⟩ := hu
    exact ⟨hq ▸ h1, hst ▸ h2⟩
  exact (((clearJobs_steady engine apart).setPort _ _).setPort _ _).setPort _ _

/-! ### ATTACH and RESET PORT (R189, R194, R195) -/

theorem exec_attach_steadies (p : Port) (tag : Byte) (h : s.ordered) : Instr.Steadies (.attach p tag) s := by
  refine .request rfl h fun u hu => State.steady.reply ?_ _ _ _
  split
  · exact hu.2.1
  · obtain ⟨v, w, x, hm, he⟩ := postOwed_moves (c := .still) rfl p (setAttached p true u)
    have attached : (setAttached p true u).steady := hu.2.1.setPort _ _
    have owed : (postOwed p (setAttached p true u)).steady := by
      rw [he]
      exact (attached.quiet hm).of_work rfl rfl
    exact advance_steady (owed.quiet (pulseIfEligible_moves p _))

theorem clearWorkOf_steady (q : Port) (h : s.steady) (hi : s.idsApart) : (clearWorkOf q s).steady := by
  obtain ⟨hq, hst⟩ := hi
  have disarm := disarmSpace_moves (c := .still) q s
  have hwork : (disarmSpace q s).work = s.work := disarm.work rfl
  have queued := dropQueued_removes.steady (l := s.queuedOf q) (nodup_filter_map hq _) (h.quiet disarm) (by rw [hwork]; exact hq)
    fun j hj => by rw [hwork]; exact (List.mem_filter.mp hj).1
  have hstack : (forQueued dropQueued (s.queuedOf q) (disarmSpace q s)).work.stack = s.work.stack := by
    rw [forQueued_stack dropQueued_removes, hwork]
  have stacked := dropStacked_removes.steady (l := s.stackedOf q) (State.filtered_stack_ids hst _) queued (by rw [hstack]; exact hst)
    fun r hr => by rw [hstack]; exact State.stack_job_mem (List.mem_filter.mp hr).1
  have groups : ∀ v : State, v.steady →
      (if q = .workstation then v.setJobs { v.jobs with groups := v.jobs.groups.filter Group.due } else v).steady := fun v hv => by
    split
    · exact hv.staffed_of_engine (Work.agrees.rearranged hv.1 hv.1.stands hv.1.zone) rfl
    · exact hv
  unfold clearWorkOf
  dsimp only
  split
  · exact groups _ stacked
  · exact (groups _ stacked).quiet (postSpace_moves _)

theorem resetStanding_steady (p q : Port) (h : s.steady) (hi : s.idsApart) : (resetStanding p q s).steady := by
  have read : (if q = p then s else withdrawRead q (dropReply q s)).work = s.work
      ∧ (if q = p then s else withdrawRead q (dropReply q s)).store = s.store := by
    split
    · exact ⟨rfl, rfl⟩
    · exact ⟨(State.work_of_aside (withdrawRead_aside q (dropReply q s))).trans rfl,
        (State.store_of_aside (withdrawRead_aside q (dropReply q s))).trans rfl⟩
  have cleared : ∀ v : State, v.work = s.work → v.store = s.store → ∀ x, (clearWorkOf q (v.setPort q x)).steady := fun v hw hs x =>
    clearWorkOf_steady q (State.steady.setPort (h.of_work hw (by rw [hs])) q x) (by
      show v.idsApart
      unfold State.idsApart
      rw [hw]
      exact hi)
  unfold resetStanding
  dsimp only
  split
  · exact (cleared _ read.1 read.2 _).quiet (dropHome_moves _)
  · exact cleared _ read.1 read.2 _

theorem withdrawCommit_steady (h : s.steady) : (withdrawCommit s).steady := by
  unfold withdrawCommit
  split
  · rename_i r ha
    exact afterJob_steady (clearActive_agrees h.1 (by simp [State.work, ha]) rfl) rfl _ _
  · exact h

theorem exec_resetPort_steadies (p : Port) (tag target : Byte) (h : s.ordered) : Instr.Steadies (.resetPort p tag target) s := by
  refine .request rfl h fun u hu => ?_
  split
  · exact hu.2.1.refuse _ _ _
  · rename_i q _
    split
    · exact hu.2.1.refuse _ _ _
    · have asked := withdrawAskIn_moves (c := .still) (u.resetCase q) u
      have apart : (withdrawAskIn (u.resetCase q) u).idsApart := by
        unfold State.idsApart
        rw [asked.work rfl]
        exact hu.2.2
      have base := resetStanding_steady p q (hu.2.1.quiet asked) apart
      unfold resetPort
      dsimp only
      split
      · exact (endJob_steady _ base).reply _ _ _
      · exact (withdrawCommit_steady base).reply _ _ _
      · exact base.of_work rfl rfl
      · exact (advance_steady base).reply _ _ _

/-! ### The Profile Store (R199 to R203) -/

/-- Another profile in its ranges. -/
theorem State.steady.of_profile (h : s.steady) (hw : t.work = s.work) (hp : t.store.profile.sound) : t.steady := by
  obtain ⟨⟨h1, h2, -, -⟩, hm⟩ := h
  unfold State.steady State.agrees
  rw [hw]
  exact ⟨⟨h1, h2, hp.head_lt, hp.zones_le⟩, hm⟩

theorem clearDrift_steady (h : s.steady) : (clearDrift s).steady :=
  h.staffed_of_engine (Work.agrees.rearranged h.1 h.1.stands fun z hz => by cases hz) rfl

theorem paramEffects_steady (n : Nat) (h : s.steady) : (paramEffects n s).steady := by
  unfold paramEffects
  split
  · exact setSample_steady _ h
  · split
    · exact clearDrift_steady h
    · split
      · exact setFrame_steady _ h
      · split
        · exact testTravel_steady h
        · exact h

theorem exec_setParameter_steadies (p : Port) (tag number index : Byte) (value : ValueWord) (h : s.ordered) :
    Instr.Steadies (.setParameter p tag number index value) s := by
  refine .request rfl h fun u hu => ?_
  split
  · exact hu.2.1.refuse _ _ _
  · rename_i n i hn
    split
    · exact hu.2.1.refuse _ _ _
    · split
      · exact hu.2.1.refuse _ _ _
      · have stored : (u.setStore { u.store with profile := u.store.profile.setParam n i value.toInt }).steady :=
          hu.2.1.of_profile rfl (Profile.setParam_sound hu.1 (paramArg_mem hn) _)
        have effects := paramEffects_steady n stored
        unfold setParameter
        dsimp only
        split
        · exact effects.askGrant _ _
        · exact effects.answer _ _ _

theorem exec_selectProfile_steadies (p : Port) (tag slot : Byte) (h : s.ordered) : Instr.Steadies (.selectProfile p tag slot) s := by
  refine .request rfl h fun u hu => ?_
  split
  · exact hu.2.1.refuse _ _ _
  · split
    · exact hu.2.1.refuse _ _ _
    · exact hu.2.1.of_work rfl rfl

theorem exec_saveProfile_steadies (p : Port) (tag slot : Byte) (h : s.ordered) : Instr.Steadies (.saveProfile p tag slot) s := by
  refine .request rfl h fun u hu => ?_
  split
  · exact hu.2.1.refuse _ _ _
  · split
    · exact hu.2.1.refuse _ _ _
    · split
      · exact hu.2.1.refuse _ _ _
      · exact hu.2.1.of_work rfl rfl

theorem goodLoad_steady (slot : Nat) {pr : Profile} (hp : pr.sound) (h : s.steady) : (goodLoad slot pr s).steady := by
  have stored : (s.setStore { state := .ready, profile := pr, slot := some slot, owedW := none, owedP := none }).steady :=
    h.of_profile rfl hp
  unfold goodLoad
  dsimp only
  split
  · exact testTravel_steady (setFrame_steady _ stored)
  · exact testTravel_steady (setSample_steady _ (setFrame_steady _ stored))

theorem postOrOwe_steady (p : Port) (slot : Nat) (h : s.steady) : (postOrOwe p slot s).steady := by
  obtain ⟨u, w, x, hm, he⟩ := postOrOwe_moves (c := .still) rfl p slot s
  rw [he]
  exact (h.quiet hm).of_work rfl rfl

theorem completeLoad_steady (slot : Nat) {loaded : Option Profile} (hp : ∀ pr, loaded = some pr → pr.sound) (h : s.steady) :
    (completeLoad slot loaded s).steady := by
  have effects : (loadEffects s).steady := setSample_steady _ (clearDrift_steady (setFrame_steady _ h))
  unfold completeLoad
  split
  · exact advance_steady (goodLoad_steady slot (hp _ rfl) effects)
  · have stopped : ∀ (st : ProfileStore) (f : PositionFrame) (sp : SamplePath), st.profile = (loadEffects s).store.profile →
        ({ loadEffects s with store := st, frame := f, sample := sp } : State).steady := fun st f sp hst => effects.of_work rfl hst
    exact postOrOwe_steady _ _ (postOrOwe_steady _ _ (stopped _ _ _ rfl))

theorem exec_profileLoadComplete_steadies (b : Option Byte) (image : Option (List Byte)) (h : s.steady) :
    Instr.Steadies (.profileLoadComplete b image) s := by
  refine ⟨_, rfl, ?_⟩
  split
  · have loaded := completeLoad_steady (loadSlot ‹_› b) (fun pr hpr => loadedProfile_sound (image := image) hpr) h
    dsimp only
    split
    · exact loaded.of_work rfl rfl
    · exact loaded.askGrant _ _
  · exact h
  · exact h
  · exact h

theorem exec_profileSaveComplete_steadies (x : Option (List Byte)) (h : s.steady) : Instr.Steadies (.profileSaveComplete x) s := by
  refine ⟨_, rfl, ?_⟩
  split
  · have saved : (advance (s.setStore { s.store with state := .ready })).steady := advance_steady (h.of_work rfl rfl)
    refine State.steady.answerPending ?_ _ _
    split
    · exact saved
    · exact saved.quiet (postFault_moves rfl _ _)
  · exact h
  · exact h
  · exact h

/-! ### The table (R8, R19, R159) -/

theorem exec_setArbitration_steadies (q : Port) (tag a w d p preemption holdTime : Byte) (h : s.ordered) :
    Instr.Steadies (.setArbitration q tag a w d p preemption holdTime) s := by
  refine .request rfl h fun u hu => ?_
  split
  · exact State.steady.reply (hu.2.1.of_aside (by simp [setArbitration])) _ _ _
  · exact hu.2.1.refuse _ _ _

theorem exec_holdTimerExpiry_steadies (n : Nat) (h : s.steady) : Instr.Steadies (.holdTimerExpiry n) s := by
  refine ⟨_, rfl, ?_⟩
  split
  · exact h.of_aside (by simp)
  · exact h
  · exact h

theorem commitTable_work (r : SearchRecord) (part : StagedPart) (s : State) : (commitTable r part s).work = s.work := by
  unfold commitTable
  split
  · rfl
  · dsimp only
    split <;> rfl

theorem commitTable_store (r : SearchRecord) (part : StagedPart) (s : State) : (commitTable r part s).store = s.store := by
  unfold commitTable
  split
  · rfl
  · dsimp only
    split <;> rfl

theorem commitTable_engine (r : SearchRecord) (part : StagedPart) (s : State) : (commitTable r part s).engine = s.engine := by
  unfold commitTable
  split
  · rfl
  · dsimp only
    split <;> rfl

theorem answerAll_steady (l : List ResetReply) (h : s.steady) : (answerAll l s).steady := by
  induction l generalizing s with
  | nil => exact h
  | cons x l ih =>
    have forgotten : (forgetDrops x s).steady := by
      unfold forgetDrops
      split
      · exact h.setPort _ _
      · exact h
    exact ih (forgotten.answerPending _ _)

theorem endCommit_steady {o : JobOutcome} {part : StagedPart} {drift : Option Int} {marked : Bool} (h : s.agrees)
    (ha : s.work.active = some r.job) : (endCommit r o part drift marked s).steady := by
  unfold endCommit
  dsimp only
  split
  · exact answerAll_steady _ (State.steady.of_work (s := afterJob s.engine.faultPending true (clearActive r s))
      (afterJob_steady (clearActive_agrees h ha rfl) rfl _ _) rfl rfl)
  · have written := writeRecord_moves (c := .still) (j := r.job) rfl (stagedRecord r o part drift marked s.sample.revolutions) s
    obtain ⟨ended, hn⟩ := accountEnd_clearActive (r := r) (h.quiet written) (by rw [written.work rfl, ha])
    exact afterJob_steady ended hn _ _

theorem commitJob_steady (o : JobOutcome) (part : StagedPart) (h : s.steady) (ha : s.engine.active = some r) :
    (commitJob r o part s).steady := by
  have written : (commitTable r part s).steady := h.of_work (commitTable_work r part s) (by rw [commitTable_store])
  have told := postDrift_moves (c := .still) rfl r.job.work.zone (s.driftFound r.job.work part)
    (s.store.profile.marks (s.driftFound r.job.work part)) (release (commitTable r part s))
  unfold commitJob
  dsimp only
  refine endCommit_steady (written.release.quiet told).1 ?_
  rw [told.work rfl, State.work_of_aside (release_aside _), commitTable_work]
  simp [State.work, ha]

theorem exec_commit_steadies (h : s.steady) : Instr.Steadies .commit s := by
  refine ⟨_, rfl, ?_⟩
  split
  · split
    · exact commitJob_steady _ _ h ‹_›
    · exact h
  · exact h

theorem leavePublish_steady (h : s.agrees) (ha : s.engine.active = none) : (leavePublish s).steady := by
  unfold leavePublish
  split
  · exact State.agrees.steady_of_inactive (s := s.setEngine { s.engine with state := .faultHold, faultPending := false, publishing := none })
      (Work.agrees.rearranged h h.stands h.zone) ha rfl nofun
  · exact advance_steady (State.agrees.steady_of_inactive (s := s.setEngine { s.engine with state := .idle, publishing := none })
      (Work.agrees.rearranged h h.stands h.zone) ha rfl nofun)

theorem exec_groupEndPublish_steadies (h : s.steady) : Instr.Steadies .groupEndPublish s := by
  refine ⟨_, rfl, ?_⟩
  split
  · rename_i hp
    have published : (release (publishTable s)).steady := State.steady.release (h.of_work rfl rfl)
    have told := postWD_moves (c := .still) rfl .published s.publishDetail (release (publishTable s))
    have removed : ∀ v : State, v.agrees → (removePublished v).agrees ∧ (removePublished v).engine = v.engine := fun v hv => by
      unfold removePublished
      split
      · exact ⟨Work.agrees.rearranged hv hv.stands hv.zone, rfl⟩
      · exact ⟨hv, rfl⟩
    obtain ⟨agreed, he⟩ := removed _ (published.quiet told).1
    have none : (postWD .published s.publishDetail (release (publishTable s))).work.active = none := by
      rw [told.work rfl, State.work_of_aside (release_aside _)]
      have hn := h.inactive (by rw [hp.1]; rfl) (by rw [hp.1]; decide)
      exact congrArg (Option.map SearchRecord.job) hn
    exact leavePublish_steady agreed (by rw [he]; simpa [State.work] using none)
  · exact h

theorem endOperation_steady (p : Port) (op : TableOp) (h : s.steady) : (endOperation p op s).steady := by
  have ends : ∀ v a, v.steady → (answerPending p a (release v)).steady := fun v a hv => hv.release.answerPending p a
  have tabled : ∀ x : HeadMap, ({ s with table := x } : State).steady := fun x => h.of_work rfl rfl
  unfold endOperation
  split
  · exact ((tabled _).release.quiet (postWD_moves rfl .published s.publishDetail _)).answerPending p _
  · exact ends _ _ (tabled _)
  · exact ends _ _ (tabled _)
  · exact ends _ _ (tabled _)
  · exact ends _ _ (tabled _)
  · unfold endClearEntry
    split
    · exact ends _ _ (tabled _)
    · exact ends _ _ h
  · exact ends _ _ (tabled _)
  · exact ends _ _ (tabled _)
  · exact ends _ _ h
  · exact h
  · exact h
  · exact h
  · exact h
  · exact h

theorem exec_tableOperationEnd_steadies (h : s.steady) : Instr.Steadies .tableOperationEnd s := by
  refine ⟨_, rfl, ?_⟩
  split
  · split
    · exact endOperation_steady _ _ h
    · exact h
  · exact h

/-! ### Together -/

/-- A command whose reach leaves the jobs. -/
theorem Instr.Steadies.of_reach {i : Instr} {c : Scope} (hr : Instr.reach i = some c) (hc : c.jobs = false) (h : s.steady) :
    Instr.Steadies i s := by
  obtain ⟨t, ht, reached⟩ := exec_within hr s
  exact ⟨t, ht, reached.steady hc h⟩

theorem exec_responseRead_steadies (p : Port) (clocked : Nat) (h : s.steady) : Instr.Steadies (.responseRead p clocked) s := by
  refine ⟨_, rfl, ?_⟩
  split
  · split
    · exact h.setPort _ _
    · exact h
  · exact h
  · exact h

theorem exec_resetnRelease_steadies (s : State) : Instr.Steadies .resetnRelease s := by
  have reset : State.reset.ordered := by
    refine ⟨Profile.reset_sound, ⟨(State.statusesSound_iff Profile.reset_sound.head_lt Profile.reset_sound.zones_le).mp
      State.reset_statusesSound, ?_⟩, List.nodup_nil, List.nodup_nil⟩
    simp [Work.manned, State.work, State.reset, Engine.reset, EngineState.working]
  exact ⟨_, rfl, State.steady.of_work (s := .reset) reset.2.1 rfl rfl⟩

theorem exec_steadies (i : Instr) (h : s.ordered) : Instr.Steadies i s := by
  cases i
  case submitMeasure => exact exec_submitMeasure_steadies _ _ _ _ _ _ h
  case submitSweep => exact exec_submitSweep_steadies _ _ _ _ _ _ _ _ h
  case submitReferenceCheck => exact exec_submitReferenceCheck_steadies _ _ _ h
  case submitMove => exact exec_submitMove_steadies _ _ _ h
  case cancel => exact exec_cancel_steadies _ _ _ _ h
  case cancelGroup => exact .request rfl h fun u hu => cancelGroupForm_steady _ _ _ hu
  case resumeEngine => exact exec_resumeEngine_steadies _ _ h
  case moveDone => exact exec_moveDone_steadies _ _ _ h
  case moveRefused => exact exec_moveRefused_steadies _ _ _ _ h
  case headRefused => exact exec_headRefused_steadies _ _ _ _ h
  case headSelected => exact exec_headSelected_steadies _ _ _ _ h
  case settleTimerExpiry => exact exec_settleTimerExpiry_steadies h.2.1
  case moveTimeoutExpiry => exact exec_moveTimeoutExpiry_steadies h.2.1
  case headSelectTimeoutExpiry => exact exec_headSelectTimeoutExpiry_steadies h.2.1
  case headSettleTimerExpiry => exact exec_headSettleTimerExpiry_steadies h.2.1
  case e0Lookup => exact exec_e0Lookup_steadies h.2.1
  case wedgeRecord => exact ⟨_, rfl, wedgeArrival_steady _ (setSample_steady _ h.2.1)⟩
  case wedgeWindowExpiry => exact exec_wedgeWindowExpiry_steadies h.2.1
  case servoLossTimeoutExpiry => exact exec_servoLossTimeoutExpiry_steadies h.2.1
  case sampleTake => exact exec_sampleTake_steadies h.2.1
  case filterSample => exact exec_filterSample_steadies _ _ _ _ h.2.1
  case clearBench => exact exec_clearBench_steadies _ _ h
  case attach => exact exec_attach_steadies _ _ h
  case resetPort => exact exec_resetPort_steadies _ _ _ h
  case setParameter => exact exec_setParameter_steadies _ _ _ _ _ h
  case selectProfile => exact exec_selectProfile_steadies _ _ _ h
  case saveProfile => exact exec_saveProfile_steadies _ _ _ h
  case profileLoadComplete => exact exec_profileLoadComplete_steadies _ _ h.2.1
  case profileSaveComplete => exact exec_profileSaveComplete_steadies _ h.2.1
  case setArbitration => exact exec_setArbitration_steadies _ _ _ _ _ _ _ _ h
  case holdTimerExpiry => exact exec_holdTimerExpiry_steadies _ h.2.1
  case blockReadAssembly => exact ⟨_, rfl, h.2.1.of_aside (completeAssembly_aside s)⟩
  case commit => exact exec_commit_steadies h.2.1
  case groupEndPublish => exact exec_groupEndPublish_steadies h.2.1
  case tableOperationEnd => exact exec_tableOperationEnd_steadies h.2.1
  case responseRead => exact exec_responseRead_steadies _ _ h.2.1
  case resetnRelease => exact exec_resetnRelease_steadies s
  all_goals exact .of_reach rfl rfl h.2.1

theorem idleStep_steady (h : s.steady) : (idleStep s).steady := by
  have assembled : (assemble s).steady := by
    unfold assemble
    split
    · exact (h.of_aside (proceed_aside (Config.indicesVisited s.draws % 193) s)).of_work rfl rfl
    · exact h.of_work rfl rfl
  unfold idleStep
  split
  · exact h.of_work rfl rfl
  · exact assembled.of_work rfl rfl

/-- Settles O58: statuses and jobs stay in agreement through every operation on the queue, the engine and the stack. -/
theorem statusesKept : Obligations.StatusesKept := by
  intro s t hp he hi hs hstep
  have h := State.ordered_of_sound hp he hi hs
  have kept : t.steady := by
    obtain ⟨i, rest, -, hx⟩ | ⟨-, rfl⟩ := step_cases hstep
    · obtain ⟨u, hu, steady⟩ := exec_steadies (s := { s with pending := rest }) i h
      rw [hx] at hu
      cases hu
      exact steady
    · exact idleStep_steady h.2.1
  exact (State.statusesSound_iff kept.1.head kept.1.zones).mpr kept.1

end Sys2Proof.Machine
end

section
/-! SUPPORT. The offsets (R15) and the table's operations entry by entry (R13, R14, R16 to R18, R21, R23). -/

namespace Sys2Proof.Machine

/-! ### Offsets (R15) -/

/-- The rounded quotient by a count has its sign from the dividend. -/
theorem roundHalfAway_eq (a : Int) (b : Nat) :
    roundHalfAway a b = if a < 0 then -(((2 * a.natAbs + b) / (2 * b) : Nat) : Int) else (((2 * a.natAbs + b) / (2 * b) : Nat) : Int) := by
  have hb : ¬ (b : Int) < 0 := by omega
  by_cases ha : a < 0 <;> simp [roundHalfAway, ha]

/-- The quotient of magnitudes, rounded with halves upward: it lies within half the divisor, and a half goes up. -/
theorem half_up_quotient (a : Nat) {b : Nat} (hb : 1 ≤ b) :
    2 * ((2 * a + b) / (2 * b) * b) ≤ 2 * a + b ∧ 2 * a < 2 * ((2 * a + b) / (2 * b) * b) + b := by
  have hd := Nat.div_add_mod (2 * a + b) (2 * b)
  have hm := Nat.mod_lt (2 * a + b) (show 0 < 2 * b by omega)
  have he : 2 * b * ((2 * a + b) / (2 * b)) = 2 * ((2 * a + b) / (2 * b) * b) := by ring
  rw [he] at hd
  omega

/-- The rounded quotient is nearest, and a half goes away from zero. -/
theorem roundHalfAway_nearest (a : Int) {b : Nat} (hb : 1 ≤ b) :
    2 * (a - roundHalfAway a b * b).natAbs ≤ b ∧ (2 * (a - roundHalfAway a b * b).natAbs = b → a.natAbs < (roundHalfAway a b * b).natAbs) := by
  obtain ⟨h1, h2⟩ := half_up_quotient a.natAbs hb
  rw [roundHalfAway_eq]
  generalize (2 * a.natAbs + b) / (2 * b) = q at *
  split
  · rw [neg_mul, ← Nat.cast_mul]
    omega
  · rw [← Nat.cast_mul]
    omega

theorem roundHalfAway_nonneg {a : Int} (ha : 0 ≤ a) (b : Nat) : 0 ≤ roundHalfAway a b := by
  rw [roundHalfAway_eq, if_neg (by omega)]
  exact Int.natCast_nonneg _

theorem roundHalfAway_nonpos {a : Int} (ha : a ≤ 0) {b : Nat} (hb : 1 ≤ b) : roundHalfAway a b ≤ 0 := by
  obtain ⟨h1, -⟩ := half_up_quotient a.natAbs hb
  rw [roundHalfAway_eq]
  split
  · exact Int.neg_nonpos_of_nonneg (Int.natCast_nonneg _)
  · obtain rfl : a = 0 := by omega
    have hz : (2 * (0 : Int).natAbs + b) / (2 * b) = 0 := Nat.div_eq_of_lt (by simp only [Int.natAbs_zero]; omega)
    rw [hz]
    rfl

/-- Settles O38: the exact quotient by its rounding, saturated. -/
theorem offsets : Obligations.Offsets := by
  intro n r c hc
  have clamp : ∀ q : Int, clampInt (-32767) 32767 q = if q < -32767 then -32767 else if 32767 < q then 32767 else q := fun q => rfl
  obtain ⟨near, tie⟩ := roundHalfAway_nearest ((n - r) * 4096) hc
  refine ⟨⟨roundHalfAway ((n - r) * 4096) c, near, tie, clamp _⟩, ?_⟩
  have up : ∀ m k : Int, k ≤ m → 0 ≤ roundHalfAway ((m - k) * 4096) c := fun m k h => roundHalfAway_nonneg (by omega) c
  have down : ∀ m k : Int, m ≤ k → roundHalfAway ((m - k) * 4096) c ≤ 0 := fun m k h => roundHalfAway_nonpos (by omega) hc
  have self1 := up n n le_rfl
  have self2 := down n n le_rfl
  have h1 := up n r
  have h2 := down n r
  unfold offsetOf
  simp only [clamp]
  refine ⟨by omega, by omega, by omega, fun h => ?_, fun h => ?_⟩ <;> omega

/-! ### The table entry by entry -/

variable {s : State}

/-- An entry with the offset its published part gets from a reference null. -/
def Entry.withOffset (e : Entry) (reference : Option Int) (countsPerTrack : Nat) : Entry :=
  { e with published := e.published.map (PublishedPart.withOffset reference countsPerTrack) }

theorem stagedStep_entryAt (s : State) {i : Nat} (h : i < 192) : (stagedStep s).entryAt i
    = if s.store.profile.holdsIndex i then (s.entryAt i).takeStaged s.table.nextGeneration else s.entryAt i :=
  mapEntries_entryAt _ s h

/-- What a publish leaves of an entry, from what its staged-part step left. -/
theorem publishTable_entryAt (s : State) {i : Nat} (h : i < 192) : (publishTable s).entryAt i
    = if s.store.profile.holdsIndex i then
        ((stagedStep s).entryAt i).withOffset ((stagedStep s).referenceNull (i % 12)) s.store.profile.countsPerTrack
      else (stagedStep s).entryAt i := mapEntries_entryAt _ (stagedStep s) h

/-- A publish leaves the published nulls as its staged-part step made them. -/
theorem publishTable_null (s : State) (i : Nat) :
    ((publishTable s).entryAt i).published.map PublishedPart.null = ((stagedStep s).entryAt i).published.map PublishedPart.null := by
  by_cases h : i < 192
  · rw [publishTable_entryAt s h]
    split
    · exact Option.map_map _ _ _
    · rfl
  · rw [State.entryAt_of_ge _ (Nat.le_of_not_lt h), State.entryAt_of_ge _ (Nat.le_of_not_lt h)]

theorem publishTable_referenceNull (s : State) (z : Nat) : (stagedStep s).referenceNull z
    = ((publishTable s).entry s.store.profile.referenceHead z).published.map PublishedPart.null := (publishTable_null s _).symm

/-- An entry of the profile after a publish: no staged part, the seed, and the part made with the zone's offset. -/
theorem publishTable_holds (s : State) {i : Nat} (h : i < 192) (hi : s.store.profile.holdsIndex i = true) :
    (publishTable s).entryAt i = ((s.entryAt i).takeStaged s.table.nextGeneration).withOffset
      ((stagedStep s).referenceNull (i % 12)) s.store.profile.countsPerTrack := by
  rw [publishTable_entryAt s h, stagedStep_entryAt s h, if_pos hi, if_pos hi]

theorem publishTable_outside (s : State) {i : Nat} (h : i < 192) (hi : s.store.profile.holdsIndex i = false) :
    (publishTable s).entryAt i = s.entryAt i := by
  rw [publishTable_entryAt s h, stagedStep_entryAt s h, hi]
  rfl

theorem Entry.takeStaged_staged (g : Nat) (e : Entry) : (e.takeStaged g).staged = none := by
  unfold Entry.takeStaged
  split
  · assumption
  · rfl
  · rfl

theorem Entry.takeStaged_seed (g : Nat) (e : Entry) : (e.takeStaged g).seed = e.seed := by
  unfold Entry.takeStaged
  split <;> rfl

/-- The published part a publish makes, but for its offset (R13). -/
theorem Entry.takeStaged_made (g : Nat) (e : Entry) : (e.takeStaged g).published
    = match e.staged with
      | some (.converged n k r it rj) => some ⟨n, k, r, it, rj, g, none, false⟩
      | _ => e.published := by
  unfold Entry.takeStaged
  rcases e.staged with _ | _ | _ <;> rfl

theorem PublishedPart.withOffset_bare (x : Option Int) (c : Nat) (l : Option PublishedPart) :
    (l.map (PublishedPart.withOffset x c)).map (fun y => { y with offset := none }) = l.map fun y => { y with offset := none } := by
  rw [Option.map_map]
  rfl

/-- The parts a publish counts by their outcome (R13, R18). -/
theorem State.stagedCount_eq (s : State) (b : Bool) (f : StagedPart → Bool)
    (hc : ∀ n k r it rj, f (.converged n k r it rj) = b) (hs : ∀ x n k r it rj, f (.suspect x n k r it rj) = !b) :
    s.stagedCount b = ((List.range 192).filter fun i => s.store.profile.holdsIndex i && (s.entryAt i).staged.any f).length := by
  unfold State.stagedCount
  congr 2
  funext i
  rcases (s.entryAt i).staged with _ | _ | _
  · rfl
  · rw [Option.any_some, hc]
  · rw [Option.any_some, hs]

theorem publishTable_unreferenced (s : State) : (stagedStep s).unreferencedZones
    = ((List.range s.store.profile.zoneCount).filter fun z =>
        ((publishTable s).entry s.store.profile.referenceHead z).published.isNone).length := by
  unfold State.unreferencedZones
  congr 2
  funext z
  rw [publishTable_referenceNull, Option.isNone_map]

theorem publish_by_entry (s : State) {i : Nat} (hi : i < 192) (hh : s.store.profile.holdsIndex i = true) :
    ((publishTable s).entryAt i).staged = none ∧ ((publishTable s).entryAt i).seed = (s.entryAt i).seed
    ∧ ((publishTable s).entryAt i).published.map (fun x => { x with offset := none })
      = ((s.entryAt i).takeStaged s.table.nextGeneration).published.map (fun x => { x with offset := none })
    ∧ ∀ x, ((publishTable s).entryAt i).published = some x → x.offset
      = ((publishTable s).entry s.store.profile.referenceHead (i % 12)).published.map fun y =>
          offsetOf x.null y.null s.store.profile.countsPerTrack := by
  rw [publishTable_holds s hi hh]
  refine ⟨Entry.takeStaged_staged _ _, Entry.takeStaged_seed _ _, PublishedPart.withOffset_bare _ _ _, fun x hx => ?_⟩
  obtain ⟨y, -, rfl⟩ := Option.map_eq_some_iff.mp hx
  rw [publishTable_referenceNull]
  exact Option.map_map _ _ _

theorem discardAllStaged_entryAt (s : State) {i : Nat} (h : i < 192) : (discardAllStaged s).entryAt i
    = if s.discardReaches i = true then { s.entryAt i with staged := none } else s.entryAt i := mapEntries_entryAt _ s h

theorem State.discardReaches_eq (s : State) (i : Nat) : s.discardReaches i
    = (decide (i / 12 < s.store.profile.headCount) && decide (i % 12 < s.store.profile.zoneCount)
        && decide ((s.port .workstation).window.base ≤ i / 12)
        && decide (i / 12 < (s.port .workstation).window.base + (s.port .workstation).window.size)) := (Bool.and_assoc _ _ _).symm

theorem clearEntryTable_entryAt (h z : Nat) (s : State) {i : Nat} (hi : i < 192) : (clearEntryTable h z s).entryAt i
    = if i = entryIndex h z then .empty
      else if h = s.store.profile.referenceHead ∧ i % 12 = z then (s.entryAt i).withoutOffset
      else s.entryAt i := mapEntries_entryAt _ s hi

/-- Settles O42: each operation's map, entry by entry. -/
theorem tableByEntry : Obligations.TableByEntry := by
  intro s
  refine ⟨fun i hi => ⟨rfl, publishTable_outside s hi, fun hh => ?_⟩, ?_, ⟨fun i hi => ?_, rfl, ?_⟩,
    fun h z i hi => ⟨rfl, clearEntryTable_entryAt h z s hi⟩⟩
  · have hp := publish_by_entry s hi hh
    rw [Entry.takeStaged_made] at hp
    exact hp
  · intro parts converged
    unfold State.publishDetail
    rw [publishTable_unreferenced, State.stagedCount_eq s true converged (fun _ _ _ _ _ => rfl) fun _ _ _ _ _ _ => rfl,
      State.stagedCount_eq s false (fun x => !converged x) (fun _ _ _ _ _ => rfl) fun _ _ _ _ _ _ => rfl]
    rfl
  · rw [discardAllStaged_entryAt s hi, State.discardReaches_eq]
  · unfold State.discardCount
    simp only [State.discardReaches_eq]

end Sys2Proof.Machine
end

section
/-! SUPPORT. The table requests: what is granted at once and what is refused (R1, R12, R21 to R23, R157, R166 to R170). -/

namespace Sys2Proof.Machine

variable {s : State} {p : Port}

theorem State.startOf_client (s : State) (p : Port) : s.startOf (Port.client p) = (s.port p).assembly := by
  cases p <;> rfl

theorem State.assembly_setSlot (s : State) (p : Port) (x : Slot) : ((s.setSlot p x).port p).assembly = (s.port p).assembly := by
  simp [State.setSlot, LinkPort.assembly]

theorem State.setCursor_setSlot (s : State) (p : Port) (x : Slot) (c : Option Cursor) :
    (s.setSlot p x).setCursor p c = (s.setCursor p c).setSlot p x := by
  cases p <;> rfl

theorem State.tableCheck_setSlot (s : State) (p : Port) (x : Slot) (h z : Nat) : (s.setSlot p x).tableCheck p h z = s.tableCheck p h z := by
  simp [State.tableCheck, State.setSlot]

/-! ### The state after a grant at once -/

/-- The state in which a port has just been granted with an operation, its slot PENDING. -/
def State.grantedFor (s t : State) (p : Port) (i : Instr) (op : TableOp) : State :=
  { t.setSlot p (.pending i) with arbiter := { s.arbiter with
    holder := some (Port.client p, op), waiting := s.arbiter.waiting.set (Port.client p) none, hold := .stopped } }

/-- A request that asks for the grant, where the arbiter is FREE. -/
theorem askGrant_taken {t : State} (ht : t.arbiter = s.arbiter) (hf : s.arbiter.holder = none) {i : Instr} {op op' : TableOp}
    (ho : (t.setSlot p (.pending i)).settleOp (Port.client p) op = op') :
    askGrant (Port.client p) op (t.setSlot p (.pending i)) = s.grantedFor t p i op' := by
  rw [askGrant_free (s := t.setSlot p (.pending i)) (by rw [← hf, ← ht]; rfl), ← ho]
  unfold State.grantedFor
  rw [← ht]
  rfl

theorem askForEntry_taken (hf : s.arbiter.holder = none) {h z : Nat} (hc : s.tableCheck p h z = none) (tag : Byte) {i : Instr}
    {op op' : TableOp} (ho : (s.setSlot p (.pending i)).settleOp (Port.client p) op = op') :
    askForEntry p tag h z op (s.setSlot p (.pending i)) = s.grantedFor s p i op' := by
  unfold askForEntry
  rw [State.tableCheck_setSlot, hc]
  exact askGrant_taken rfl hf ho

/-- READ TABLE sets its cursor and starts its assembly with it (R168, R170, R193). -/
theorem exec_readTable_granted (h : s.canSendReady p) (hf : s.arbiter.holder = none) (tag : Byte) {start count : Byte}
    (h1 : 1 ≤ count.toNat) (h2 : start.toNat + count.toNat ≤ 192) : exec (.readTable p tag start count) s = .next
      (s.grantedFor (s.setCursor p (some ⟨start.toNat, start.toNat + count.toNat - 1⟩)) p (.readTable p tag start count)
        (.readTable ⟨(s.port p).window, start.toNat, start.toNat + count.toNat - 1, []⟩)) := by
  have hcount : count ≠ 0 := by
    rintro rfl
    exact absurd h1 (by decide)
  have hok : ¬ (191 < start.toNat ∨ count = 0 ∨ 192 < count.toNat ∨ 192 < start.toNat + count.toNat) := by
    simp only [hcount, false_or]
    omega
  refine congrArg Host.Outcome.next ((request_taken h.1 (by simp) fun _ => h.2).trans ?_)
  dsimp only
  rw [if_neg hok, State.setCursor_setSlot]
  refine askGrant_taken (s := s) (t := s.setCursor p _) rfl hf ?_
  unfold State.settleOp
  simp only [State.startOf_client, State.assembly_setSlot]
  simp [LinkPort.assembly, State.setCursor]

theorem exec_readNext_granted (h : s.canSendReady p) (hf : s.arbiter.holder = none) (tag : Byte) {c : Cursor}
    (hc : (s.port p).cursor = some c) : exec (.readNext p tag) s = .next
      (s.grantedFor s p (.readNext p tag) (.readNext ⟨(s.port p).window, c.next, c.last, []⟩)) := by
  refine congrArg Host.Outcome.next ((request_taken h.1 (by simp) fun _ => h.2).trans ?_)
  have hc' : ((s.setSlot p (.pending (.readNext p tag))).port p).cursor = some c := by simpa [State.setSlot] using hc
  rw [hc']
  refine askGrant_taken rfl hf ?_
  unfold State.settleOp
  simp only [State.startOf_client, State.assembly_setSlot]
  simp [LinkPort.assembly, hc]

/-! ### Refusals -/

/-- A request refused by the checks on the entry it names (R1). -/
theorem askForEntry_refused {h z : Nat} {st : Status} (hc : s.tableCheck p h z = some st) (tag : Byte) (op : TableOp) (x : Slot) :
    askForEntry p tag h z op (s.setSlot p x) = answer p tag { status := st } s := by
  unfold askForEntry
  rw [State.tableCheck_setSlot, hc]
  exact answer_setSlot s p x tag _

theorem State.tableCheck_badArgument {h z : Nat} (hh : s.store.profile.headCount ≤ h ∨ s.store.profile.zoneCount ≤ z) :
    s.tableCheck p h z = some .badArgument := by
  have hn : s.store.profile.holds h z = false := by
    simp only [Profile.holds, Bool.and_eq_false_iff, decide_eq_false_iff_not]
    omega
  simp [State.tableCheck, hn]

theorem State.tableCheck_outOfWindow {h z : Nat} (hh : h < s.store.profile.headCount) (hz : z < s.store.profile.zoneCount)
    (hw : (s.port p).window.inside h = false) : s.tableCheck p h z = some .outOfWindow := by
  simp [State.tableCheck, Profile.holds, hh, hz, hw]

/-- The requests that name one entry, refused by the checks on it. -/
theorem entryRequests_refused (h : s.canSendReady p) (tag : Byte) {a z : Byte} {st : Status}
    (hc : s.tableCheck p a.toNat z.toNat = some st) :
    exec (.readEntry p tag a z) s = .next (answer p tag { status := st } s)
      ∧ (p = .workstation → exec (.clearEntry p tag a z) s = .next (answer p tag { status := st } s)) := by
  refine ⟨congrArg Host.Outcome.next ((request_taken h.1 (by simp) fun _ => h.2).trans (askForEntry_refused hc tag _ _)), fun hp => ?_⟩
  exact congrArg Host.Outcome.next ((request_taken h.1 (by simp [hp]) fun _ => h.2).trans (askForEntry_refused hc tag _ _))

theorem flagArg_of_gt {b : Byte} (h : 1 < b.toNat) : flagArg b = none := by
  unfold flagArg
  have h0 : b ≠ 0 := by rintro rfl; exact absurd h (by decide)
  have h1 : b ≠ 1 := by rintro rfl; exact absurd h (by decide)
  rw [if_neg h0, if_neg h1]

theorem formRequests_refused (h : s.canSendReady .workstation) (tag a z : Byte) {form : Byte} (hf : 1 < form.toNat) (c : CountWord) :
    exec (.discardStaged .workstation tag form a z) s = .next (answer .workstation tag { status := .badArgument } s)
      ∧ exec (.seedEntry .workstation tag a z form c) s = .next (answer .workstation tag { status := .badArgument } s) := by
  constructor <;> refine congrArg Host.Outcome.next ((request_taken h.1 (by simp) fun _ => h.2).trans ?_) <;>
    rw [flagArg_of_gt hf] <;> exact answer_setSlot _ _ _ _ _

theorem exec_readTable_refused (h : s.canSendReady p) (tag : Byte) {start count : Byte}
    (hc : count = 0 ∨ 192 < start.toNat + count.toNat) :
    exec (.readTable p tag start count) s = .next (answer p tag { status := .badArgument } s) := by
  have hbad : 191 < start.toNat ∨ count = 0 ∨ 192 < count.toNat ∨ 192 < start.toNat + count.toNat := by
    obtain h0 | h1 := hc
    · exact .inr (.inl h0)
    · exact .inr (.inr (.inr h1))
  refine congrArg Host.Outcome.next ((request_taken h.1 (by simp) fun _ => h.2).trans ?_)
  rw [if_pos hbad]
  exact answer_setSlot _ _ _ _ _

theorem exec_readNext_refused (h : s.canSendReady p) (tag : Byte) (hc : (s.port p).cursor = none) :
    exec (.readNext p tag) s = .next (answer p tag { status := .empty } s) := by
  refine congrArg Host.Outcome.next ((request_taken h.1 (by simp) fun _ => h.2).trans ?_)
  have hc' : ((s.setSlot p (.pending (.readNext p tag))).port p).cursor = none := by simpa [State.setSlot] using hc
  rw [hc']
  exact answer_setSlot _ _ _ _ _

/-- Port W's requests that name one entry of the profile inside its window, where the arbiter is FREE. -/
theorem entryRequests_granted (h : s.canSendReady .workstation) (hf : s.arbiter.holder = none) (tag a z : Byte) (c : CountWord)
    (hc : s.tableCheck .workstation a.toNat z.toNat = none) :
    let granted := fun i op => exec i s = .next (s.grantedFor s .workstation i op)
    granted (.discardStaged .workstation tag 0 a z) (.discardEntry a.toNat z.toNat)
      ∧ granted (.seedEntry .workstation tag a z 0 c) (.seed a.toNat z.toNat (some c.toInt))
      ∧ granted (.seedEntry .workstation tag a z 1 c) (.seed a.toNat z.toNat none)
      ∧ granted (.clearEntry .workstation tag a z) (.clearEntry a.toNat z.toNat (s.status a.toNat z.toNat == .idle)) := by
  have taken : ∀ {i : Instr} {body : State → State} {op : TableOp},
      exec i s = .next (request i .workstation { senders := [.workstation], profile := true } body s) →
      body (s.setSlot .workstation (.pending i)) = s.grantedFor s .workstation i op →
      exec i s = .next (s.grantedFor s .workstation i op) := fun he hb =>
    he.trans (congrArg Host.Outcome.next ((request_taken h.1 (by simp) fun _ => h.2).trans hb))
  exact ⟨taken rfl (askForEntry_taken hf hc tag rfl), taken rfl (askForEntry_taken hf hc tag rfl),
    taken rfl (askForEntry_taken hf hc tag rfl), taken rfl (askForEntry_taken hf hc tag rfl)⟩

/-- Settles O39: request by request. -/
theorem tableRequests : Obligations.TableRequests := by
  refine ⟨fun p tag s h hf => ⟨?_, fun a z hc => ?_, fun start count h1 h2 => exec_readTable_granted h hf tag h1 h2,
    fun c hc => exec_readNext_granted h hf tag hc⟩, fun p tag s h => ⟨fun a z hh => entryRequests_refused h tag (State.tableCheck_badArgument hh),
    fun a z ha hz hw => entryRequests_refused h tag (State.tableCheck_outOfWindow ha hz hw), fun a z form c hform hp => ?_,
    fun start count hc => exec_readTable_refused h tag hc, exec_readNext_refused h tag⟩⟩
  · rintro rfl
    refine ⟨congrArg Host.Outcome.next ((request_taken h.1 (by simp) fun _ => h.2).trans (askGrant_taken rfl hf rfl)), fun a z => ?_,
      fun a z c hc => entryRequests_granted h hf tag a z c hc⟩
    exact congrArg Host.Outcome.next ((request_taken h.1 (by simp) fun _ => h.2).trans (askGrant_taken rfl hf rfl))
  · exact congrArg Host.Outcome.next ((request_taken h.1 (by simp) fun _ => h.2).trans (askForEntry_taken hf hc tag rfl))
  · subst hp
    exact formRequests_refused h tag a z hform c

end Sys2Proof.Machine
end

section
/-! SUPPORT. What a post leaves in the details (R173), and the end of a port's operation with nobody waiting (R159). -/

namespace Sys2Proof.Machine

variable {s t u : State} {p q : Port}

/-! ### Details (R173) -/

theorem setNotices_details_of_same {x : NoticeUnit} (h : x.details = (s.port p).notices.details) (q : Port) :
    ((s.setNotices p x).port q).notices.details = (s.port q).notices.details := by
  rw [State.setNotices, State.port_setPort_eq]
  split
  · subst q
    exact h
  · rfl

theorem pulseCause_details (p : Port) (s : State) (q : Port) :
    ((pulseCause p s).port q).notices.details = (s.port q).notices.details := by
  unfold pulseCause
  dsimp only
  split
  · exact setNotices_details_of_same (by rfl) q
  · rfl

theorem pulseOnset_details (b : State) (p : Port) (s : State) (q : Port) :
    ((pulseOnset b p s).port q).notices.details = (s.port q).notices.details := by
  unfold pulseOnset
  split
  · exact pulseCause_details p s q
  · rfl

theorem reforming_details (f : State → State) (s : State) (q : Port) :
    ((reforming f s).port q).notices.details = ((f s).port q).notices.details := by
  unfold reforming
  rw [pulseOnset_details, pulseOnset_details, pulseOnset_details]

theorem raiseMerge_details (p : Port) (src : Source) (s : State) (q : Port) :
    ((raiseMerge p src s).port q).notices.details = (s.port q).notices.details := by
  unfold raiseMerge
  dsimp only
  split
  · exact setNotices_details_of_same (by rfl) q
  · rfl

/-- A post sets the detail of its source at its port, while that port is ATTACHED, and no other detail. -/
theorem post_details (src : Source) (d : Detail) (p : Port) (s : State) (q : Port) : ((post src d p s).port q).notices.details
    = if q = p ∧ (s.port p).attached = true then (s.port p).notices.details.set src (some d) else (s.port q).notices.details := by
  unfold post postQuiet
  rw [reforming_details, raiseMerge_details]
  unfold storeDetail
  dsimp only
  by_cases ha : (s.port p).attached = true
  · rw [if_pos ha, State.setNotices, State.port_setPort_eq]
    by_cases hq : q = p <;> simp [hq, ha]
  · rw [if_neg ha, if_neg fun h => ha h.2]

theorem post_detail_same {src : Source} {d : Detail} (ha : (s.port p).attached = true) :
    ((post src d p s).port p).notices.details.get src = some d := by
  rw [post_details, if_pos ⟨rfl, ha⟩, PerSource.get_set, if_pos rfl]

theorem post_attached (src : Source) (d : Detail) (p : Port) (s : State) (q : Port) :
    ((post src d p s).port q).attached = (s.port q).attached := State.attached_of_mute (post_mute src d p s) q

/-- A notice to Port W and Port D stands in the detail of each that is ATTACHED (R10, R18). -/
theorem postWD_detail (src : Source) (d : Detail) (hq : q ≠ .positioner) (ha : (s.port q).attached = true) :
    ((postWD src d s).port q).notices.details.get src = some d := by
  unfold postWD
  cases q with
  | positioner => exact absurd rfl hq
  | adapter => exact post_detail_same (by rw [post_attached]; exact ha)
  | workstation =>
    rw [post_details, if_neg (by simp)]
    exact post_detail_same ha

/-- A source with a stored detail is pending (R173). -/
theorem State.isPending_of_detail {src : Source} {d : Detail} (h : (s.port p).notices.details.get src = some d) :
    s.isPending p src = true := by
  simp [State.isPending, h]

/-! ### The end of an operation with nobody waiting -/

/-- What the answer leaves after a release to nobody: the table, no holder, the answer in the slot, and the jobs and engine. -/
theorem answerPending_release {i : Instr} (hw : ∀ c, s.arbiter.waiting.get c = none) (hs : (s.port p).slot = .pending i) (a : Answer)
    (hp : u.ports = s.ports) (ha : u.arbiter = s.arbiter) :
    (answerPending p a (release u)).table = u.table ∧ (answerPending p a (release u)).arbiter.holder = none
      ∧ ((answerPending p a (release u)).port p).slot = .ready (s.responseOf p i.tag a)
      ∧ (answerPending p a (release u)).jobs = u.jobs ∧ (answerPending p a (release u)).engine = u.engine := by
  have hport : (release u).port p = s.port p := by rw [release_port, State.port, hp, State.port]
  refine ⟨?_, ?_, ?_, ?_, ?_⟩
  · rw [State.table_of_aside (answerPending_aside p a _), State.table_of_aside (release_aside u)]
  · rw [answerPending_arbiter, release_unwaited (by rw [ha]; exact hw)]
    rfl
  · rw [answerPending_slot (by rw [hport]; exact hs)]
    simp only [State.responseOf, hport]
  · rw [State.jobs_of_aside (answerPending_aside p a _), State.jobs_of_aside (release_aside u)]
  · rw [State.engine_of_aside (answerPending_aside p a _), State.engine_of_aside (release_aside u)]

theorem exec_tableOperationEnd_held {op : TableOp} (h : s.arbiter.holder = some (Port.client p, op)) :
    exec .tableOperationEnd s = .next (endOperation p op s) := by
  have hp : (Port.client p).port = some p := by cases p <;> rfl
  refine congrArg Host.Outcome.next ?_
  simp only [h, hp]

/-- An operation of a port that changes the table alone, releases the grant and answers. -/
theorem operationEnd_plain {i : Instr} {op : TableOp} {a : Answer} {x : HeadMap} (hw : ∀ c, s.arbiter.waiting.get c = none)
    (hs : (s.port p).slot = .pending i) (he : endOperation p op s = answerPending p a (release { s with table := x }))
    (h : s.arbiter.holder = some (Port.client p, op)) :
    ∃ t, exec .tableOperationEnd s = .next t ∧ t.table = x ∧ t.arbiter.holder = none
      ∧ (t.port p).slot = .ready (s.responseOf p i.tag a) ∧ t.jobs = s.jobs ∧ t.engine = s.engine :=
  ⟨_, exec_tableOperationEnd_held h, he ▸ answerPending_release hw hs a rfl rfl⟩

/-- The state of a PUBLISH between its notices and its answer. -/
theorem endPublish_eq (p : Port) (s : State) :
    endOperation p .publish s = answerPending p { payload := s.publishDetail.bytes } (postWD .published s.publishDetail (release (publishTable s))) :=
  rfl

/-- A PUBLISH ends with the table published, the notices posted and its answer given (R12, R18). -/
theorem operationEnd_publish {i : Instr} (hw : ∀ c, s.arbiter.waiting.get c = none) (hs : (s.port p).slot = .pending i)
    (h : s.arbiter.holder = some (Port.client p, .publish)) :
    ∃ t, exec .tableOperationEnd s = .next t ∧ t.table = (publishTable s).table ∧ t.arbiter.holder = none
      ∧ (t.port p).slot = .ready (s.responseOf p i.tag { payload := s.publishDetail.bytes }) ∧ t.jobs = s.jobs ∧ t.engine = s.engine := by
  have mute := postWD_mute .published s.publishDetail (release (publishTable s))
  have free := release_unwaited (s := publishTable s) hw
  refine ⟨_, exec_tableOperationEnd_held h, ?_⟩
  rw [endPublish_eq]
  refine ⟨?_, ?_, ?_, ?_, ?_⟩
  · rw [State.table_of_aside (answerPending_aside p _ _), State.table_of_mute mute, State.table_of_aside (release_aside _)]
  · rw [answerPending_arbiter, State.arbiter_of_mute mute, free]
    rfl
  · rw [answerPending_slot (by rw [State.slot_of_mute mute, release_port]; exact hs)]
    simp only [State.responseOf, State.dropped_of_mute mute, release_port]
    rfl
  · rw [State.jobs_of_aside (answerPending_aside p _ _), State.jobs_of_mute mute, State.jobs_of_aside (release_aside _)]
    rfl
  · rw [State.engine_of_aside (answerPending_aside p _ _), State.engine_of_mute mute, State.engine_of_aside (release_aside _)]
    rfl

theorem answerPending_notices (p : Port) (a : Answer) (s : State) (q : Port) : ((answerPending p a s).port q).notices = (s.port q).notices := by
  have h := congrArg LinkPort.notices (State.port_of_aside (answerPending_aside p a s) q)
  exact h

theorem operationEnd_publish_told (hq : q ≠ .positioner) (ha : (s.port q).attached = true) :
    ((endOperation p .publish s).port q).notices.details.published = some s.publishDetail
      ∧ (endOperation p .publish s).isPending q .published = true := by
  have told : ((endOperation p .publish s).port q).notices.details.get .published = some s.publishDetail := by
    rw [endPublish_eq, answerPending_notices]
    exact postWD_detail .published s.publishDetail hq (by rw [release_port]; exact ha)
  exact ⟨told, State.isPending_of_detail told⟩

theorem emptyTable_table (s : State) :
    (emptyTable s).table = { s.table with entries := Vector.replicate 192 ⟨none, none, none⟩ } := by
  have h : s.table.entries.mapIdx (fun _ _ => Entry.empty) = Vector.replicate 192 ⟨none, none, none⟩ := by
    ext i hi
    all_goals simp [Entry.empty]
  unfold emptyTable mapEntries
  rw [h]

/-- The emptying of the table for whoever asked for it (R25, R26). -/
theorem endEmpty_eq (p : Port) (a : Answer) (s : State) : endEmpty p a s
    = answerPending p a (release { s with table := { s.table with entries := Vector.replicate 192 ⟨none, none, none⟩ } }) := by
  rw [← emptyTable_table]
  rfl

/-- Settles O41: operation by operation. -/
theorem tableOperationEnds : Obligations.TableOperationEnds := by
  intro p i s hw hs
  refine ⟨operationEnd_publish hw hs, fun h => ⟨_, exec_tableOperationEnd_held h, fun q hq ha => operationEnd_publish_told hq ha⟩,
    fun a z => operationEnd_plain hw hs ?_, operationEnd_plain hw hs rfl, fun a z c => operationEnd_plain hw hs rfl,
    fun a z => operationEnd_plain hw hs rfl, fun a z => operationEnd_plain hw hs rfl, fun a z => operationEnd_plain hw hs rfl,
    operationEnd_plain hw hs (endEmpty_eq p _ s), fun c l => operationEnd_plain hw hs (endEmpty_eq p _ s),
    fun a z => operationEnd_plain hw hs rfl⟩
  have count : (s.entry a z).staged.isSome.toNat = if (s.entry a z).staged.isSome = true then 1 else 0 := by
    cases (s.entry a z).staged.isSome <;> rfl
  rw [← count]
  rfl

end Sys2Proof.Machine
end

section
/-! SUPPORT. CLEAR BENCH: what it leaves of the engine, the handshakes, the queue, the stack and the lists, and its request for the
grant (R24, R25). -/

namespace Sys2Proof.Machine

variable {s t : State} {r : SearchRecord}

/-! ### A request that stands at the arbiter -/

/-- A waiter's request stands after a release, where the grant settles nothing of it. -/
theorem release_stands {c : Client} {op : TableOp} (hop : ∀ u : State, u.settleOp c op = op) (hw : s.arbiter.waiting.get c = some op) :
    (release s).arbiter.holder = some (c, op) ∨ (release s).arbiter.waiting.get c = some op := by
  obtain ⟨b, o, hd, hr⟩ | hr := release_cases s <;> rw [hr]
  · by_cases hc : b = c
    · subst hc
      obtain rfl := Option.some.inj (hd.symm.trans hw)
      exact .inl (by rw [grant, State.setArbiter_arbiter, hop])
    · refine .inr ?_
      have hne : c ≠ b := fun e => hc e.symm
      exact (PerClient.get_set s.arbiter.waiting b c none).trans ((if_neg hne).trans hw)
  · exact .inr hw

/-- A client's request stands once it has asked, where the grant settles nothing of it (R157). -/
theorem askGrant_stands {c : Client} {op : TableOp} (hop : ∀ u : State, u.settleOp c op = op) (s : State) :
    (askGrant c op s).arbiter.holder = some (c, op) ∨ (askGrant c op s).arbiter.waiting.get c = some op := by
  have joined : (joinWaiting c op s).arbiter.waiting.get c = some op :=
    (PerClient.get_set s.arbiter.waiting c c (some op)).trans (if_pos rfl)
  obtain ⟨-, h⟩ | ⟨x, -, h⟩ | ⟨p, o, a, -, -, h⟩ := askGrant_cases c op s <;> rw [h]
  · exact .inl (by rw [grant, State.setArbiter_arbiter, hop])
  · exact .inr joined
  · unfold finishBlockRead
    exact release_stands hop (by rw [answerPending_arbiter]; exact joined)

/-! ### Step 1 of R24 -/

theorem endMove_handshake {e : MoveEnd} {m : MoveRequest} (h : s.handshake.move = some m) :
    (endMove e s).handshake.move = none ∧ (endMove e s).handshake.head = s.handshake.head := by
  rw [State.handshake_of_mute (endMove_mute h)]
  exact ⟨rfl, rfl⟩

theorem endHead_handshake {e : HeadEnd} {x : HeadRequest} (h : s.handshake.head = some x) :
    (endHead e s).handshake.head = none ∧ (endHead e s).handshake.move = s.handshake.move := by
  rw [State.handshake_of_mute (endHead_mute h)]
  exact ⟨rfl, rfl⟩

theorem withdrawMove_handshake (x : Cause) (s : State) :
    (withdrawMove x s).handshake.move = none ∧ (withdrawMove x s).handshake.head = s.handshake.head := by
  unfold withdrawMove
  split
  · exact ⟨‹_›, rfl⟩
  · rw [postMoveWithdrawn, post_handshake]
    exact endMove_handshake ‹_›

theorem withdrawHead_handshake (x : Cause) (s : State) :
    (withdrawHead x s).handshake.head = none ∧ (withdrawHead x s).handshake.move = s.handshake.move := by
  unfold withdrawHead
  split
  · exact ⟨‹_›, rfl⟩
  · rw [postHeadWithdrawn, post_handshake]
    exact endHead_handshake ‹_›

/-- Both handshakes are NONE once both requests are withdrawn (R108, R116). -/
theorem withdrawBoth_handshake (x : Cause) (s : State) :
    (withdrawBoth x s).handshake.move = none ∧ (withdrawBoth x s).handshake.head = none := by
  unfold withdrawBoth
  obtain ⟨hh, hm⟩ := withdrawHead_handshake x (withdrawMove x s)
  exact ⟨hm.trans (withdrawMove_handshake x s).1, hh⟩

theorem clearActive_handshake (r : SearchRecord) (s : State) : (clearActive r s).handshake = s.handshake := by
  unfold clearActive
  rw [setStatus_eq]
  rfl

/-- No job is active, and both handshakes are NONE. -/
def State.atRest (s : State) : Prop := s.engine.active = none ∧ s.handshake.move = none ∧ s.handshake.head = none

theorem closeJob_cleared_atRest (ha : s.engine.active = some r) : (closeJob .cleared s).atRest := by
  unfold closeJob
  simp only [ha, ↓reduceIte]
  refine ⟨rfl, ?_, ?_⟩ <;> rw [clearActive_handshake]
  · exact (withdrawBoth_handshake _ _).1
  · exact (withdrawBoth_handshake _ _).2

theorem State.engineSound.active_none (h : s.engineSound) (hw : s.engine.state.working = false) (hc : s.engine.state ≠ .commit) :
    s.engine.active = none := by
  have hn : ¬ s.engine.active.isSome = true := fun ha => by
    obtain hw' | hc' := h.1.mp ha
    · rw [hw] at hw'
      cases hw'
    · exact hc hc'
  simpa using hn

theorem State.engineSound.at_rest (h : s.engineSound) (hw : s.engine.state.working = false) (hc : s.engine.state ≠ .commit) : s.atRest :=
  ⟨h.active_none hw hc, h.2 hw⟩

theorem State.atRest.settleEngine (h : s.atRest) : (settleEngine s).atRest := h

/-- Outside a commit under the grant step 1 of R24 leaves no active job and no request. -/
theorem clearEngine_atRest (h : s.engineSound) (hg : s.arbiter.engineHolds .commit = false) : (clearEngine s).atRest := by
  have close : s.engine.state.working = true → (settleEngine (closeJob .cleared s)).atRest := fun hw => by
    obtain ⟨r, ha⟩ := Option.isSome_iff_exists.mp (h.1.mpr (.inl hw))
    exact (closeJob_cleared_atRest ha).settleEngine
  have asked : (withdrawAsk .engine s).engine = s.engine ∧ (withdrawAsk .engine s).handshake = s.handshake :=
    ⟨State.engine_of_aside (withdrawAsk_aside .engine s), State.handshake_of_aside (withdrawAsk_aside .engine s)⟩
  have still : s.engine.state.working = false → s.engine.active = none → (settleEngine (withdrawAsk .engine s)).atRest := fun hw ha =>
    State.atRest.settleEngine ⟨by rw [asked.1, ha], by rw [asked.2]; exact h.2 hw⟩
  unfold clearEngine
  split
  · exact h.at_rest (by rw [‹s.engine.state = _›]; rfl) (by rw [‹s.engine.state = _›]; decide)
  · exact h.at_rest (by rw [‹s.engine.state = _›]; rfl) (by rw [‹s.engine.state = _›]; decide)
  · have hw : s.engine.state.working = false := by rw [‹s.engine.state = _›]; rfl
    unfold clearCommit
    rw [if_neg (by rw [hg]; decide)]
    split
    · refine State.atRest.settleEngine ⟨rfl, ?_⟩
      rw [clearActive_handshake, asked.2]
      exact h.2 hw
    · exact still hw ‹_›
  · have rest := h.at_rest (by rw [‹s.engine.state = _›]; rfl) (by rw [‹s.engine.state = _›]; decide)
    unfold clearPublish
    split
    · exact rest
    · exact still (by rw [‹s.engine.state = _›]; rfl) rest.1
  · exact close (by rw [‹s.engine.state = _›]; rfl)
  · exact close (by rw [‹s.engine.state = _›]; rfl)
  · exact close (by rw [‹s.engine.state = _›]; rfl)
  · exact close (by rw [‹s.engine.state = _›]; rfl)

/-! ### Steps 2 to 4 of R24 -/

/-- Removing jobs from the queue changes the statuses and the queue alone. -/
theorem forQueued_dropQueued (l : List JobRecord) (s : State) :
    ∃ v q, forQueued dropQueued l s = { s with statuses := v, jobs := { s.jobs with queue := q } } := by
  induction l generalizing s with
  | nil => exact ⟨s.statuses, s.jobs.queue, rfl⟩
  | cons j l ih =>
    obtain ⟨v, q, h⟩ := ih (dropQueued j s)
    refine ⟨v, q, h.trans ?_⟩
    unfold dropQueued
    rw [setStatus_eq]
    rfl

/-- Removing contexts from the stack changes the statuses and the stack alone. -/
theorem forStacked_dropStacked (l : List SearchRecord) (s : State) :
    ∃ v k, forStacked dropStacked l s = { s with statuses := v, stack := k } := by
  induction l generalizing s with
  | nil => exact ⟨s.statuses, s.stack, rfl⟩
  | cons r l ih =>
    obtain ⟨v, k, h⟩ := ih (dropStacked r s)
    refine ⟨v, k, h.trans ?_⟩
    unfold dropStacked
    rw [setStatus_eq]

theorem clearJobs_parts (s : State) : (clearJobs s).jobs = .reset ∧ (clearJobs s).stack = [] ∧ (clearJobs s).engine = s.engine
    ∧ (clearJobs s).handshake = s.handshake := by
  obtain ⟨v, k, h1⟩ := forStacked_dropStacked s.stack s
  obtain ⟨v', q, h2⟩ := forQueued_dropQueued s.jobs.queue (forStacked dropStacked s.stack s)
  unfold clearJobs
  dsimp only
  rw [h2, h1]
  split
  · refine ⟨rfl, rfl, ?_, ?_⟩
    · exact (State.engine_of_mute (postSpace_mute _)).trans rfl
    · exact (State.handshake_of_mute (postSpace_mute _)).trans rfl
  · exact ⟨rfl, rfl, rfl, rfl⟩

/-- The completion list of a port is emptied, with what counts its records. -/
def LinkPort.unlisted (l : LinkPort) : Prop :=
  l.completions = [] ∧ l.overflow = 0 ∧ l.notices.merge.jobDone = 0 ∧ l.notices.merge.jobFailed = 0

theorem clearList_unlisted (p : Port) (s : State) : ((clearList p s).port p).unlisted := by
  unfold clearList
  rw [State.port_setPort]
  exact ⟨rfl, rfl, rfl, rfl⟩

theorem clearList_unlisted_of {p q : Port} (h : (s.port q).unlisted) : ((clearList p s).port q).unlisted := by
  by_cases hq : q = p
  · subst hq
    exact clearList_unlisted q s
  · unfold clearList
    rw [State.port_setPort_of_ne _ _ hq]
    exact h

theorem clearWork_unlisted (s : State) (p : Port) : ((clearWork s).port p).unlisted := by
  unfold clearWork
  cases p with
  | workstation => exact clearList_unlisted_of (clearList_unlisted_of (clearList_unlisted _ _))
  | positioner => exact clearList_unlisted_of (clearList_unlisted _ _)
  | adapter => exact clearList_unlisted _ _

theorem clearWork_parts (s : State) : (clearWork s).jobs = .reset ∧ (clearWork s).stack = []
    ∧ (clearWork s).engine = (clearEngine s).engine ∧ (clearWork s).handshake = (clearEngine s).handshake := clearJobs_parts (clearEngine s)

theorem clearEngine_faultHold (h : s.engine.state = .faultHold) : clearEngine s = s := by
  unfold clearEngine
  rw [h]

/-- Settles O40: the steps of R24 one by one, and the request that then stands at the arbiter. -/
theorem clearBench : Obligations.ClearBench := by
  intro tag s hs he hg
  have taken : exec (.clearBench .workstation tag) s = .next (askGrant .w .clearBench
      (clearWork (s.setSlot .workstation (.pending (.clearBench .workstation tag))))) :=
    congrArg Host.Outcome.next (request_taken hs (by simp) fun h => by cases h)
  obtain ⟨t, ht, frame⟩ := exec_clearBench_keepsFrame .workstation tag s
  have same := Host.Outcome.next.inj (taken.symm.trans ht)
  subst same
  refine ⟨_, taken, ?_⟩
  set u := s.setSlot .workstation (.pending (.clearBench .workstation tag)) with hu
  have aside := askGrant_aside .w .clearBench (clearWork u)
  obtain ⟨jobs, stack, engine, handshake⟩ := clearWork_parts u
  obtain ⟨active, move, head⟩ := clearEngine_atRest (s := u) he hg
  refine ⟨(State.jobs_of_aside aside).trans jobs, (State.stack_of_aside aside).trans stack, ?_, fun p => ?_, fun hf => ?_,
    frame.table rfl, frame.store rfl, ?_, ?_, askGrant_stands (fun _ => rfl) _⟩
  · rw [State.engine_of_aside aside, engine, active]
  · have port := State.port_of_aside aside p
    obtain ⟨h1, h2, h3, h4⟩ := clearWork_unlisted u p
    exact ⟨(congrArg LinkPort.completions port).trans h1, (congrArg LinkPort.overflow port).trans h2,
      (congrArg (fun l : LinkPort => l.notices.merge.jobDone) port).trans h3,
      (congrArg (fun l : LinkPort => l.notices.merge.jobFailed) port).trans h4, frame.attached p rfl, frame.window p rfl⟩
  · rw [State.engine_of_aside aside, engine, clearEngine_faultHold (s := u) hf]
    exact hf
  · rw [State.handshake_of_aside aside, handshake, move]
  · rw [State.handshake_of_aside aside, handshake, head]

end Sys2Proof.Machine
end

section
/-! SUPPORT. SET PARAMETER: the value it stores, the adjustments, and the effects of each number (R26, R63, R90, R91, R203). -/

namespace Sys2Proof.Machine

variable {s t u : State} {k j : Nat}

/-! ### The value stored (R199, R203) -/

/-- The reference head below the head count and travel high above travel low: there is nothing to adjust (R198). -/
def Profile.settled (pr : Profile) : Prop := pr.referenceHead + 1 ≤ pr.headCount ∧ pr.travelLow < pr.travelHigh

theorem Profile.sound.settled {pr : Profile} (h : pr.sound) : pr.settled := by
  have h3 := (h.1 (3, 0) (by decide)).2
  have h25 := (h.1 (25, 0) (by decide)).1
  simp only [Profile.range, Profile.param] at h3 h25
  exact ⟨by omega, by omega⟩

theorem Profile.adjust_of_settled {pr : Profile} (h : pr.settled) : pr.adjust = pr := by
  unfold Profile.adjust
  rw [if_neg (by have := h.1; omega), if_neg (by have := h.2; omega)]

theorem Profile.withParam_settled {pr : Profile} (h : pr.settled) (hk : ∀ m ∈ [1, 3, 24, 25], k ≠ m) (j : Nat) (v : Int) :
    (pr.withParam k j v).settled := by
  have h1 : k ≠ 1 := hk 1 (by decide)
  have h3 : k ≠ 3 := hk 3 (by decide)
  have h24 : k ≠ 24 := hk 24 (by decide)
  have h25 : k ≠ 25 := hk 25 (by decide)
  unfold Profile.withParam
  split <;> simp_all [Profile.settled]

/-- The value a parameter is stored with (R199; for a negative default slot, log entry 6). -/
theorem Profile.clampParam_eq (pr : Profile) (k : Nat) (v : Int) : pr.clampParam k v
    = if k = 4 then clampInt (pr.range k).1 (pr.range k).2 v / 8 * 8
      else if k = 30 then (if clampInt (pr.range k).1 (pr.range k).2 v = v then clampInt (pr.range k).1 (pr.range k).2 v else 0)
      else clampInt (pr.range k).1 (pr.range k).2 v := by
  unfold Profile.clampParam
  dsimp only
  split
  · rfl
  · split
    · subst k
      have hr : pr.range 30 = (0, 3) := rfl
      simp only [hr, clampInt]
      split_ifs <;> omega
    · rfl

/-! ### SET PARAMETER accepted -/

/-- What SET PARAMETER starts from: Port W can send, the store is READY, and nothing is queued, active or stacked (R203). -/
structure State.settable (s : State) : Prop where
  can : s.canSend .workstation
  ready : s.store.state = .ready
  idle : s.engine.state = .idle
  queue : s.jobs.queue = []
  stack : s.stack = []

theorem exec_setParameter_taken (h : s.settable) {tag n i : Byte} (hk : paramArg n i = some (k, j)) (v : ValueWord) :
    exec (.setParameter .workstation tag n i v) s = .next
      (setParameter .workstation tag k j v.toInt (s.setSlot .workstation (.pending (.setParameter .workstation tag n i v)))) := by
  obtain ⟨can, ready, idle, queue, stack⟩ := h
  refine congrArg Host.Outcome.next ((request_taken can (by simp [storeAccess]) fun h => by cases h).trans ?_)
  have free : (s.setSlot .workstation (.pending (.setParameter .workstation tag n i v))).storeBusy = false := by
    simp [State.storeBusy, ready, idle, queue, stack]
  have inForce : (s.setSlot .workstation (.pending (.setParameter .workstation tag n i v))).store.state ≠ .noProfile := by
    simp [ready]
  simp only [hk]
  rw [if_neg (by rw [free]; decide), if_neg inForce]

/-- The state with a value set in its profile, before the effects. -/
def State.withSet (s : State) (k j : Nat) (v : Int) : State := s.setStore { s.store with profile := s.store.profile.setParam k j v }

theorem setParameter_emptying (h : emptiesTable k = true) (tag : Byte) (j : Nat) (v : Int) (s : State) :
    setParameter .workstation tag k j v s = askGrant .w (.emptyTable (s.store.profile.setClamps k j v) (le 4 (s.store.profile.clampParam k v)))
      (paramEffects k (s.withSet k j v)) := by
  unfold setParameter
  rw [if_pos h]
  rfl

theorem setParameter_plain (h : emptiesTable k = false) (tag : Byte) (j : Nat) (v : Int) (s : State) :
    setParameter .workstation tag k j v s = answer .workstation tag
      { clamped := s.store.profile.setClamps k j v, payload := le 4 (s.store.profile.clampParam k v) } (paramEffects k (s.withSet k j v)) := by
  unfold setParameter
  rw [if_neg (by rw [h]; decide)]
  rfl

/-- The effects of a number leave the store and the table. -/
theorem paramEffects_kept (k : Nat) (s : State) : (paramEffects k s).store = s.store ∧ (paramEffects k s).table = s.table := by
  have hm := paramEffects_moves (c := { Scope.still with jobs := true }) rfl (fun _ => rfl) rfl rfl rfl k s
  exact ⟨hm.store, hm.table⟩

theorem setParameter_stored (tag : Byte) (k j : Nat) (v : Int) (s : State) :
    (setParameter .workstation tag k j v s).store.profile = s.store.profile.setParam k j v
      ∧ (setParameter .workstation tag k j v s).table = s.table := by
  obtain ⟨hs, ht⟩ := paramEffects_kept k (s.withSet k j v)
  cases he : emptiesTable k with
  | true =>
    rw [setParameter_emptying he, State.store_of_aside (askGrant_aside _ _ _), State.table_of_aside (askGrant_aside _ _ _), hs, ht]
    exact ⟨rfl, rfl⟩
  | false =>
    rw [setParameter_plain he, State.store_of_aside (answer_aside _ _ _ _), State.table_of_aside (answer_aside _ _ _ _), hs, ht]
    exact ⟨rfl, rfl⟩

theorem Profile.setClamps_of_settled {pr : Profile} {v : Int} (h : (pr.withParam k j (pr.clampParam k v)).settled) :
    pr.setClamps k j v = (pr.clampParam k v != v) ∧ pr.setParam k j v = pr.withParam k j (pr.clampParam k v) := by
  have hs : pr.setParam k j v = pr.withParam k j (pr.clampParam k v) := Profile.adjust_of_settled h
  exact ⟨by simp [Profile.setClamps, hs], hs⟩

/-- The effects of a number that tests no travel stand beside the slots. -/
theorem paramEffects_setSlot (hk : ¬ (k = 24 ∨ k = 25)) (p : Port) (x : Slot) (s : State) :
    paramEffects k (s.setSlot p x) = (paramEffects k s).setSlot p x := by
  unfold paramEffects
  rw [if_neg hk, if_neg hk]
  split_ifs <;> rfl

/-- The parameters that empty no table and test no travel (R203). -/
theorem exec_setParameter_plain (h : s.settable) {tag n i : Byte} (hk : paramArg n i = some (k, j)) (v : ValueWord)
    (hp : s.store.profile.sound) (hn : ∀ m ∈ [1, 2, 3, 24, 25, 28, 29], k ≠ m) :
    exec (.setParameter .workstation tag n i v) s = .next (answer .workstation tag
      { clamped := s.store.profile.clampParam k v.toInt != v.toInt, payload := le 4 (s.store.profile.clampParam k v.toInt) }
      (paramEffects k (s.setStore { s.store with
        profile := s.store.profile.withParam k j (s.store.profile.clampParam k v.toInt) }))) := by
  have settled := Profile.withParam_settled hp.settled (k := k) (fun m hm => hn m (by
    simp only [List.mem_cons, List.not_mem_nil, or_false] at hm ⊢
    omega)) j (s.store.profile.clampParam k v.toInt)
  obtain ⟨clamps, set⟩ := Profile.setClamps_of_settled settled
  have plain : emptiesTable k = false := by
    have h1 := hn 1 (by decide)
    have h2 := hn 2 (by decide)
    have h3 := hn 3 (by decide)
    have h28 := hn 28 (by decide)
    have h29 := hn 29 (by decide)
    simp [emptiesTable, h1, h2, h3, h28, h29]
  have travel : ¬ (k = 24 ∨ k = 25) := not_or.mpr ⟨hn 24 (by decide), hn 25 (by decide)⟩
  rw [exec_setParameter_taken h hk, setParameter_plain plain]
  simp only [State.setSlot_store, clamps]
  have moved : (s.setSlot .workstation (.pending (.setParameter .workstation tag n i v))).withSet k j v.toInt
      = (s.setStore { s.store with profile := s.store.profile.withParam k j (s.store.profile.clampParam k v.toInt) }).setSlot .workstation
          (.pending (.setParameter .workstation tag n i v)) := by
    rw [← set]
    rfl
  rw [moved, paramEffects_setSlot travel, answer_setSlot]

/-- What the effects of these numbers are (R63, R136, R81). -/
theorem paramEffects_plain (hn : ¬ (k = 24 ∨ k = 25)) (s : State) : paramEffects k s
    = if k = 4 then { s with sample := { s.sample with wedge := 0, aligned := false } }
      else if k = 23 then { s with jobs := { s.jobs with drift := 0, pendingZone := none } }
      else if k = 27 then { s with frame := { s.frame with filterLength := s.store.profile.filterLength } }
      else s := by
  unfold paramEffects
  rw [if_neg hn]
  rfl

/-! ### The travel limits (R90, R91, R203) -/

/-- Travel low with travel high after SET PARAMETER of one of them. -/
def Profile.limitsSet (pr : Profile) (k : Nat) (value : Int) : Int × Int :=
  let low := if k = 24 then value else pr.travelLow
  (low, if k = 25 then value else if pr.travelHigh ≤ low then low + 1 else pr.travelHigh)

theorem clampInt_le {lo hi x : Int} (h : lo ≤ hi) : lo ≤ clampInt lo hi x ∧ clampInt lo hi x ≤ hi := by
  unfold clampInt
  split_ifs <;> omega

/-- A travel limit is set with travel high kept above travel low, and nothing else adjusted. -/
theorem Profile.setParam_travel {pr : Profile} (hp : pr.sound) (hk : k = 24 ∨ k = 25) (j : Nat) (v : Int) :
    pr.clampParam k v = clampInt (pr.range k).1 (pr.range k).2 v
      ∧ pr.setParam k j v = { pr with
        travelLow := (pr.limitsSet k (pr.clampParam k v)).1, travelHigh := (pr.limitsSet k (pr.clampParam k v)).2 }
      ∧ pr.setClamps k j v
        = (pr.clampParam k v != v || (k == 24 && (pr.limitsSet k (pr.clampParam k v)).2 != pr.travelHigh)) := by
  obtain ⟨href, hlow⟩ := hp.settled
  have head : ¬ pr.headCount < pr.referenceHead + 1 := by omega
  obtain rfl | rfl := hk
  · have set : pr.setParam 24 j v = { pr with
        travelLow := (pr.limitsSet 24 (pr.clampParam 24 v)).1, travelHigh := (pr.limitsSet 24 (pr.clampParam 24 v)).2 } := by
      simp [Profile.setParam, Profile.withParam, Profile.adjust, Profile.limitsSet, head]
    refine ⟨by rw [Profile.clampParam_eq, if_neg (by decide), if_neg (by decide)], set, ?_⟩
    have only : (pr.setParam 24 j v != pr.withParam 24 j (pr.clampParam 24 v)) = ((pr.limitsSet 24 (pr.clampParam 24 v)).2 != pr.travelHigh) := by
      rw [set, Bool.eq_iff_iff]
      simp [Profile.withParam, Profile.limitsSet]
    simp [Profile.setClamps, only]
  · have h24 := (hp.1 (24, 0) (by decide)).2
    simp only [Profile.range, Profile.param] at h24
    have value : pr.travelLow < pr.clampParam 25 v := by
      have := (clampInt_le (x := v) (show pr.travelLow + 1 ≤ 8388607 by omega)).1
      rw [Profile.clampParam_eq, if_neg (by decide), if_neg (by decide)]
      simp only [Profile.range]
      omega
    have settled : (pr.withParam 25 j (pr.clampParam 25 v)).settled := ⟨href, value⟩
    obtain ⟨clamps, set⟩ := Profile.setClamps_of_settled settled
    exact ⟨by rw [Profile.clampParam_eq, if_neg (by decide), if_neg (by decide)],
      by rw [set]; simp [Profile.withParam, Profile.limitsSet], by rw [clamps]; simp⟩

/-- A travel test with a profile in force sets the travel state, and a fault is posted and reaches the engine. -/
theorem testTravel_inForce (h : s.store.inForce = true) : testTravel s
    = if travelFault s.frame.travel (s.store.profile.travelOf s.frame.count) = true then
        takeFault .travelLimit (postFault (.travel (s.store.profile.travelOf s.frame.count == .above) s.frame.count)
          { s with frame := { s.frame with travel := s.store.profile.travelOf s.frame.count } })
      else { s with frame := { s.frame with travel := s.store.profile.travelOf s.frame.count } } := by
  unfold testTravel
  rw [if_pos h]

theorem travelFault_iff (a b : TravelState) (hb : b ≠ .untested) :
    travelFault a b = true ↔ (a = .inside ∨ a = .untested) ∧ b ≠ .inside := by
  cases a <;> cases b <;> simp_all [travelFault]

theorem Profile.travelOf_ne_untested (pr : Profile) (c : Int) : pr.travelOf c ≠ .untested := by
  unfold Profile.travelOf
  split_ifs <;> decide

/-- A FAULT notice stands in the detail of each of Port W and Port P that is ATTACHED. -/
theorem postFault_detail (d : Detail) {q : Port} (hq : q ≠ .adapter) (ha : (s.port q).attached = true) :
    ((postFault d s).port q).notices.details.get .fault = some d := by
  unfold postFault
  cases q with
  | adapter => exact absurd rfl hq
  | positioner => exact post_detail_same (by rw [post_attached]; exact ha)
  | workstation =>
    rw [post_details, if_neg (by simp)]
    exact post_detail_same ha

/-- A fault that meets an IDLE engine holds it, and changes nothing beside the notices and the engine state (R56). -/
theorem takeFault_postFault_idle (h : s.engine.state = .idle) (o : JobOutcome) (d : Detail) :
    takeFault o (postFault d s) = setEngineState .faultHold (postFault d s) := by
  have he : (postFault d s).engine.state = .idle := by rw [State.engine_of_mute (postFault_mute d s), h]
  unfold takeFault
  rw [he]

/-- The state with a new profile in RAM and the travel state that its limits give. -/
def State.limited (s : State) (pr : Profile) : State :=
  { s with store := { s.store with profile := pr }, frame := { s.frame with travel := pr.travelOf s.frame.count } }

/-- A travel limit set while no travel fault comes of it. -/
theorem setParameter_limit (hk : k = 24 ∨ k = 25) (tag : Byte) (j : Nat) (v : Int) (s : State) (hs : s.store.inForce = true)
    (hf : ¬ travelFault s.frame.travel ((s.store.profile.setParam k j v).travelOf s.frame.count) = true) :
    setParameter .workstation tag k j v s = answer .workstation tag
      { clamped := s.store.profile.setClamps k j v, payload := le 4 (s.store.profile.clampParam k v) }
      (s.limited (s.store.profile.setParam k j v)) := by
  have plain : emptiesTable k = false := by obtain rfl | rfl := hk <;> rfl
  have effects : paramEffects k (s.withSet k j v) = testTravel (s.withSet k j v) := by obtain rfl | rfl := hk <;> rfl
  have same : testTravel (s.withSet k j v) = s.limited (s.store.profile.setParam k j v) :=
    (testTravel_inForce (s := s.withSet k j v) hs).trans (if_neg hf)
  rw [setParameter_plain plain, effects, same]

/-- A travel limit set, and a travel fault with it, on an IDLE engine. -/
theorem setParameter_limitFault (hk : k = 24 ∨ k = 25) (tag : Byte) (j : Nat) (v : Int) (s : State) (hs : s.store.inForce = true)
    (hi : s.engine.state = .idle)
    (hf : travelFault s.frame.travel ((s.store.profile.setParam k j v).travelOf s.frame.count) = true) :
    setParameter .workstation tag k j v s = answer .workstation tag
      { clamped := s.store.profile.setClamps k j v, payload := le 4 (s.store.profile.clampParam k v) }
      (setEngineState .faultHold (postFault (.travel ((s.store.profile.setParam k j v).travelOf s.frame.count == .above) s.frame.count)
        (s.limited (s.store.profile.setParam k j v)))) := by
  have plain : emptiesTable k = false := by obtain rfl | rfl := hk <;> rfl
  have effects : paramEffects k (s.withSet k j v) = testTravel (s.withSet k j v) := by obtain rfl | rfl := hk <;> rfl
  have held : testTravel (s.withSet k j v) = setEngineState .faultHold
      (postFault (.travel ((s.store.profile.setParam k j v).travelOf s.frame.count == .above) s.frame.count)
        (s.limited (s.store.profile.setParam k j v))) :=
    
    (testTravel_inForce (s := s.withSet k j v) hs).trans ((if_pos hf).trans
      (takeFault_postFault_idle (s := s.limited (s.store.profile.setParam k j v)) hi .travelLimit _))
  rw [setParameter_plain plain, effects, held]

/-! ### The head count (R198) -/

theorem Profile.setParam_headCount (pr : Profile) (j : Nat) (v : Int) :
    (pr.setParam 1 j v).headCount = (clampInt 1 16 v).toNat
      ∧ (pr.setParam 1 j v).referenceHead = min pr.referenceHead ((clampInt 1 16 v).toNat - 1) := by
  have heads : (pr.withParam 1 j (pr.clampParam 1 v)).headCount = (clampInt 1 16 v).toNat := rfl
  have lower : 1 ≤ (clampInt 1 16 v).toNat := by
    have := clampInt_le (x := v) (show (1 : Int) ≤ 16 by decide)
    omega
  refine ⟨heads, ?_⟩
  have adjusted : (pr.setParam 1 j v).referenceHead
      = if (clampInt 1 16 v).toNat < pr.referenceHead + 1 then (clampInt 1 16 v).toNat - 1 else pr.referenceHead := rfl
  rw [adjusted]
  split_ifs <;> omega

theorem State.setSlot_slot (s : State) (p : Port) (x : Slot) : ((s.setSlot p x).port p).slot = x := by simp [State.setSlot]

theorem State.setSlot_notices (s : State) (p q : Port) (x : Slot) : ((s.setSlot p x).port q).notices = (s.port q).notices := by
  have h := congrArg LinkPort.notices (State.port_of_aside (setSlot_aside s p x) q)
  exact h

theorem State.setSlot_attached (s : State) (p q : Port) (x : Slot) : ((s.setSlot p x).port q).attached = (s.port q).attached := by
  have h := congrArg LinkPort.attached (State.port_of_aside (setSlot_aside s p x) q)
  exact h

theorem State.responseOf_setSlot (s : State) (p : Port) (x : Slot) (tag : Byte) (a : Answer) :
    (s.setSlot p x).responseOf p tag a = s.responseOf p tag a := by simp [State.responseOf, State.setSlot]

/-- A fault posted with the engine held, and the answer beside it. -/
def State.faulted (s : State) (tag : Byte) (a : Answer) (d : Detail) : State :=
  answer .workstation tag a (setEngineState .faultHold (postFault d s))

theorem State.faulted_parts (s : State) (tag : Byte) (a : Answer) (d : Detail) :
    (s.faulted tag a d).store = s.store ∧ (s.faulted tag a d).frame = s.frame ∧ (s.faulted tag a d).jobs = s.jobs
      ∧ (s.faulted tag a d).engine = { s.engine with state := .faultHold } := by
  have mute := postFault_mute d s
  have kept : (s.faulted tag a d).store = (postFault d s).store ∧ (s.faulted tag a d).frame = (postFault d s).frame
      ∧ (s.faulted tag a d).jobs = (postFault d s).jobs ∧ (s.faulted tag a d).engine = { (postFault d s).engine with state := .faultHold } :=
    ⟨rfl, rfl, rfl, rfl⟩
  rw [State.store_of_mute mute, State.frame_of_mute mute, State.jobs_of_mute mute, State.engine_of_mute mute] at kept
  exact kept

theorem State.faulted_slot (s : State) (tag : Byte) (a : Answer) (d : Detail) :
    ((s.faulted tag a d).port .workstation).slot = .ready (s.responseOf .workstation tag a) := by
  have dropped : ((setEngineState .faultHold (postFault d s)).port .workstation).dropped = (s.port .workstation).dropped :=
    State.dropped_of_mute (postFault_mute d s) .workstation
  unfold State.faulted
  rw [answer_slot, State.responseOf, dropped]
  rfl

theorem State.faulted_told {q : Port} (hq : q ≠ .adapter) (ha : (s.port q).attached = true) (tag : Byte) (a : Answer) (d : Detail) :
    ((s.faulted tag a d).port q).notices.details.fault = some d ∧ (s.faulted tag a d).isPending q .fault = true := by
  have detail : ((s.faulted tag a d).port q).notices.details.get .fault = some d := by
    unfold State.faulted answer
    rw [State.setSlot_notices]
    exact postFault_detail d hq ha
  exact ⟨detail, State.isPending_of_detail detail⟩

/-- Settles O50: SET PARAMETER accepted is its stored value, with the effects of its number and then the answer or the request to
empty the table. -/
theorem setParameter_holds : Obligations.SetParameter := by
  unfold Obligations.SetParameter
  intro tag n i k j v s can hk ready idle queue stack c value
  have h : s.settable := ⟨can, ready, idle, queue, stack⟩
  have taken := exec_setParameter_taken h (tag := tag) hk v
  have stored := setParameter_stored tag k j v.toInt (s.setSlot .workstation (.pending c))
  simp only [State.setSlot_store, State.setSlot_table] at stored
  refine ⟨⟨_, taken, stored⟩, ?plain, ?travel, ?heads, ?emptying⟩
  case plain =>
    intro sound hn
    rw [exec_setParameter_plain h hk v sound hn, Profile.clampParam_eq,
      paramEffects_plain (not_or.mpr ⟨hn 24 (by decide), hn 25 (by decide)⟩)]
    by_cases k27 : k = 27
    · subst k27
      rfl
    · simp only [if_neg k27]
      rfl
  case travel =>
    intro sound travel slot low high side off a set
    obtain ⟨clamped, limits, clamps⟩ := Profile.setParam_travel sound travel j v.toInt
    rw [clamped] at limits clamps
    have reached : s.limited (s.store.profile.setParam k j v.toInt) = set := by rw [limits]; rfl
    have side_eq : (s.store.profile.setParam k j v.toInt).travelOf s.frame.count = side := by rw [limits]; rfl
    have fault : travelFault s.frame.travel ((s.store.profile.setParam k j v.toInt).travelOf s.frame.count) = true ↔ off := by
      rw [travelFault_iff _ _ (Profile.travelOf_ne_untested _ _), side_eq]
    have answered : ({ clamped := s.store.profile.setClamps k j v.toInt, payload := le 4 (s.store.profile.clampParam k v.toInt) } : Answer)
        = a := by rw [clamps, clamped]; rfl
    rw [taken]
    constructor
    · intro inside
      have same := setParameter_limit travel tag j v.toInt (s.setSlot .workstation (.pending c)) slot (mt fault.mp inside)
      rw [State.setSlot_store] at same
      rw [same, answered, ← reached]
      exact congrArg Host.Outcome.next (answer_setSlot (s.limited _) .workstation (.pending c) tag a)
    · intro outside
      have held := setParameter_limitFault travel tag j v.toInt (s.setSlot .workstation (.pending c)) slot idle (fault.mpr outside)
      simp only [State.setSlot_store, State.setSlot_frame] at held
      rw [answered, side_eq] at held
      have limited : (s.setSlot .workstation (.pending c)).limited (s.store.profile.setParam k j v.toInt)
          = set.setSlot .workstation (.pending c) := by rw [← reached]; rfl
      rw [limited] at held
      obtain ⟨store, frame, jobs, engine⟩ :=
        State.faulted_parts (set.setSlot .workstation (.pending c)) tag a (.travel (side == .above) s.frame.count)
      refine ⟨_, congrArg Host.Outcome.next held, store, frame, jobs, engine, ?slot, ?told⟩
      case slot =>
        refine (State.faulted_slot (set.setSlot .workstation (.pending c)) tag a _).trans ?_
        rw [State.responseOf_setSlot]
        rfl
      case told =>
        intro p hp attached
        exact State.faulted_told hp ((State.setSlot_attached set .workstation p (.pending c)).trans attached) tag a _
  case heads =>
    rintro rfl
    obtain ⟨heads, reference⟩ := Profile.setParam_headCount s.store.profile j v.toInt
    exact ⟨_, taken, stored.1 ▸ heads, stored.1 ▸ reference⟩
  case emptying =>
    intro free hn
    have empties : emptiesTable k = true := by
      simp only [List.mem_cons, List.not_mem_nil, or_false] at hn
      obtain rfl | rfl | rfl | rfl | rfl := hn <;> rfl
    have effects (u : State) : paramEffects k u = u := by
      simp only [List.mem_cons, List.not_mem_nil, or_false] at hn
      obtain rfl | rfl | rfl | rfl | rfl := hn <;> rfl
    have granted := (setParameter_emptying empties tag j v.toInt (s.setSlot .workstation (.pending c))).trans
      ((congrArg _ (effects _)).trans (askGrant_free free))
    exact ⟨_, _, _, taken.trans (congrArg Host.Outcome.next granted), rfl, s.setSlot_slot .workstation (.pending c)⟩

end Sys2Proof.Machine
end

section
/-! SUPPORT. Going on to what is due next draws on the jobs that stand in the queue, the engine and the stack, and GROUP_END_PUBLISH (R18,
R19, R132, R138, R149). -/

namespace Sys2Proof.Machine

variable {s t u : State} {r : SearchRecord} {p q : Port}

/-! ### Going on takes its jobs from those that stand -/

/-- The work of `v` is drawn from that of `w`: no group changes, nothing is queued, and a job is stacked only where it was so
or where the engine worked on it. -/
structure Work.Draws (w v : Work) : Prop where
  groups : v.groups = w.groups
  queue : v.queue ⊆ w.queue
  stack : ∀ j ∈ v.stack, j ∈ w.stack ∨ w.active = some j ∧ w.state.working = true

theorem Work.Draws.refl (w : Work) : w.Draws w := ⟨rfl, fun _ h => h, fun _ h => .inl h⟩

theorem Work.Draws.of_eq {w v : Work} (h : v = w) : w.Draws v := h ▸ .refl w

theorem takeHead_draws (s : State) : s.work.Draws (takeHead s).work := by
  cases hq : s.jobs.queue with
  | nil =>
    have same : takeHead s = s := by simp only [takeHead, hq]
    rw [same]
    exact .refl _
  | cons j rest =>
    obtain ⟨e, -, hw⟩ := takeHead_work hq
    rw [hw]
    exact ⟨rfl, fun x hx => (congrArg (x ∈ ·) hq).mpr (List.mem_cons_of_mem j hx), fun _ h => .inl h⟩

theorem resumeTop_draws (s : State) : s.work.Draws (resumeTop s).work := by
  cases hs : s.stack with
  | nil =>
    have same : resumeTop s = s := by simp only [resumeTop, hs]
    rw [same]
    exact .refl _
  | cons r rest =>
    obtain ⟨e, -, hw⟩ := resumeTop_work hs
    rw [hw]
    exact ⟨rfl, fun _ h => h, fun x hx => .inl (by simpa [State.work, hs] using List.mem_cons_of_mem r.job hx)⟩

theorem tryPreempt_draws (s : State) : s.work.Draws (tryPreempt s).work := by
  unfold tryPreempt
  split
  · rename_i hp
    unfold State.mustPreempt at hp
    split at hp
    · rename_i r j rest ha hq
      obtain ⟨e, -, hw⟩ := preempt_work ha hq
      rw [hw]
      refine ⟨rfl, fun x hx => (congrArg (x ∈ ·) hq).mpr (List.mem_cons_of_mem j hx), fun x hx => ?_⟩
      obtain rfl | hx := List.mem_cons.mp hx
      · simp only [Bool.and_eq_true] at hp
        exact .inr ⟨congrArg (Option.map SearchRecord.job) ha, hp.1.1.1.1⟩
      · exact .inl hx
    · cases hp
  · exact .refl _

/-- Work drawn twice, where what came between has no job to stack but those it stacks already. -/
theorem Work.Draws.then {w v x : Work} (h : w.Draws v) (h' : v.Draws x) (ha : ∀ j, v.active = some j → j ∈ w.stack) :
    w.Draws x := by
  refine ⟨h'.groups.trans h.groups, fun j hj => h.queue (h'.queue hj), fun j hj => ?_⟩
  obtain hj | ⟨hj, -⟩ := h'.stack j hj
  · exact h.stack j hj
  · exact .inl (ha j hj)

theorem enterPublish_work (s : State) : (enterPublish s).work = { s.work with state := .publish } :=
  (askEngine_moves (c := .still) rfl _).work rfl

theorem advance_draws (s : State) : s.work.Draws (advance s).work := by
  unfold advance
  split
  · split
    · rw [enterPublish_work]
      exact ⟨rfl, fun _ h => h, fun _ h => .inl h⟩
    · split
      · rename_i r rest hs
        split
        · obtain ⟨e, -, hw⟩ := resumeTop_work hs
          refine (resumeTop_draws s).then (tryPreempt_draws _) fun j hj => ?_
          rw [hw] at hj
          cases hj
          simp [State.work, hs]
        · exact .refl _
      · split
        · split
          · exact takeHead_draws s
          · exact .refl _
        · exact .refl _
  · exact tryPreempt_draws s

/-! ### GROUP_END_PUBLISH -/

theorem removePublished_work {id : Nat} (h : s.engine.publishing = some id) :
    removePublished s = s.setJobs { s.jobs with groups := s.jobs.groups.filter fun g => g.id != id } := by
  unfold removePublished
  rw [h]

theorem leavePublish_groups (s : State) : (leavePublish s).jobs.groups = s.jobs.groups := by
  unfold leavePublish
  split
  · rfl
  · exact (advance_draws _).groups

theorem leavePublish_faultHold (h : s.engine.faultPending = true) : (leavePublish s).engine.state = .faultHold := by
  unfold leavePublish
  rw [if_pos h]
  rfl

/-- Settles O48: the publish, the notices and the group's leaving are one run of changes that keep the table it makes. -/
theorem groupEndPublish : Obligations.GroupEndPublish := by
  unfold Obligations.GroupEndPublish
  intro id s state holds publishing
  have carried : exec .groupEndPublish s = .next (leavePublish (removePublished
      (postWD .published s.publishDetail (release (publishTable s))))) :=
    congrArg Host.Outcome.next (if_pos ⟨state, by simp [Arbiter.engineHolds, holds]⟩)
  have mute := postWD_mute .published s.publishDetail (release (publishTable s))
  have jobs : (postWD .published s.publishDetail (release (publishTable s))).jobs = s.jobs := by
    rw [State.jobs_of_mute mute, State.jobs_of_aside (release_aside _)]
    rfl
  have engine : (postWD .published s.publishDetail (release (publishTable s))).engine = s.engine := by
    rw [State.engine_of_mute mute, State.engine_of_aside (release_aside _)]
    rfl
  have removed := removePublished_work (s := postWD .published s.publishDetail (release (publishTable s))) (engine ▸ publishing)
  have goes : Moves { jobs := true } (postWD .published s.publishDetail (release (publishTable s)))
      (leavePublish (removePublished (postWD .published s.publishDetail (release (publishTable s))))) :=
    (removePublished_moves rfl _).trans (leavePublish_moves rfl _)
  refine ⟨_, carried, ?table, ?groups, ?told, ?fault⟩
  case table => rw [goes.table, State.table_of_mute mute, State.table_of_aside (release_aside _)]
  case groups =>
    rw [leavePublish_groups, removed]
    simp [State.setJobs, jobs]
  case told =>
    intro p hp attached
    have posted := postWD_detail .published s.publishDetail (s := release (publishTable s)) hp (by rw [release_port]; exact attached)
    have told := (goes.detail (q := p) (src := .published) rfl nofun nofun).trans posted
    exact ⟨told, State.isPending_of_detail told⟩
  case fault =>
    intro pending
    refine leavePublish_faultHold ?_
    rw [removed]
    simpa [State.setJobs, engine] using pending

end Sys2Proof.Machine
end

section
/-! SUPPORT. COMMIT: what it leaves in the table, the notices, the completion record and the answers to the resets that waited (R8, R10, R11,
R54, R194). -/

namespace Sys2Proof.Machine

variable {s t u : State} {r : SearchRecord} {o : JobOutcome} {part : StagedPart} {p q : Port} {h z k : Nat}

/-! ### The table -/

theorem writeStaged_entryAt (hk : k < 192) (h z : Nat) (part : StagedPart) (s : State) : (writeStaged h z part s).entryAt k
    = { s.entryAt k with staged := if k = entryIndex h z then some part else (s.entryAt k).staged } := by
  unfold writeStaged
  rw [setEntry_entryAt _ _ _ _ hk]
  split
  · subst k
    rfl
  · rfl

theorem markZoneStale_entryAt (hk : k < 192) (z : Nat) (s : State) : (markZoneStale z s).entryAt k
    = { s.entryAt k with published := (s.entryAt k).published.map fun x => { x with stale := x.stale || k % 12 == z } } := by
  unfold markZoneStale
  rw [mapEntries_entryAt _ _ hk]
  by_cases hz : k % 12 = z
  · rw [if_pos hz, beq_iff_eq.mpr hz]
    simp only [Bool.or_true]
    rfl
  · rw [if_neg hz, beq_false_of_ne hz]
    simp

/-- The entries a commit leaves (R8, R10). -/
theorem commitTable_entryAt (hp : r.job.work.place = some (h, z)) (hk : k < 192) (s : State) : (commitTable r part s).entryAt k
    = { s.entryAt k with
      staged := if k = entryIndex h z then some part else (s.entryAt k).staged
      published := (s.entryAt k).published.map fun x =>
        { x with stale := x.stale || (s.store.profile.marks (s.driftFound r.job.work part) && k % 12 == z) } } := by
  unfold commitTable
  rw [hp]
  cases hm : s.store.profile.marks (s.driftFound r.job.work part) with
  | true => simp [markZoneStale_entryAt hk, writeStaged_entryAt hk]
  | false => simp [writeStaged_entryAt hk]

theorem commitTable_generation (r : SearchRecord) (part : StagedPart) (s : State) :
    (commitTable r part s).table.generation = s.table.generation := by
  unfold commitTable
  split
  · rfl
  · dsimp only
    split <;> rfl

theorem commitTable_ports (r : SearchRecord) (part : StagedPart) (s : State) : (commitTable r part s).ports = s.ports := by
  unfold commitTable
  split
  · rfl
  · dsimp only
    split <;> rfl

theorem commitTable_sample (r : SearchRecord) (part : StagedPart) (s : State) : (commitTable r part s).sample = s.sample := by
  unfold commitTable
  split
  · rfl
  · dsimp only
    split <;> rfl

/-! ### The answers to the resets that waited -/

theorem forgetDrops_port_of_ne {x : ResetReply} (hq : q ≠ x.port) (s : State) : (forgetDrops x s).port q = s.port q := by
  unfold forgetDrops
  split
  · simp [hq]
  · rfl

theorem forgetDrops_dropped (x : ResetReply) (s : State) :
    ((forgetDrops x s).port x.port).dropped = if x.target = x.port then 0 else (s.port x.port).dropped := by
  unfold forgetDrops
  split <;> simp

theorem answerPending_dropped (p : Port) (a : Answer) (s : State) (q : Port) : ((answerPending p a s).port q).dropped = (s.port q).dropped := by
  have h := congrArg LinkPort.dropped (State.port_of_aside (answerPending_aside p a s) q)
  exact h

/-- Once a port's count stands at what a reset leaves, the answers to that reset leave it. -/
theorem answerAll_dropped {x : ResetReply} (l : List ResetReply) (unique : ∀ y ∈ l, y.port = x.port → y = x)
    (hd : x.target = x.port → (s.port x.port).dropped = 0) : ((answerAll l s).port x.port).dropped = (s.port x.port).dropped := by
  induction l generalizing s with
  | nil => rfl
  | cons y l ih =>
    have first : ((answerPending y.port { payload := resetPayload y.queued y.stacked (some .cleared) } (forgetDrops y s)).port x.port).dropped
        = (s.port x.port).dropped := by
      rw [answerPending_dropped]
      by_cases hy : y.port = x.port
      · rw [unique y (by simp) hy, forgetDrops_dropped]
        split
        · exact (hd ‹_›).symm
        · rfl
      · rw [forgetDrops_port_of_ne (Ne.symm hy)]
    exact (ih (fun w hw => unique w (by simp [hw])) fun ht => first.trans (hd ht)).trans first

/-- A reset that waited is answered with its own numbers, where no other waited at its port (R194). -/
theorem answerAll_answers {x : ResetReply} {i : Instr} (l : List ResetReply) (hx : x ∈ l) (unique : ∀ y ∈ l, y.port = x.port → y = x)
    (hs : (s.port x.port).slot = .pending i) :
    let dropped := if x.target = x.port then 0 else (s.port x.port).dropped
    ((answerAll l s).port x.port).dropped = dropped
      ∧ ((answerAll l s).port x.port).slot
        = .ready ⟨.ok, i.tag, false, false, false, dropped, 0, resetPayload x.queued x.stacked (some .cleared)⟩ := by
  intro dropped
  induction l generalizing s with
  | nil => cases hx
  | cons y l ih =>
    have others : ∀ w ∈ l, w.port = x.port → w = x := fun w hw => unique w (by simp [hw])
    by_cases hy : y.port = x.port
    · obtain rfl := unique y (by simp) hy
      have slot := answerPending_slot (a := { payload := resetPayload y.queued y.stacked (some .cleared) })
        ((forgetDrops_slot y s y.port).trans hs)
      have count : ((answerPending y.port { payload := resetPayload y.queued y.stacked (some .cleared) } (forgetDrops y s)).port
          y.port).dropped = dropped := (answerPending_dropped _ _ _ _).trans (forgetDrops_dropped y s)
      refine ⟨(answerAll_dropped l others fun ht => count.trans (if_pos ht)).trans count,
        (answerAll_slot_of_ready l slot).trans ?_⟩
      simp [State.responseOf, forgetDrops_dropped, dropped]
    · have same : (answerPending y.port { payload := resetPayload y.queued y.stacked (some .cleared) } (forgetDrops y s)).port x.port
          = s.port x.port := (answerPending_port_of_ne (Ne.symm hy)).trans (forgetDrops_port_of_ne (Ne.symm hy) s)
      have rest := ih ((List.mem_cons.mp hx).resolve_left fun e => hy (congrArg ResetReply.port e.symm)) others
        (s := answerPending y.port _ (forgetDrops y s)) (same ▸ hs)
      rw [same] at rest
      exact rest

theorem answerAll_port_kept (l : List ResetReply) (s : State) (q : Port) :
    ((answerAll l s).port q).completions = (s.port q).completions ∧ ((answerAll l s).port q).notices = (s.port q).notices := by
  induction l generalizing s with
  | nil => exact ⟨rfl, rfl⟩
  | cons x l ih =>
    have forgotten : ((forgetDrops x s).port q).completions = (s.port q).completions ∧ ((forgetDrops x s).port q).notices = (s.port q).notices := by
      unfold forgetDrops
      split
      · rw [State.port_setPort_eq]
        split
        · subst q
          exact ⟨rfl, rfl⟩
        · exact ⟨rfl, rfl⟩
      · exact ⟨rfl, rfl⟩
    have answered := State.port_of_aside (answerPending_aside x.port
      { payload := resetPayload x.queued x.stacked (some .cleared) } (forgetDrops x s)) q
    have completions := congrArg LinkPort.completions answered
    have notices := congrArg LinkPort.notices answered
    obtain ⟨h1, h2⟩ := ih (answerPending x.port _ (forgetDrops x s))
    exact ⟨h1.trans (completions.trans forgotten.1), h2.trans (notices.trans forgotten.2)⟩

/-! ### The end of a committed job -/

/-- A record joins a list that has room (R181). -/
theorem writeCompletion_completions {c : CompletionRecord} (h : (s.port p).completions.length < 8) :
    ((writeCompletion p c s).port p).completions = (s.port p).completions ++ [c] := by
  rw [State.completions_of_mute (writeCompletion_mute_room h)]
  simp [State.setCompletions]

/-- The end of a committed job that was not CLEARED. -/
theorem endCommit_recorded (h : s.engine.clearPending = false) (drift : Option Int) (marked : Bool) :
    Moves { jobs := true } (writeRecord r.job (stagedRecord r o part drift marked s.sample.revolutions) s)
      (endCommit r o part drift marked s) := by
  unfold endCommit
  rw [if_neg (by simp [h])]
  exact .after (afterJob_moves rfl _ _ _) (.after (accountEnd_moves rfl _ _) (clearActive_moves rfl _ _))

/-- The end of a committed job that was CLEARED: what comes before the resets that waited are answered. -/
def State.clearedCommit (s : State) (r : SearchRecord) : State := afterJob s.engine.faultPending true (clearActive r s)

/-- No reset waits any longer. -/
def State.unawaited (s : State) : State := s.setEngine { s.engine with resetReplies := [] }

theorem State.clearedCommit_moves (s : State) (r : SearchRecord) : Moves { jobs := true } s (s.clearedCommit r) :=
  .after (afterJob_moves rfl _ _ _) (clearActive_moves rfl _ _)

theorem endCommit_cleared (h : s.engine.clearPending = true) (drift : Option Int) (marked : Bool) :
    endCommit r o part drift marked s = answerAll s.engine.resetReplies (s.clearedCommit r).unawaited := by
  unfold endCommit
  rw [if_pos h]
  have replies : (s.clearedCommit r).engine.resetReplies = s.engine.resetReplies := (s.clearedCommit_moves r).resetReplies
  rw [← replies]
  rfl

/-- The end of a committed job keeps the table and every notice but WITHDRAWN and QUEUE_SPACE. -/
theorem endCommit_kept (r : SearchRecord) (o : JobOutcome) (part : StagedPart) (drift : Option Int) (marked : Bool) (s : State) :
    (endCommit r o part drift marked s).table = s.table
      ∧ ∀ q, ((endCommit r o part drift marked s).port q).notices.details.get .drift = (s.port q).notices.details.get .drift := by
  cases h : s.engine.clearPending with
  | false =>
    have moves := ((writeRecord_moves (c := { jobs := true, lists := fun _ => true }) (j := r.job) rfl _ s).trans (.after
      (afterJob_moves rfl s.engine.faultPending false _) (.after (accountEnd_moves rfl r.job _) (clearActive_moves rfl r
        (writeRecord r.job (stagedRecord r o part drift marked s.sample.revolutions) s)))))
    unfold endCommit
    rw [if_neg (by simp [h])]
    exact ⟨moves.table, fun q => moves.detail rfl nofun nofun⟩
  | true =>
    rw [endCommit_cleared h]
    obtain ⟨x, e⟩ := answerAll_ports s.engine.resetReplies (s.clearedCommit r).unawaited
    refine ⟨(congrArg State.table e).trans (s.clearedCommit_moves r).table, fun q => ?_⟩
    rw [(answerAll_port_kept _ _ q).2]
    have kept := (s.clearedCommit_moves r).detail (q := q) (src := .drift) rfl nofun nofun
    exact kept

/-! ### COMMIT -/

/-- The state in which a committed job ends: the table written, the grant passed on and the ports told. -/
def State.committed (s : State) (r : SearchRecord) (part : StagedPart) : State :=
  postDrift r.job.work.zone (s.driftFound r.job.work part) (s.store.profile.marks (s.driftFound r.job.work part))
    (release (commitTable r part s))

theorem State.committed_mute (s : State) (r : SearchRecord) (part : StagedPart) :
    (s.committed r part).mute = (release (commitTable r part s)).mute := by
  unfold State.committed postDrift
  split
  · split
    · exact postWD_mute _ _ _
    · rfl
  · rfl

theorem State.committed_told {d : Int} (hd : s.driftFound r.job.work part = some d)
    (hm : s.store.profile.marks (s.driftFound r.job.work part) = true) (hp : p ≠ .positioner) (ha : (s.port p).attached = true) :
    ((s.committed r part).port p).notices.details.get .drift = some (.drift r.job.work.zone d) := by
  unfold State.committed postDrift
  simp only [hd] at hm ⊢
  rw [if_pos hm]
  refine postWD_detail _ _ hp ?_
  rw [release_port, State.port, commitTable_ports]
  exact ha

theorem exec_commit_carried (state : s.engine.state = .commit) (holds : s.arbiter.holder = some (.engine, .commit))
    (active : s.engine.active = some r) (staging : s.engine.staging = some (o, part)) : exec .commit s = .next
      (endCommit r o part (s.driftFound r.job.work part) (s.store.profile.marks (s.driftFound r.job.work part)) (s.committed r part)) := by
  refine congrArg Host.Outcome.next ((if_pos ⟨state, by simp [Arbiter.engineHolds, holds]⟩).trans ?_)
  simp only [active, staging]
  rfl

/-- While the waiting resets are answered their ports still hold the requests: the grant has just passed, so no record is placed under it. -/
theorem State.committed_slot (s : State) (r : SearchRecord) (part : StagedPart) (q : Port) :
    (((s.committed r part).clearedCommit r).port q).slot = (s.port q).slot := by
  have moves : Moves { jobs := true, details := true } (release (commitTable r part s)) ((s.committed r part).clearedCommit r) :=
    (postDrift_moves rfl _ _ _ _).trans (.after (afterJob_moves rfl _ _ _) (clearActive_moves rfl _ _))
  rw [((moves.uncut (release_uncut _)).2 q).1, release_port, State.port, commitTable_ports]
  rfl

theorem State.committed_engine (s : State) (r : SearchRecord) (part : StagedPart) : (s.committed r part).engine = s.engine := by
  rw [State.engine_of_mute (s.committed_mute r part), State.engine_of_aside (release_aside _), commitTable_engine]

theorem State.committed_port (s : State) (r : SearchRecord) (part : StagedPart) (q : Port) :
    ((s.committed r part).port q).completions = (s.port q).completions ∧ ((s.committed r part).port q).dropped = (s.port q).dropped := by
  rw [State.completions_of_mute (s.committed_mute r part), State.dropped_of_mute (s.committed_mute r part), release_port, State.port,
    commitTable_ports]
  exact ⟨rfl, rfl⟩

/-- Settles O47: the table is written before the release, the notices go out after it, and then the job ends with its record or with the
answers to the resets that waited. -/
theorem commit : Obligations.Commit := by
  unfold Obligations.Commit
  intro r o part h z s hh hz state holds active staging work drift exceeds q
  have place : r.job.work.place = some (h, z) := by obtain e | e := work <;> rw [e] <;> rfl
  have zone : r.job.work.zone = z := by obtain e | e := work <;> rw [e] <;> rfl
  have found : s.driftFound r.job.work part = drift := by
    obtain e | e := work
    · simp only [drift, e]
      rfl
    · simp only [drift, e]
      cases part with
      | suspect => rfl
      | converged =>
        simp only [State.driftFound]
        cases (s.entry h z).published <;> rfl
  have marks : s.store.profile.marks drift = exceeds := rfl
  have carried := exec_commit_carried state holds active staging
  have entries (k : Nat) (hk : k < 192) := commitTable_entryAt (part := part) place hk s
  obtain ⟨table, details⟩ := endCommit_kept r o part (s.driftFound r.job.work part)
    (s.store.profile.marks (s.driftFound r.job.work part)) (s.committed r part)
  rw [State.table_of_mute (s.committed_mute r part), State.table_of_aside (release_aside _)] at table
  have engine := s.committed_engine r part
  refine ⟨_, carried, ?generation, ?entries, ?record, ?told, ?cleared⟩
  case generation => rw [table, commitTable_generation]
  case entries =>
    intro k hk
    have entry : (endCommit r o part (s.driftFound r.job.work part) (s.store.profile.marks (s.driftFound r.job.work part))
        (s.committed r part)).entryAt k = (commitTable r part s).entryAt k := by
      unfold State.entryAt
      rw [table]
    rw [entry, entries k hk, found, marks]
    exact ⟨rfl, rfl, rfl⟩
  case record =>
    intro pending room
    rw [((endCommit_recorded (engine ▸ pending) _ _).completions rfl).1]
    have room' : ((s.committed r part).port q).completions.length < 8 := by rw [(s.committed_port r part q).1]; exact room
    refine (writeCompletion_completions room').trans ?_
    rw [(s.committed_port r part q).1, found, marks, State.sample_of_mute (s.committed_mute r part),
      State.sample_of_aside (release_aside _), commitTable_sample]
  case told =>
    intro d hd hx p hp attached
    have told := (details p).trans (State.committed_told (r := r) (part := part) (found.trans hd)
      (by rw [found, marks]; exact hx) hp attached)
    rw [zone] at told
    exact ⟨told, State.isPending_of_detail told⟩
  case cleared =>
    intro pending
    rw [endCommit_cleared (engine ▸ pending), engine]
    have moved := (s.committed r part).clearedCommit_moves r
    obtain ⟨x, ports⟩ := answerAll_ports s.engine.resetReplies ((s.committed r part).clearedCommit r).unawaited
    refine ⟨?_, congrArg (fun u : State => u.engine.resetReplies) ports, ?_⟩
    · rw [(answerAll_port_kept _ _ q).1]
      exact (moved.completions rfl).1.trans (s.committed_port r part q).1
    · intro x hx unique dropped i slot
      have waiting : (((s.committed r part).clearedCommit r).port x.port).slot = .pending i :=
        (s.committed_slot r part x.port).trans slot
      have count : (((s.committed r part).clearedCommit r).port x.port).dropped = (s.port x.port).dropped :=
        (moved.dropped rfl).trans (s.committed_port r part x.port).2
      have answered := answerAll_answers (s := ((s.committed r part).clearedCommit r).unawaited)
        s.engine.resetReplies hx unique waiting
      simp only [State.unawaited, State.setEngine_port, count] at answered
      exact answered

end Sys2Proof.Machine
end

section
/-! SUPPORT. RESET PORT: nothing of the reset port stands anywhere, its record is as at power-on, and the request is answered or waits for
the commit (R11, R119, R140, R154, R194, R195). -/

namespace Sys2Proof.Machine

variable {s t u : State} {r : SearchRecord} {p q : Port} {i : Instr} {c : Scope} {w v : Work}

/-! ### No work of a port -/

/-- No job of a port is queued or stacked, and for Port W no group is OPEN. -/
structure Work.lacks (w : Work) (q : Port) : Prop where
  queue : ∀ j ∈ w.queue, j.isOf q = false
  stack : ∀ j ∈ w.stack, j.isOf q = false
  groups : q = .workstation → ∀ g ∈ w.groups, g.due = true

theorem Work.lacks.of_parts (h : w.lacks q) (hq : v.queue = w.queue) (hs : v.stack = w.stack) (hg : v.groups = w.groups) : v.lacks q := by
  obtain ⟨queue, stack, groups⟩ := h
  exact ⟨hq ▸ queue, hs ▸ stack, hg ▸ groups⟩

theorem Work.lacks.draws (h : w.lacks q) (hd : w.Draws v)
    (ha : ∀ j, w.active = some j → w.state.working = true → j.isOf q = false) : v.lacks q := by
  refine ⟨fun j hj => h.queue j (hd.queue hj), fun j hj => ?_, fun hq => hd.groups ▸ h.groups hq⟩
  obtain hj | ⟨hj, hw⟩ := hd.stack j hj
  · exact h.stack j hj
  · exact ha j hj hw

theorem afterJob_lacks (h : s.work.lacks q) (ha : s.work.active = none) (f b : Bool) : (afterJob f b s).work.lacks q := by
  unfold afterJob
  split
  · rw [enterPublish_work]
    exact h.of_parts rfl rfl rfl
  · split
    · exact h.of_parts rfl rfl rfl
    · refine Work.lacks.draws (w := (s.setEngine { s.engine with state := .idle, faultPending := false }).work)
        (h.of_parts rfl rfl rfl) (advance_draws _) fun j hj => ?_
      have none : s.work.active = some j := hj
      rw [ha] at none
      cases none

/-- The jobs of a port leave the queue and the stack. -/
theorem dropWorkOf_work (q : Port) (s : State) :
    let t := forStacked dropStacked (s.stackedOf q) (forQueued dropQueued (s.queuedOf q) (disarmSpace q s))
    (∀ j ∈ t.work.queue, j.isOf q = false) ∧ (∀ j ∈ t.work.stack, j.isOf q = false) ∧ t.work.active = s.work.active
      ∧ t.work.state = s.work.state := by
  intro t
  have disarmed : (disarmSpace q s).work = s.work := (disarmSpace_moves (c := .still) q s).work rfl
  have queue : t.work.queue = s.work.queue.filter fun k => decide (∀ j ∈ s.queuedOf q, k.id ≠ j.id) := by
    rw [forStacked_queue dropStacked_removes, forQueued_queue dropQueued_removes, disarmed]
  have stack : t.work.stack = s.work.stack.filter fun k => decide (∀ r ∈ s.stackedOf q, k.id ≠ r.job.id) := by
    rw [forStacked_stack dropStacked_removes, forQueued_stack dropQueued_removes, disarmed]
  obtain ⟨state, active⟩ := forStacked_engine dropStacked_removes (s.stackedOf q) (forQueued dropQueued (s.queuedOf q) (disarmSpace q s))
  obtain ⟨state', active'⟩ := forQueued_engine dropQueued_removes (s.queuedOf q) (disarmSpace q s)
  rw [disarmed] at state' active'
  refine ⟨fun j hj => ?_, fun j hj => ?_, active.trans active', state.trans state'⟩
  · rw [queue, List.mem_filter, decide_eq_true_eq] at hj
    exact Bool.eq_false_iff.mpr fun own => hj.2 j (List.mem_filter.mpr ⟨hj.1, own⟩) rfl
  · rw [stack, List.mem_filter, decide_eq_true_eq] at hj
    obtain ⟨r, hr, rfl⟩ := List.mem_map.mp hj.1
    exact Bool.eq_false_iff.mpr fun own => hj.2 r (List.mem_filter.mpr ⟨hr, own⟩) rfl

/-- The jobs of a port end with its reset, and for Port W its OPEN groups (R140, R154). -/
theorem clearWorkOf_lacks (q : Port) (s : State) : (clearWorkOf q s).work.lacks q
    ∧ (clearWorkOf q s).work.active = s.work.active ∧ (clearWorkOf q s).work.state = s.work.state := by
  obtain ⟨queue, stack, active, state⟩ := dropWorkOf_work q s
  have groups : ∀ v : State, (∀ j ∈ v.work.queue, j.isOf q = false) → (∀ j ∈ v.work.stack, j.isOf q = false) →
      let u := if q = .workstation then v.setJobs { v.jobs with groups := v.jobs.groups.filter Group.due } else v
      u.work.lacks q ∧ u.work.active = v.work.active ∧ u.work.state = v.work.state := fun v hq hs => by
    intro u
    by_cases hw : q = .workstation
    · rw [show u = _ from if_pos hw]
      exact ⟨⟨hq, hs, fun _ g hg => (List.mem_filter.mp hg).2⟩, rfl, rfl⟩
    · rw [show u = v from if_neg hw]
      exact ⟨⟨hq, hs, fun h => absurd h hw⟩, rfl, rfl⟩
  obtain ⟨lacks, active', state'⟩ := groups _ queue stack
  unfold clearWorkOf
  dsimp only
  split
  · exact ⟨lacks, active'.trans active, state'.trans state⟩
  · rw [(postSpace_moves (c := .still) _).work rfl]
    exact ⟨lacks, active'.trans active, state'.trans state⟩

/-! ### The end of the active job -/

/-- The accounting of an end queues nothing but an automatic check, which no port submits (R136, R137). -/
theorem insertCheck_lacks (h : s.work.lacks q) : (insertCheck s).work.lacks q := by
  unfold insertCheck
  split
  · exact h
  · split
    · unfold acceptWith
      rw [setStatus_eq]
      refine ⟨fun j hj => ?_, h.stack, h.groups⟩
      obtain rfl | hj := List.mem_cons.mp ((enqueueAutomatic_perm _ _).mem_iff.mp hj)
      · cases q <;> rfl
      · exact h.queue j hj
    · exact h

theorem accountEnd_lacks (h : s.work.lacks q) (hq : q ≠ .workstation) (j : JobRecord) : (accountEnd j s).work.lacks q := by
  obtain ⟨l, gone⟩ := memberGone_work j.group s
  have left : (memberGone j.group s).work.lacks q := by
    rw [gone]
    exact ⟨h.queue, h.stack, fun e => absurd e hq⟩
  refine insertCheck_lacks ?_
  unfold countDrift
  split
  · split
    · exact left.of_parts rfl rfl rfl
    · exact left
  · exact left
  · exact left

/-- The end of the active job as RESET PORT ends it: CLEARED, or HANDSHAKE_LOST for Port P and Port D (R119, R140). -/
theorem endJob_lacks {o : JobOutcome} (h : s.work.lacks q) (ho : o = .cleared ∨ q ≠ .workstation) : (endJob o s).work.lacks q := by
  unfold endJob
  split
  · exact h
  · rename_i r ha
    have left : Moves .still s (withdrawBoth (.ended o) (leaveWork s)) := (leaveWork_moves s).trans (withdrawBoth_moves _ _)
    suffices closed : (closeJob o s).work.lacks q ∧ (closeJob o s).work.active = none from afterJob_lacks closed.1 closed.2 _ _
    by_cases hc : o = .cleared
    · subst hc
      rw [closeJob_cleared_work ha]
      exact ⟨h.of_parts rfl rfl rfl, rfl⟩
    · have written := writeRecord_moves (c := .still) (j := r.job) rfl
        (plainRecord r.job o r.iterations (withdrawBoth (.ended o) (leaveWork s)).sample.revolutions) (withdrawBoth (.ended o) (leaveWork s))
      unfold closeJob
      simp only [ha, if_neg hc]
      refine ⟨accountEnd_lacks ?_ (ho.resolve_left hc) r.job, ?_⟩
      · rw [clearActive_work, written.work rfl, left.work rfl]
        exact h.of_parts rfl rfl rfl
      · unfold State.work
        rw [accountEnd_engine]
        rfl

theorem withdrawCommit_lacks (h : s.work.lacks q) : (withdrawCommit s).work.lacks q := by
  unfold withdrawCommit
  split
  · rename_i r _
    have cleared := clearActive_work r s
    exact afterJob_lacks (by rw [cleared]; exact h.of_parts rfl rfl rfl) (by rw [cleared]) _ _
  · exact h

/-! ### The port's own record -/

/-- The record of a port as at power-on, but for its slot (R184, R195). -/
structure LinkPort.blank (l : LinkPort) : Prop where
  attached : l.attached = false
  window : l.window = ⟨0, 16⟩
  dropped : l.dropped = 0
  cursor : l.cursor = none
  completions : l.completions = []
  overflow : l.overflow = 0
  notices : l.notices = ⟨.all none, .all 0, .all true, .all false, .level, false, 0, .idle⟩

/-- A DETACHED port with nothing in hand and no record to receive stays as it is. -/
theorem Moves.blank (h : Moves c s t) (hp : c.ports q = false) (hl : c.lists q = false) (hi : s.inHand q = 0)
    (hb : (s.port q).blank) : (t.port q).blank ∧ (t.port q).slot = (s.port q).slot := by
  obtain ⟨-, slot, cursor⟩ := h.idle hi
  obtain ⟨completions, overflow⟩ := h.completions hl
  exact ⟨{ attached := (h.attached hp).trans hb.attached
           window := (h.window hp).trans hb.window
           dropped := (h.dropped hp).trans hb.dropped
           cursor := cursor.trans hb.cursor
           completions := completions.trans hb.completions
           overflow := overflow.trans hb.overflow
           notices := (h.closed hp hb.attached).2.trans hb.notices }, slot⟩

theorem State.resetBase_blank (p q : Port) (s : State) : ((s.resetBase p q).port q).blank
    ∧ (q ≠ p → ((s.resetBase p q).port q).slot = .empty) := by
  have port : (s.resetBase p q).port q
      = LinkPort.resetBy (State.port (if q = p then s else withdrawRead q (dropReply q s)) q) (q == p) := by
    unfold State.resetBase
    rw [State.port_setPort_eq, if_pos rfl]
  rw [port]
  exact ⟨⟨rfl, rfl, rfl, rfl, rfl, rfl, rfl⟩, fun h => by simp [LinkPort.resetBy, h]⟩

theorem State.resetBase_inHand (h : s.serving p i) (hq : q = p ∨ q ≠ .workstation) : (s.resetBase p q).inHand q = 0 := by
  obtain ⟨others, own, -⟩ := resetBase_serving h hq
  by_cases hqp : q = p
  · exact hqp ▸ own
  · exact (State.slotSound_empty ((State.resetBase_blank p q s).2 hqp)).mp (others q hqp)

theorem resetStanding_moves (p q : Port) (s : State) : Moves { jobs := true } (s.resetBase p q) (resetStanding p q s) := by
  rw [resetStanding_of_base]
  split
  · exact (clearWorkOf_moves rfl q _).trans (dropHome_moves _)
  · exact clearWorkOf_moves rfl q _

theorem State.resetBase_work (p q : Port) (s : State) : (s.resetBase p q).work = s.work := by
  unfold State.resetBase
  split
  · rfl
  · exact (State.work_of_aside (withdrawRead_aside q (dropReply q s))).trans rfl

theorem resetStanding_lacks (p q : Port) (s : State) : (resetStanding p q s).work.lacks q
    ∧ (resetStanding p q s).work.active = s.work.active ∧ (resetStanding p q s).work.state = s.work.state := by
  have cleared := clearWorkOf_lacks q (s.resetBase p q)
  rw [State.resetBase_work] at cleared
  rw [resetStanding_of_base]
  split
  · rw [(dropHome_moves (c := .still) _).work rfl]
    exact cleared
  · exact cleared

/-! ### RESET PORT carried out -/

/-- A port is as RESET PORT leaves it. -/
structure State.isReset (s : State) (p q : Port) : Prop where
  blank : (s.port q).blank
  slot : q ≠ p → (s.port q).slot = .empty
  lacks : s.work.lacks q

theorem State.isReset.reply {s : State} (h : s.isReset p q) (tag : Byte) (l : List Byte) : (reply p tag l s).isReset p q := by
  obtain ⟨blank, slot, lacks⟩ := h
  by_cases hq : q = p
  · subst hq
    obtain ⟨h1, h2, h3, h4, h5, h6, h7⟩ := blank
    have port : (Machine.reply q tag l s).port q = { s.port q with slot := .ready (s.responseOf q tag { payload := l }) } := by
      simp [Machine.reply, answer, State.setSlot]
    refine ⟨?_, fun h => absurd rfl h, lacks⟩
    rw [port]
    exact ⟨h1, h2, h3, h4, h5, h6, h7⟩
  · have port : (Machine.reply p tag l s).port q = s.port q := by simp [Machine.reply, answer, State.setSlot, hq]
    exact ⟨port ▸ blank, fun h => port ▸ slot h, lacks⟩

theorem resetStanding_isReset (h : s.serving p i) (hq : q = p ∨ q ≠ .workstation) : (resetStanding p q s).isReset p q
    ∧ (resetStanding p q s).inHand q = 0 := by
  have inHand := State.resetBase_inHand h hq
  obtain ⟨blank, empty⟩ := State.resetBase_blank p q s
  have moves := resetStanding_moves p q s
  obtain ⟨blank', slot⟩ := moves.blank rfl rfl inHand blank
  exact ⟨⟨blank', fun hqp => slot.trans (empty hqp), (resetStanding_lacks p q s).1⟩, (moves.idle inHand).1⟩

theorem State.isReset.moves (h : s.isReset p q) (hi : s.inHand q = 0) (hm : Moves c s t) (hp : c.ports q = false)
    (hl : c.lists q = false) (lacks : t.work.lacks q) : t.isReset p q := by
  obtain ⟨blank, slot⟩ := hm.blank hp hl hi h.blank
  exact ⟨blank, fun hqp => slot.trans (h.slot hqp), lacks⟩

/-- A job that a port did not submit reports to another, unless it is Port W, which hears of the automatic checks too (R121). -/
theorem JobRecord.port_ne_of_isOf {j : JobRecord} (h : j.isOf q = false) (hq : q ≠ .workstation) : j.submitter.port ≠ q := by
  intro e
  unfold JobRecord.isOf at h
  cases hs : j.submitter with
  | w => exact hq (by rw [← e, hs]; rfl)
  | internal => exact hq (by rw [← e, hs]; rfl)
  | p =>
    rw [← e, hs] at h
    cases h

/-- What RESET PORT ends HANDSHAKE_LOST is a job of another port, which reports to that port (R119). -/
theorem State.resetCase_ends {o : JobOutcome} (h : s.resetCase q = .ends o) :
    o = .cleared ∨ q ≠ .workstation ∧ ∀ j, s.work.active = some j → j.submitter.port ≠ q := by
  unfold State.resetCase at h
  split at h
  · cases h
  · rename_i r ha
    split at h
    · split at h
      · cases h
        exact .inl rfl
      · rename_i hown
        split at h
        · rename_i huses
          have other : q ≠ .workstation := by
            rintro rfl
            cases huses
          refine .inr ⟨other, fun j hj => ?_⟩
          have job : r.job = j := by simpa [State.work, ha] using hj
          exact job ▸ JobRecord.port_ne_of_isOf (Bool.eq_false_iff.mpr hown) other
        · cases h
    · split at h
      · split at h <;> cases h
      · cases h

theorem State.resetCase_leaves (h : s.resetCase q = .leaves) (j : JobRecord) (ha : s.work.active = some j)
    (hw : s.work.state.working = true) : j.isOf q = false := by
  obtain ⟨r, hr, rfl⟩ := Option.map_eq_some_iff.mp ha
  have working : s.engine.state.working = true := hw
  by_contra own
  rw [Bool.not_eq_false] at own
  simp [State.resetCase, hr, working, own] at h

/-- The outcome of the active job that RESET PORT answers, if it ended (R194). -/
def ResetCase.outcome : ResetCase → Option JobOutcome
  | .ends o => some o
  | .withdrawsCommit => some .cleared
  | .waits => none
  | .leaves => none

/-- RESET PORT's last step before the answer, by what it does with the active job. -/
def State.resetEnd (s : State) : ResetCase → State
  | .ends o => endJob o s
  | .withdrawsCommit => withdrawCommit s
  | .waits => s
  | .leaves => advance s

theorem resetPort_answered (tag : Byte) (hw : s.resetCase q ≠ .waits) : resetPort p q tag s
    = reply p tag (resetPayload (s.queuedOf q).length (s.stackedOf q).length (s.resetCase q).outcome)
      ((resetStanding p q (withdrawAskIn (s.resetCase q) s)).resetEnd (s.resetCase q)) := by
  unfold resetPort
  dsimp only
  generalize s.resetCase q = found at hw ⊢
  cases found with
  | waits => exact absurd rfl hw
  | ends o => rfl
  | withdrawsCommit => rfl
  | leaves => rfl

theorem resetPort_waits (tag : Byte) (hw : s.resetCase q = .waits) : resetPort p q tag s
    = addReply p ⟨p, q, (s.queuedOf q).length, (s.stackedOf q).length⟩ (resetStanding p q s) := by
  unfold resetPort
  simp only [hw]
  rfl

theorem State.resetEnd_moves (s : State) (found : ResetCase) : Moves { jobs := true, lists := fun _ => true } s (s.resetEnd found) := by
  cases found with
  | ends o => exact endJob_moves rfl fun _ _ _ => rfl
  | withdrawsCommit => exact withdrawCommit_moves rfl s
  | waits => exact .refl s
  | leaves => exact advance_moves rfl s

theorem resetEnd_isReset (h : s.serving p i) (hq : q = p ∨ q ≠ .workstation) :
    ((resetStanding p q (withdrawAskIn (s.resetCase q) s)).resetEnd (s.resetCase q)).isReset p q := by
  have asked := withdrawAskIn_moves (c := .still) (s.resetCase q) s
  obtain ⟨base, inHand⟩ := resetStanding_isReset (h.moves (withdrawAskIn_moves (c := .working) (s.resetCase q) s)) hq
  obtain ⟨lacks, active, state⟩ := resetStanding_lacks p q (withdrawAskIn (s.resetCase q) s)
  rw [asked.work rfl] at active state
  generalize hc : s.resetCase q = found at base inHand lacks active state ⊢
  cases found with
  | ends o =>
    have ends := State.resetCase_ends hc
    refine base.moves (c := { jobs := true, lists := fun x => x != q }) inHand
      (endJob_moves rfl fun ho r hr => ?_) rfl (by simp) (endJob_lacks lacks (ends.imp_right And.left))
    have job : s.work.active = some r.job := active ▸ congrArg (Option.map SearchRecord.job) hr
    simpa using (ends.resolve_left ho).2 r.job job
  | withdrawsCommit =>
    exact base.moves (c := { jobs := true }) inHand (withdrawCommit_moves rfl _) rfl rfl (withdrawCommit_lacks lacks)
  | waits => exact base
  | leaves =>
    exact base.moves (c := { jobs := true }) inHand (advance_moves rfl _) rfl rfl
      (lacks.draws (advance_draws _) fun j hj hw => State.resetCase_leaves hc j (active ▸ hj) (state ▸ hw))

theorem resetPort_isReset (tag : Byte) (h : s.serving p i) (hq : q = p ∨ q ≠ .workstation) : (resetPort p q tag s).isReset p q := by
  have ended := resetEnd_isReset h hq
  by_cases hw : s.resetCase q = .waits
  · rw [resetPort_waits tag hw]
    rw [hw] at ended
    exact ⟨ended.blank, ended.slot, ended.lacks⟩
  · rw [resetPort_answered tag hw]
    exact ended.reply _ _

/-! ### The answer -/

/-- The reset of another port leaves the sender's count (R187). -/
theorem resetStanding_dropped (h : q ≠ p) (s : State) : ((resetStanding p q s).port p).dropped = (s.port p).dropped := by
  rw [(resetStanding_moves p q s).dropped rfl]
  unfold State.resetBase
  rw [State.port_setPort_of_ne _ _ (Ne.symm h), if_neg h]
  have kept := congrArg LinkPort.dropped (State.port_of_aside (withdrawRead_aside q (dropReply q s)) p)
  exact kept

theorem resetStanding_engine_replies (p q : Port) (s : State) :
    (resetStanding p q s).engine.resetReplies = if q = p then s.engine.resetReplies else s.engine.repliesBut q := by
  rw [(resetStanding_moves p q s).resetReplies]
  unfold State.resetBase
  split
  · rfl
  · exact congrArg Engine.resetReplies (State.engine_of_aside (withdrawRead_aside q (dropReply q s)))

theorem resetPort_slot (tag : Byte) (h : s.serving p i) (hq : q = p ∨ q ≠ .workstation) (hw : s.resetCase q ≠ .waits) :
    ((resetPort p q tag s).port p).slot = .ready ⟨.ok, tag, false, false, false, if q = p then 0 else (s.port p).dropped, 0,
      resetPayload (s.queuedOf q).length (s.stackedOf q).length (s.resetCase q).outcome⟩ := by
  have ended := resetEnd_isReset h hq
  have count : ((((resetStanding p q (withdrawAskIn (s.resetCase q) s)).resetEnd (s.resetCase q)).port p).dropped)
      = if q = p then 0 else (s.port p).dropped := by
    split
    · rename_i e
      exact e ▸ ended.blank.dropped
    · rename_i e
      rw [(State.resetEnd_moves _ _).dropped rfl, resetStanding_dropped e,
        (withdrawAskIn_moves (c := .working) (s.resetCase q) s).dropped rfl]
  rw [resetPort_answered tag hw, reply, answer_slot, State.responseOf, count]

/-- A reset that waits joins the others, in the place of any earlier one of its port (R11, R194). -/
theorem resetPort_waiting (tag : Byte) (hs : s.serving p i) (hq : q = p ∨ q ≠ .workstation) (hw : s.resetCase q = .waits) :
    ((resetPort p q tag s).port p).slot = .pending i ∧ (resetPort p q tag s).engine.clearPending = true
      ∧ (∀ x ∈ (resetPort p q tag s).engine.resetReplies, x.port = p →
        x = ⟨p, q, (s.queuedOf q).length, (s.stackedOf q).length⟩)
      ∧ (∃ x ∈ (resetPort p q tag s).engine.resetReplies, x.port = p)
      ∧ ∀ x ∈ s.engine.resetReplies, x.port ≠ p → x.port ≠ q → x ∈ (resetPort p q tag s).engine.resetReplies := by
  obtain ⟨-, -, slot⟩ := resetStanding_serving hs hq
  have replies : (resetPort p q tag s).engine.resetReplies = (resetStanding p q s).engine.resetReplies.filter (fun x => x.port != p)
      ++ [⟨p, q, (s.queuedOf q).length, (s.stackedOf q).length⟩] := by
    rw [resetPort_waits tag hw]
    rfl
  rw [replies]
  refine ⟨?_, ?_, fun x hx hp => ?_, ⟨_, List.mem_append_right _ (List.mem_singleton_self _), rfl⟩, fun x hx hp hne => ?_⟩
  · rw [resetPort_waits tag hw]
    exact slot
  · rw [resetPort_waits tag hw]
    rfl
  · obtain hx | hx := List.mem_append.mp hx
    · have other := (List.mem_filter.mp hx).2
      simp [hp] at other
    · exact List.mem_singleton.mp hx
  · refine List.mem_append_left _ (List.mem_filter.mpr ⟨?_, by simpa using hp⟩)
    rw [resetStanding_engine_replies]
    split
    · exact hx
    · exact List.mem_filter.mpr ⟨hx, by simpa using hne⟩

theorem Work.lacks.queuedOf (h : s.work.lacks q) : s.queuedOf q = [] :=
  List.filter_eq_nil_iff.mpr fun j hj => by simp [h.queue j hj]

theorem Work.lacks.stackedOf (h : s.work.lacks q) : s.stackedOf q = [] :=
  List.filter_eq_nil_iff.mpr fun r hr => by simp [h.stack r.job (List.mem_map_of_mem hr)]

theorem portArg_none {b : Byte} (h : 2 < b.toNat) : portArg b = none := by
  have ne (n : Byte) (hn : n.toNat ≤ 2) : b ≠ n := by
    rintro rfl
    omega
  unfold portArg
  rw [if_neg (ne 0 (by decide)), if_neg (ne 1 (by decide)), if_neg (ne 2 (by decide))]

/-- RESET PORT up to its checks (R194). -/
theorem exec_resetPort_taken (can : s.canSend p) (tag target : Byte) : exec (.resetPort p tag target) s = .next
    (match portArg target with
    | none => refuse p tag .badArgument s
    | some q => if p ≠ .workstation ∧ q ≠ p then refuse p tag .wrongPort s
      else resetPort p q tag (s.setSlot p (.pending (.resetPort p tag target)))) := by
  refine congrArg Host.Outcome.next ((request_taken can (by simp) fun h => by cases h).trans ?_)
  cases portArg target with
  | none => exact refuse_setSlot s p _ tag _
  | some q =>
    dsimp only
    rw [refuse_setSlot]

/-- Settles O11: the reset empties the port's own record first, and no step after it reaches a DETACHED port with nothing in hand; its jobs
leave with their requests and none is queued or stacked again. -/
theorem resetPort_holds : Obligations.ResetPort := by
  unfold Obligations.ResetPort
  intro p q tag target s can sound i removed
  have taken := exec_resetPort_taken can tag target
  refine ⟨fun above => ?_, fun arg hp hq => ?_, fun arg allowed => ?_⟩
  · rw [taken, portArg_none above]
    rfl
  · rw [taken, arg]
    exact congrArg Host.Outcome.next (if_pos ⟨hp, hq⟩)
  · have carried : exec i s = .next (resetPort p q tag (s.setSlot p (.pending i))) := by
      refine taken.trans ?_
      rw [arg]
      exact congrArg Host.Outcome.next (if_neg fun h => allowed.elim h.1 h.2)
    have serving : (s.setSlot p (.pending i)).serving p i := sound.serving can.1
    have reaches : q = p ∨ q ≠ .workstation := by
      by_cases hq : q = p
      · exact .inl hq
      · exact .inr fun e => hq (e.trans (allowed.resolve_right hq).symm)
    obtain ⟨blank, slot, lacks⟩ := resetPort_isReset tag serving reaches
    refine ⟨_, carried, ?waits, ?answered, blank.attached, blank.window, blank.dropped, blank.cursor, slot, blank.completions,
      blank.overflow, blank.notices, lacks.queuedOf, lacks.stackedOf, lacks.groups⟩
    case waits => exact fun hw => resetPort_waiting tag serving reaches hw
    case answered =>
      intro hw
      refine ⟨_, resetPort_slot tag serving reaches hw, rfl, rfl, ?_, ?_⟩
      · have count : ((s.setSlot p (.pending i)).port p).dropped = (s.port p).dropped := by simp [State.setSlot]
        dsimp only
        rw [count]
      · have same : (s.setSlot p (.pending i)).resetCase q = s.resetCase q := rfl
        dsimp only
        rw [same]
        generalize s.resetCase q = found at hw ⊢
        cases found with
        | waits => exact absurd rfl hw
        | ends o => rfl
        | withdrawsCommit => rfl
        | leaves => rfl

end Sys2Proof.Machine
end

section
/-! SUPPORT. The engine state, whether a job is active, the handshakes, their timers and the settle test, as one small machine (R28, R94,
R100 to R117): which operations leave it alone, and what the others do to it. -/

namespace Sys2Proof.Machine

variable {s t : State} {r : SearchRecord}

/-- The part of the state that says how the engine, the handshakes, their timers and the settle test stand. -/
structure Gear where
  state : EngineState
  manned : Bool
  move : Option MoveRequest
  moveTimeout : Timer
  head : Option HeadRequest
  headTimeout : Timer
  headSettle : Timer
  test : SettleTest
  settleTimer : Timer

/-- The gear of a state. -/
def State.gear (s : State) : Gear :=
  ⟨s.engine.state, s.engine.active.isSome, s.handshake.move, s.handshake.moveTimeout, s.handshake.head, s.handshake.headTimeout,
   s.handshake.headSettle, s.frame.settle, s.frame.settleTimer⟩

/-- The handshakes agree with their timers and with the settle test (R94, R95, R106, R114, R115). -/
structure Gear.timed (g : Gear) : Prop where
  move : moveSound g.move g.moveTimeout g.test
  settle : (∃ x, g.settleTimer = .running x) ↔ g.test = .timing
  head : headSound g.head g.headTimeout g.headSettle

/-- No request is outstanding. -/
def Gear.free (g : Gear) : Prop := g.move = none ∧ g.head = none

/-- The gear as R28, R107 and R116 want it, with its timers. -/
structure Gear.sound (g : Gear) : Prop where
  timed : g.timed
  manned : g.manned = true ↔ g.state.working = true ∨ g.state = .commit
  free : g.state.working = false → g.free

theorem State.gear_sound_iff (s : State) : s.gear.sound ↔ s.engineSound ∧ s.handshakeSound :=
  ⟨fun h => ⟨⟨h.manned, h.free⟩, h.timed.move, h.timed.settle, h.timed.head⟩,
   fun ⟨⟨hm, hf⟩, hmove, hsettle, hhead⟩ => ⟨⟨hmove, hsettle, hhead⟩, hm, hf⟩⟩

/-! ### Sound gears by the engine state -/

theorem Gear.sound.of_working {g : Gear} (h : g.timed) (hm : g.manned = true) (hw : g.state.working = true) : g.sound :=
  ⟨h, by simp [hm, hw], by simp [hw]⟩

theorem Gear.sound.of_commit {g : Gear} (h : g.timed) (hm : g.manned = true) (hc : g.state = .commit) (hf : g.free) : g.sound :=
  ⟨h, by simp [hm, hc], fun _ => hf⟩

theorem Gear.sound.of_resting {g : Gear} (h : g.timed) (hm : g.manned = false) (hw : g.state.working = false)
    (hc : g.state ≠ .commit) (hf : g.free) : g.sound :=
  ⟨h, by simp [hm, hw, hc], fun _ => hf⟩

theorem Gear.sound.manned_of_working {g : Gear} (h : g.sound) (hw : g.state.working = true) : g.manned = true := h.manned.mpr (.inl hw)

theorem Gear.sound.not_manned {g : Gear} (h : g.sound) (hw : g.state.working = false) (hc : g.state ≠ .commit) : g.manned = false := by
  rw [← Bool.not_eq_true, h.manned]
  simp [hw, hc]

/-- While a request is outstanding the engine works on a job. -/
theorem Gear.sound.working_of_request {g : Gear} (h : g.sound) (hr : g.move ≠ none ∨ g.head ≠ none) : g.state.working = true := by
  by_contra hw
  obtain ⟨hm, hh⟩ := h.free (by simpa using hw)
  exact hr.elim (· hm) (· hh)

/-! ### The ends of requests -/

/-- The gear after the end of the move request, if there is one. -/
def Gear.endMove (g : Gear) : Gear :=
  match g.move with
  | none => g
  | some _ => { g with move := none, moveTimeout := .stopped, test := .none, settleTimer := .stopped }

/-- The gear after the end of the head request, if there is one. -/
def Gear.endHead (g : Gear) : Gear :=
  match g.head with
  | none => g
  | some _ => { g with head := none, headTimeout := .stopped, headSettle := .stopped }

theorem Gear.endMove_of_none {g : Gear} (h : g.move = none) : g.endMove = g := by simp only [Gear.endMove, h]

theorem Gear.endMove_of_some {g : Gear} {m : MoveRequest} (h : g.move = some m) :
    g.endMove = { g with move := none, moveTimeout := .stopped, test := .none, settleTimer := .stopped } := by
  simp only [Gear.endMove, h]

theorem Gear.endHead_of_none {g : Gear} (h : g.head = none) : g.endHead = g := by simp only [Gear.endHead, h]

theorem Gear.endHead_of_some {g : Gear} {r : HeadRequest} (h : g.head = some r) :
    g.endHead = { g with head := none, headTimeout := .stopped, headSettle := .stopped } := by simp only [Gear.endHead, h]

@[simp] theorem Gear.endMove_move (g : Gear) : g.endMove.move = none := by
  cases h : g.move
  · rw [g.endMove_of_none h, h]
  · rw [g.endMove_of_some h]

@[simp] theorem Gear.endHead_head (g : Gear) : g.endHead.head = none := by
  cases h : g.head
  · rw [g.endHead_of_none h, h]
  · rw [g.endHead_of_some h]

/-- The end of a move leaves the engine and the head handshake. -/
theorem Gear.endMove_rest (g : Gear) : g.endMove.state = g.state ∧ g.endMove.manned = g.manned ∧ g.endMove.head = g.head
    ∧ g.endMove.headTimeout = g.headTimeout ∧ g.endMove.headSettle = g.headSettle := by
  cases h : g.move
  · rw [g.endMove_of_none h]
    exact ⟨rfl, rfl, rfl, rfl, rfl⟩
  · rw [g.endMove_of_some h]
    exact ⟨rfl, rfl, rfl, rfl, rfl⟩

/-- The end of a head request leaves the engine, the move handshake and the settle test. -/
theorem Gear.endHead_rest (g : Gear) : g.endHead.state = g.state ∧ g.endHead.manned = g.manned ∧ g.endHead.move = g.move
    ∧ g.endHead.moveTimeout = g.moveTimeout ∧ g.endHead.test = g.test ∧ g.endHead.settleTimer = g.settleTimer := by
  cases h : g.head
  · rw [g.endHead_of_none h]
    exact ⟨rfl, rfl, rfl, rfl, rfl, rfl⟩
  · rw [g.endHead_of_some h]
    exact ⟨rfl, rfl, rfl, rfl, rfl, rfl⟩

@[simp] theorem Gear.endMove_state (g : Gear) : g.endMove.state = g.state := g.endMove_rest.1
@[simp] theorem Gear.endMove_manned (g : Gear) : g.endMove.manned = g.manned := g.endMove_rest.2.1
@[simp] theorem Gear.endMove_head (g : Gear) : g.endMove.head = g.head := g.endMove_rest.2.2.1
@[simp] theorem Gear.endHead_state (g : Gear) : g.endHead.state = g.state := g.endHead_rest.1
@[simp] theorem Gear.endHead_manned (g : Gear) : g.endHead.manned = g.manned := g.endHead_rest.2.1
@[simp] theorem Gear.endHead_move (g : Gear) : g.endHead.move = g.move := g.endHead_rest.2.2.1

/-- A gear whose move has just ended has its move timeout stopped and no settle test. -/
theorem Gear.timed.endMove_move {g : Gear} (h : g.timed) : g.endMove.moveTimeout = .stopped ∧ g.endMove.test = .none := by
  cases hm : g.move with
  | none =>
    rw [g.endMove_of_none hm]
    have := h.move
    rwa [hm] at this
  | some m =>
    rw [g.endMove_of_some hm]
    exact ⟨rfl, rfl⟩

theorem Gear.timed.endMove {g : Gear} (h : g.timed) : g.endMove.timed := by
  cases hm : g.move with
  | none => rwa [g.endMove_of_none hm]
  | some m =>
    rw [g.endMove_of_some hm]
    exact ⟨⟨rfl, rfl⟩, by simp, h.head⟩

theorem Gear.timed.endHead {g : Gear} (h : g.timed) : g.endHead.timed := by
  cases hm : g.head with
  | none => rwa [g.endHead_of_none hm]
  | some m =>
    rw [g.endHead_of_some hm]
    exact ⟨h.move, h.settle, ⟨rfl, rfl⟩⟩

/-- The gear without requests. -/
def Gear.ended (g : Gear) : Gear := g.endMove.endHead

theorem Gear.timed.ended {g : Gear} (h : g.timed) : g.ended.timed := h.endMove.endHead

/-- The end of a move brings its timers back in step, wherever its turn was. -/
theorem Gear.ended_timed_of_move {g : Gear} {m : MoveRequest} (hm : g.move = some m) (h : headSound g.head g.headTimeout g.headSettle) :
    g.ended.timed := by
  rw [Gear.ended, g.endMove_of_some hm]
  exact Gear.timed.endHead ⟨⟨rfl, rfl⟩, by simp, h⟩

theorem Gear.ended_free (g : Gear) : g.ended.free := ⟨by simp [Gear.ended], by simp [Gear.ended]⟩

@[simp] theorem Gear.ended_state (g : Gear) : g.ended.state = g.state := by simp [Gear.ended]
@[simp] theorem Gear.ended_manned (g : Gear) : g.ended.manned = g.manned := by simp [Gear.ended]

/-- The parts of a gear that say how the engine stands, replaced. -/
theorem Gear.timed.staffed {g : Gear} (h : g.timed) (e : EngineState) (b : Bool) : ({ g with state := e, manned := b } : Gear).timed :=
  ⟨h.move, h.settle, h.head⟩

/-! ### What leaves the gear alone -/

theorem State.gear_of_mute (h : t.mute = s.mute) : t.gear = s.gear := by
  simp only [State.gear, State.engine_of_mute h, State.handshake_of_mute h, State.frame_of_mute h]

theorem State.gear_of_aside (h : t.aside = s.aside) : t.gear = s.gear := by
  simp only [State.gear, State.engine_of_aside h, State.handshake_of_aside h, State.frame_of_aside h]

@[simp] theorem pulseIfEligible_gear (p : Port) (s : State) : (pulseIfEligible p s).gear = s.gear := State.gear_of_mute (by simp)
@[simp] theorem postQuiet_gear (src : Source) (d : Detail) (p : Port) (s : State) : (postQuiet src d p s).gear = s.gear :=
  State.gear_of_mute (by simp)
@[simp] theorem post_gear (src : Source) (d : Detail) (p : Port) (s : State) : (post src d p s).gear = s.gear := State.gear_of_mute (by simp)
@[simp] theorem postFault_gear (d : Detail) (s : State) : (postFault d s).gear = s.gear := State.gear_of_mute (by simp)
@[simp] theorem postWD_gear (src : Source) (d : Detail) (s : State) : (postWD src d s).gear = s.gear := State.gear_of_mute (by simp)
@[simp] theorem postSpace_gear (s : State) : (postSpace s).gear = s.gear := (State.gear_of_mute (postSpace_mute s)).trans rfl

@[simp] theorem setPort_gear (s : State) (p : Port) (x : LinkPort) : (s.setPort p x).gear = s.gear := rfl
@[simp] theorem setSlot_gear (s : State) (p : Port) (x : Slot) : (s.setSlot p x).gear = s.gear := rfl
@[simp] theorem setNotices_gear (s : State) (p : Port) (x : NoticeUnit) : (s.setNotices p x).gear = s.gear := rfl
@[simp] theorem setCursor_gear (s : State) (p : Port) (x : Option Cursor) : (s.setCursor p x).gear = s.gear := rfl
@[simp] theorem setCompletions_gear (s : State) (p : Port) (l : List CompletionRecord) : (s.setCompletions p l).gear = s.gear := rfl
@[simp] theorem setArbiter_gear (s : State) (a : Arbiter) : (s.setArbiter a).gear = s.gear := rfl
@[simp] theorem setJobs_gear (s : State) (q : JobQueue) : (s.setJobs q).gear = s.gear := rfl
@[simp] theorem setSample_gear (s : State) (x : SamplePath) : (s.setSample x).gear = s.gear := rfl
@[simp] theorem setStore_gear (s : State) (x : ProfileStore) : (s.setStore x).gear = s.gear := rfl
@[simp] theorem flushFifo_gear (s : State) : (flushFifo s).gear = s.gear := rfl
@[simp] theorem dropHome_gear (s : State) : (dropHome s).gear = s.gear := rfl
@[simp] theorem answer_gear (p : Port) (tag : Byte) (a : Answer) (s : State) : (answer p tag a s).gear = s.gear := rfl
@[simp] theorem reply_gear (p : Port) (tag : Byte) (l : List Byte) (s : State) : (reply p tag l s).gear = s.gear := rfl
@[simp] theorem refuse_gear (p : Port) (tag : Byte) (st : Status) (s : State) : (refuse p tag st s).gear = s.gear := rfl
@[simp] theorem dropRequest_gear (p : Port) (s : State) : (dropRequest p s).gear = s.gear := rfl
@[simp] theorem answerPending_gear (p : Port) (a : Answer) (s : State) : (answerPending p a s).gear = s.gear :=
  State.gear_of_aside (answerPending_aside p a s)
@[simp] theorem release_gear (s : State) : (release s).gear = s.gear := State.gear_of_aside (release_aside s)
@[simp] theorem askGrant_gear (c : Client) (op : TableOp) (s : State) : (askGrant c op s).gear = s.gear :=
  State.gear_of_aside (askGrant_aside c op s)
@[simp] theorem withdrawAsk_gear (c : Client) (s : State) : (withdrawAsk c s).gear = s.gear := State.gear_of_aside (withdrawAsk_aside c s)

@[simp] theorem setStatus_gear (w : JobWork) (st : EntryStatus) (s : State) : (setStatus w st s).gear = s.gear := by
  rw [setStatus_eq]
  rfl

@[simp] theorem withdrawLookUp_gear (s : State) : (withdrawLookUp s).gear = s.gear := by
  unfold withdrawLookUp
  split <;> simp

@[simp] theorem writeRecord_gear (j : JobRecord) (c : CompletionRecord) (s : State) : (writeRecord j c s).gear = s.gear := by
  unfold writeRecord
  by_cases h : (s.port j.submitter.port).completions.length < 8
  · exact (State.gear_of_mute (writeCompletion_mute_room h)).trans (setCompletions_gear _ _ _)
  · rw [writeCompletion_full (Nat.not_lt.mp h), setPort_gear]

@[simp] theorem acceptWith_gear (f : JobRecord → List JobRecord → List JobRecord) (w : JobWork) (c : JobClass) (b : Submitter)
    (g l : Option Nat) (s : State) : (acceptWith f w c b g l s).gear = s.gear := by simp [acceptWith]

@[simp] theorem accept_gear (w : JobWork) (c : JobClass) (b : Submitter) (g l : Option Nat) (s : State) :
    (accept w c b g l s).gear = s.gear := by simp [accept]

@[simp] theorem acceptAll_gear (c : JobClass) (g : Nat) (l : List (Nat × Nat)) (s : State) : (acceptAll c g l s).gear = s.gear := by
  induction l generalizing s with
  | nil => rfl
  | cons x rest ih => simp [acceptAll, ih]

@[simp] theorem armSpace_gear (p : Port) (s : State) : (armSpace p s).gear = s.gear := by cases p <;> rfl

@[simp] theorem refuseSubmission_gear (p : Port) (tag : Byte) (st : Status) (s : State) : (refuseSubmission p tag st s).gear = s.gear := by
  unfold refuseSubmission
  split <;> simp

@[simp] theorem memberGone_gear (g : Option Nat) (s : State) : (memberGone g s).gear = s.gear := by
  cases g <;> rfl

@[simp] theorem countDrift_gear (w : JobWork) (s : State) : (countDrift w s).gear = s.gear := by
  unfold countDrift
  repeat' split
  all_goals rfl

@[simp] theorem insertCheck_gear (s : State) : (insertCheck s).gear = s.gear := by
  unfold insertCheck
  split
  · rfl
  · split <;> simp

@[simp] theorem accountEnd_gear (j : JobRecord) (s : State) : (accountEnd j s).gear = s.gear := by simp [accountEnd]

@[simp] theorem cancelQueued_gear (j : JobRecord) (s : State) : (cancelQueued j s).gear = s.gear := by simp [cancelQueued, dropQueued]

@[simp] theorem dropStacked_gear (r : SearchRecord) (s : State) : (dropStacked r s).gear = s.gear := by
  rw [dropStacked, setStatus_gear]
  rfl

@[simp] theorem cancelStacked_gear (r : SearchRecord) (s : State) : (cancelStacked r s).gear = s.gear := by simp [cancelStacked]

theorem forQueued_gear {f : JobRecord → State → State} (h : ∀ j s, (f j s).gear = s.gear) (l : List JobRecord) (s : State) :
    (forQueued f l s).gear = s.gear := by
  induction l generalizing s with
  | nil => rfl
  | cons j rest ih => simp [forQueued, ih, h]

theorem forStacked_gear {f : SearchRecord → State → State} (h : ∀ r s, (f r s).gear = s.gear) (l : List SearchRecord) (s : State) :
    (forStacked f l s).gear = s.gear := by
  induction l generalizing s with
  | nil => rfl
  | cons r rest ih => simp [forStacked, ih, h]

@[simp] theorem dropDwell_gear (s : State) : (dropDwell s).gear = s.gear := by
  unfold dropDwell
  dsimp only
  split <;> rfl

@[simp] theorem leaveWork_gear (s : State) : (leaveWork s).gear = s.gear := by simp [leaveWork]

/-! ### The handshakes' records replaced, field by field -/

@[simp] theorem setMove_statuses (m : Option MoveRequest) (s : State) : (setMove m s).statuses = s.statuses :=
  (State.statuses_of_mute (setMove_mute m s)).trans rfl
@[simp] theorem setMove_engine (m : Option MoveRequest) (s : State) : (setMove m s).engine = s.engine :=
  (State.engine_of_mute (setMove_mute m s)).trans rfl
@[simp] theorem setMove_jobs (m : Option MoveRequest) (s : State) : (setMove m s).jobs = s.jobs :=
  (State.jobs_of_mute (setMove_mute m s)).trans rfl
@[simp] theorem setMove_stack (m : Option MoveRequest) (s : State) : (setMove m s).stack = s.stack :=
  (State.stack_of_mute (setMove_mute m s)).trans rfl
@[simp] theorem setMove_sample (m : Option MoveRequest) (s : State) : (setMove m s).sample = s.sample :=
  (State.sample_of_mute (setMove_mute m s)).trans rfl
@[simp] theorem setMove_frame (m : Option MoveRequest) (s : State) : (setMove m s).frame = s.frame :=
  (State.frame_of_mute (setMove_mute m s)).trans rfl
@[simp] theorem setMove_arbiter (m : Option MoveRequest) (s : State) : (setMove m s).arbiter = s.arbiter :=
  (State.arbiter_of_mute (setMove_mute m s)).trans rfl
@[simp] theorem setMove_store (m : Option MoveRequest) (s : State) : (setMove m s).store = s.store :=
  (State.store_of_mute (setMove_mute m s)).trans rfl
@[simp] theorem setMove_handshake (m : Option MoveRequest) (s : State) :
    (setMove m s).handshake = { s.handshake with move := m } := State.handshake_of_mute (setMove_mute m s)

@[simp] theorem setHead_statuses (r : Option HeadRequest) (s : State) : (setHead r s).statuses = s.statuses :=
  (State.statuses_of_mute (setHead_mute r s)).trans rfl
@[simp] theorem setHead_engine (r : Option HeadRequest) (s : State) : (setHead r s).engine = s.engine :=
  (State.engine_of_mute (setHead_mute r s)).trans rfl
@[simp] theorem setHead_jobs (r : Option HeadRequest) (s : State) : (setHead r s).jobs = s.jobs :=
  (State.jobs_of_mute (setHead_mute r s)).trans rfl
@[simp] theorem setHead_stack (r : Option HeadRequest) (s : State) : (setHead r s).stack = s.stack :=
  (State.stack_of_mute (setHead_mute r s)).trans rfl
@[simp] theorem setHead_sample (r : Option HeadRequest) (s : State) : (setHead r s).sample = s.sample :=
  (State.sample_of_mute (setHead_mute r s)).trans rfl
@[simp] theorem setHead_frame (r : Option HeadRequest) (s : State) : (setHead r s).frame = s.frame :=
  (State.frame_of_mute (setHead_mute r s)).trans rfl
@[simp] theorem setHead_arbiter (r : Option HeadRequest) (s : State) : (setHead r s).arbiter = s.arbiter :=
  (State.arbiter_of_mute (setHead_mute r s)).trans rfl
@[simp] theorem setHead_store (r : Option HeadRequest) (s : State) : (setHead r s).store = s.store :=
  (State.store_of_mute (setHead_mute r s)).trans rfl
@[simp] theorem setHead_handshake (r : Option HeadRequest) (s : State) :
    (setHead r s).handshake = { s.handshake with head := r } := State.handshake_of_mute (setHead_mute r s)

/-! ### What turns the gear -/

@[simp] theorem setEngineState_gear (e : EngineState) (s : State) : (setEngineState e s).gear = { s.gear with state := e } := rfl

@[simp] theorem setActive_gear (r : Option SearchRecord) (s : State) : (setActive r s).gear = { s.gear with manned := r.isSome } := rfl

@[simp] theorem clearActive_gear (r : SearchRecord) (s : State) : (clearActive r s).gear = { s.gear with manned := false } := by
  unfold clearActive
  rw [setStatus_eq]
  rfl

@[simp] theorem setMove_gear (m : Option MoveRequest) (s : State) : (setMove m s).gear = { s.gear with move := m } :=
  State.gear_of_mute (setMove_mute m s)

@[simp] theorem setHead_gear (r : Option HeadRequest) (s : State) : (setHead r s).gear = { s.gear with head := r } :=
  State.gear_of_mute (setHead_mute r s)

@[simp] theorem endMove_gear (e : MoveEnd) (s : State) : (endMove e s).gear = s.gear.endMove := by
  cases h : s.handshake.move with
  | none =>
    rw [Gear.endMove_of_none h]
    simp only [endMove, h]
  | some m => rw [State.gear_of_mute (endMove_mute h), Gear.endMove_of_some (m := m) h]; rfl

@[simp] theorem endHead_gear (e : HeadEnd) (s : State) : (endHead e s).gear = s.gear.endHead := by
  cases h : s.handshake.head with
  | none =>
    rw [Gear.endHead_of_none h]
    simp only [endHead, h]
  | some r => rw [State.gear_of_mute (endHead_mute h), Gear.endHead_of_some (r := r) h]; rfl

@[simp] theorem withdrawMove_gear (c : Cause) (s : State) : (withdrawMove c s).gear = s.gear.endMove := by
  unfold withdrawMove
  split
  · exact (Gear.endMove_of_none ‹_›).symm
  · rw [postMoveWithdrawn, post_gear, endMove_gear]

@[simp] theorem withdrawHead_gear (c : Cause) (s : State) : (withdrawHead c s).gear = s.gear.endHead := by
  unfold withdrawHead
  split
  · exact (Gear.endHead_of_none ‹_›).symm
  · rw [postHeadWithdrawn, post_gear, endHead_gear]

@[simp] theorem timeOutMove_gear (s : State) : (timeOutMove s).gear = s.gear.endMove := by
  unfold timeOutMove
  split
  · exact (Gear.endMove_of_none ‹_›).symm
  · rw [postMoveWithdrawn, post_gear, endMove_gear]

@[simp] theorem timeOutHead_gear (s : State) : (timeOutHead s).gear = s.gear.endHead := by
  unfold timeOutHead
  split
  · exact (Gear.endHead_of_none ‹_›).symm
  · rw [postHeadWithdrawn, post_gear, endHead_gear]

@[simp] theorem withdrawBoth_gear (c : Cause) (s : State) : (withdrawBoth c s).gear = s.gear.ended := by simp [withdrawBoth, Gear.ended]

@[simp] theorem releaseBoth_gear (s : State) : (releaseBoth s).gear = s.gear.ended := by
  simp [releaseBoth, releaseHead, releaseMove, Gear.ended]

/-- The state with a record active whose current target is clamped to the travel limits in force (R50, R102). -/
def State.aimed (s : State) (r : SearchRecord) : State :=
  setActive (some { r with target := some (s.store.profile.clampTravel (r.target.getD 0)) }) s

/-- A new move with the next sequence and a full move timeout takes the place of the one before (R102, R106). -/
theorem placeMove_mute (h : s.engine.active = some r) : (placeMove s).mute = { endMove .released (s.aimed r) with
    handshake := { (endMove .released (s.aimed r)).handshake with
      move := some ⟨.requested, nextSequence (endMove .released (s.aimed r)).handshake.moveSequence,
        s.store.profile.clampTravel (r.target.getD 0), r.job.id⟩
      moveSequence := nextSequence (endMove .released (s.aimed r)).handshake.moveSequence
      moveTimeout := startMs (endMove .released (s.aimed r)).store.profile.moveTimeout } }.mute := by
  simp only [placeMove, h, setMove_mute]
  rfl

/-- A new move is REQUESTED with its timeout running, for whatever job is active (R102, R106). -/
theorem placeMove_gear (h : s.engine.active = some r) : ∃ m x, m.phase = .requested
    ∧ (placeMove s).gear = { s.gear.endMove with move := some m, moveTimeout := .running x } := by
  have aimed : (s.aimed r).gear = s.gear := by simp [State.gear, State.aimed, setActive, h]
  have released := endMove_gear .released (s.aimed r)
  rw [aimed] at released
  rw [State.gear_of_mute (placeMove_mute h), ← released]
  exact ⟨_, _, rfl, rfl⟩

/-- A head request is REQUESTED with the select timeout running (R109). -/
theorem placeHeadFor_gear (head job : Nat) (s : State) : ∃ r x, r.phase = .requested
    ∧ (placeHeadFor head job s).gear = { s.gear with head := some r, headTimeout := .running x, headSettle := .stopped } :=
  ⟨_, _, rfl, State.gear_of_mute (placeHeadFor_mute head job s)⟩

theorem placeMove_timed (h : s.gear.timed) (ha : s.engine.active.isSome = true) :
    (placeMove s).gear.timed ∧ (placeMove s).gear.manned = true ∧ (placeMove s).gear.state = s.gear.state := by
  obtain ⟨r, hr⟩ := Option.isSome_iff_exists.mp ha
  obtain ⟨m, x, hm, hg⟩ := placeMove_gear hr
  obtain ⟨-, test⟩ := h.endMove_move
  rw [hg]
  refine ⟨⟨?_, h.endMove.settle, h.endMove.head⟩, by simp [State.gear, ha], by simp⟩
  simp [moveSound, hm, test]

theorem placeHeadFor_timed (h : s.gear.timed) (head job : Nat) : (placeHeadFor head job s).gear.timed
    ∧ (placeHeadFor head job s).gear.manned = s.gear.manned ∧ (placeHeadFor head job s).gear.state = s.gear.state := by
  obtain ⟨r, x, hr, hg⟩ := placeHeadFor_gear head job s
  rw [hg]
  exact ⟨⟨h.move, h.settle, by simp [headSound, hr]⟩, rfl, rfl⟩

theorem placeHead_timed (h : s.gear.timed) : (placeHead s).gear.timed
    ∧ (placeHead s).gear.manned = s.gear.manned ∧ (placeHead s).gear.state = s.gear.state := by
  unfold placeHead
  split
  · exact ⟨h, rfl, rfl⟩
  · split
    · exact placeHeadFor_timed h _ _
    · exact ⟨h, rfl, rfl⟩

end Sys2Proof.Machine
end

section
/-! SUPPORT. The engine's operations, the search and the turns of the handshakes keep the gear sound (R28, R94 to R117). -/

namespace Sys2Proof.Machine

variable {s t : State} {r : SearchRecord}

/-! ### Starting work -/

/-- An active record makes the gear manned. -/
theorem State.gear_manned (ha : s.engine.active = some r) : s.gear.manned = true := by simp [State.gear, ha]

theorem Gear.sound.active {e : EngineState} (h : s.gear.sound) (he : s.engine.state = e) (hw : e.working = true ∨ e = .commit) :
    ∃ r, s.engine.active = some r :=
  Option.isSome_iff_exists.mp (h.manned.mpr (by rw [show s.gear.state = e from he]; exact hw))

theorem setEngineState_active (e : EngineState) (s : State) : (setEngineState e s).engine.active = s.engine.active := rfl

theorem setStatus_engine (w : JobWork) (st : EntryStatus) (s : State) : (setStatus w st s).engine = s.engine := by
  rw [setStatus_eq]

/-- Whatever came before, the beginning of a job's work leaves the gear sound. -/
theorem beginWork_sound (h : s.gear.timed) (r : SearchRecord) : (beginWork r s).gear.sound := by
  have begun : ∀ e : EngineState,
      (setEngineState e (setStatus r.job.work .measuring (setActive (some r) (dropHome s)))).gear.timed := fun e => by
    simpa using h.staffed e true
  have head : (placeHead (setEngineState .headWait (setStatus r.job.work .measuring (setActive (some r) (dropHome s))))).gear.sound := by
    obtain ⟨timed, manned, state⟩ := placeHead_timed (begun .headWait)
    exact .of_working timed (by simp [manned]) (by simp [state, EngineState.working])
  have look : (askGrant .engine .e0LookUp
      (setEngineState .headWait (setStatus r.job.work .measuring (setActive (some r) (dropHome s))))).gear.sound := by
    rw [askGrant_gear]
    exact .of_working (begun .headWait) (by simp) rfl
  unfold beginWork
  dsimp only
  split
  · obtain ⟨timed, manned, state⟩ := placeMove_timed (begun .moveWait) (by rw [setEngineState_active, setStatus_engine]; rfl)
    exact .of_working timed manned (by simp [state, EngineState.working])
  · split
    · exact head
    · exact look
  · split
    · exact head
    · exact look

theorem takeHead_sound (h : s.gear.timed) (hq : s.jobs.queue ≠ []) : (takeHead s).gear.sound := by
  cases hs : s.jobs.queue with
  | nil => exact absurd hs hq
  | cons j rest =>
    simp only [takeHead, hs]
    exact beginWork_sound (by simpa using h) _

theorem resumeTop_sound (h : s.gear.timed) (hs : s.stack ≠ []) : (resumeTop s).gear.sound := by
  cases hl : s.stack with
  | nil => exact absurd hl hs
  | cons r rest =>
    simp only [resumeTop, hl]
    exact beginWork_sound (s := { s with stack := rest }) h r

theorem preempt_sound (h : s.gear.timed) (ha : s.engine.active = some r) (hq : s.jobs.queue ≠ []) : (preempt s).gear.sound := by
  have left : (withdrawBoth .preempted (withdrawLookUp (dropDwell s))).gear = s.gear.ended := by simp
  have queue : (withdrawBoth .preempted (withdrawLookUp (dropDwell s))).jobs.queue = s.jobs.queue :=
    congrArg Work.queue (Moves.work (c := .still) rfl
      (((dropDwell_moves s).trans (withdrawLookUp_moves _)).trans (withdrawBoth_moves _ _)))
  simp only [preempt, ha]
  refine takeHead_sound ?_ ?_
  · rw [setStatus_gear]
    exact left ▸ h.ended
  · rw [setStatus_eq]
    exact queue ▸ hq

theorem tryPreempt_sound (h : s.gear.sound) : (tryPreempt s).gear.sound := by
  unfold tryPreempt
  split
  · rename_i hp
    unfold State.mustPreempt at hp
    split at hp
    · exact preempt_sound h.timed ‹_› (by simp [*])
    · cases hp
  · exact h

/-- An engine without a job and without requests enters PUBLISH. -/
theorem enterPublish_sound (h : s.gear.timed) (hm : s.gear.manned = false) (hf : s.gear.free) : (enterPublish s).gear.sound := by
  unfold enterPublish
  rw [askGrant_gear]
  exact .of_resting (h.staffed .publish s.gear.manned) hm rfl nofun hf

theorem advance_sound (h : s.gear.sound) : (advance s).gear.sound := by
  unfold advance
  split
  · rename_i hi
    have working : s.gear.state.working = false := by rw [show s.gear.state = .idle from hi]; rfl
    have commit : s.gear.state ≠ .commit := by rw [show s.gear.state = .idle from hi]; decide
    split
    · exact enterPublish_sound h.timed (h.not_manned working commit) (h.free working)
    · split
      · split
        · exact tryPreempt_sound (resumeTop_sound h.timed (by simp [*]))
        · exact h
      · split
        · split
          · exact takeHead_sound h.timed (by simp [*])
          · exact h
        · exact h
  · exact tryPreempt_sound h

/-! ### Ending a job -/

/-- A job has ended: no job is active and no request is outstanding. -/
structure Gear.vacant (g : Gear) : Prop where
  timed : g.timed
  manned : g.manned = false
  free : g.free

/-- An engine that leaves its job is sound in IDLE and in FAULT_HOLD. -/
theorem Gear.vacant.sound {g : Gear} (h : g.vacant) {e : EngineState} (hw : e.working = false) (hc : e ≠ .commit) :
    ({ g with state := e } : Gear).sound := .of_resting (h.timed.staffed e g.manned) h.manned hw hc h.free

theorem clearActive_vacant (h : s.gear.timed) (hf : s.gear.free) (r : SearchRecord) : (clearActive r s).gear.vacant := by
  rw [clearActive_gear]
  exact ⟨h.staffed s.gear.state false, rfl, hf⟩

theorem afterJob_sound (h : s.gear.vacant) (f c : Bool) : (afterJob f c s).gear.sound := by
  unfold afterJob
  split
  · exact enterPublish_sound (s := s.setEngine { s.engine with faultPending := f }) h.timed h.manned h.free
  · split
    · exact h.sound rfl nofun
    · exact advance_sound (s := s.setEngine { s.engine with state := .idle, faultPending := false }) (h.sound rfl nofun)

theorem closeJob_vacant (o : JobOutcome) (h : s.gear.ended.timed) (ha : s.engine.active = some r) : (closeJob o s).gear.vacant := by
  have left : (withdrawBoth (.ended o) (leaveWork s)).gear = s.gear.ended := by simp
  simp only [closeJob, ha]
  split
  · exact clearActive_vacant (left ▸ h) (left ▸ s.gear.ended_free) r
  · rw [accountEnd_gear]
    exact clearActive_vacant (by rw [writeRecord_gear, left]; exact h) (by rw [writeRecord_gear, left]; exact s.gear.ended_free) r

/-- The end of the active job, in whatever state the engine is and even in the middle of a turn of its move. -/
theorem endJob_sound_of_ended (o : JobOutcome) (h : s.gear.ended.timed) (ha : s.engine.active = some r) : (endJob o s).gear.sound := by
  simp only [endJob, ha]
  exact afterJob_sound (closeJob_vacant o h ha) _ _

theorem endJob_sound_of_active (o : JobOutcome) (h : s.gear.timed) (ha : s.engine.active = some r) : (endJob o s).gear.sound :=
  endJob_sound_of_ended o h.ended ha

theorem endJob_sound (o : JobOutcome) (h : s.gear.sound) : (endJob o s).gear.sound := by
  cases ha : s.engine.active with
  | none => simpa only [endJob, ha] using h
  | some r => exact endJob_sound_of_active o h.timed ha

theorem endArrived_sound (h : s.gear.timed) (r : SearchRecord) : (endArrived r s).gear.sound := by
  have left : (releaseBoth (leaveWork s)).gear = s.gear.ended := by simp
  unfold endArrived
  refine afterJob_sound ?_ _ _
  rw [accountEnd_gear]
  exact clearActive_vacant (by rw [writeRecord_gear, left]; exact h.ended) (by rw [writeRecord_gear, left]; exact s.gear.ended_free) r

theorem stageJob_sound (o : JobOutcome) (part : StagedPart) (h : s.gear.timed) (hm : s.gear.manned = true) :
    (stageJob o part s).gear.sound := by
  have left : (releaseBoth (leaveWork s)).gear = s.gear.ended := by simp
  have manned : (releaseBoth (leaveWork s)).gear.manned = true := by rw [left, Gear.ended_manned, hm]
  have free : (releaseBoth (leaveWork s)).gear.free := left ▸ s.gear.ended_free
  unfold stageJob
  rw [askGrant_gear]
  exact .of_commit ((left ▸ h.ended).staffed .commit _) manned rfl free

theorem takeFault_sound (o : JobOutcome) (h : s.gear.sound) : (takeFault o s).gear.sound := by
  unfold takeFault
  split
  · rename_i hi
    have working : s.gear.state.working = false := by rw [show s.gear.state = .idle from hi]; rfl
    have commit : s.gear.state ≠ .commit := by rw [show s.gear.state = .idle from hi]; decide
    exact Gear.vacant.sound ⟨h.timed, h.not_manned working commit, h.free working⟩ rfl nofun
  · exact endJob_sound o h
  · exact endJob_sound o h
  · exact endJob_sound o h
  · exact endJob_sound o h
  · exact h
  · exact h
  · exact h

/-! ### The states of a job -/

theorem startDwell_sound (h : s.gear.timed) (hm : s.gear.manned = true) : (startDwell s).gear.sound :=
  .of_working (h.staffed .dwell s.gear.manned) hm rfl

theorem enterDwell_sound (h : s.gear.timed) (hm : s.gear.manned = true) : (enterDwell s).gear.sound := by
  obtain ⟨r, ha⟩ := Option.isSome_iff_exists.mp hm
  unfold enterDwell
  split
  · exact endJob_sound_of_active _ h ha
  · exact startDwell_sound h hm

theorem enterSettling_sound (h : s.gear.timed) (hm : s.gear.manned = true) : (enterSettling s).gear.sound := by
  obtain ⟨r, ha⟩ := Option.isSome_iff_exists.mp hm
  unfold enterSettling
  split
  · exact endJob_sound_of_active _ h ha
  · exact .of_working (h.staffed .settling s.gear.manned) hm rfl

/-- The head handshake becomes READY, its select timeout stopped already. -/
theorem headReady_sound {x : HeadRequest} (hm : moveSound s.handshake.move s.handshake.moveTimeout s.frame.settle)
    (hs : s.frame.timerSound) (hx : s.handshake.head = some x) (ht : s.handshake.headTimeout = .stopped)
    (hw : s.engine.state.working = true) (ha : s.engine.active = some r) : (headReady s).gear.sound := by
  have ready : ∀ e, ({ (setHeadPhase .ready (s.setHandshake { s.handshake with headSettle := .stopped })).gear with
      state := e } : Gear).timed := fun e => by
    simp only [setHeadPhase, State.setHandshake, hx, setHead_gear]
    exact ⟨hm, hs, ⟨ht, rfl⟩⟩
  have engine : (setHeadPhase .ready (s.setHandshake { s.handshake with headSettle := .stopped })).engine = s.engine := by
    simp only [setHeadPhase, State.setHandshake, hx]
    rw [setHead_engine]
  have manned : (setHeadPhase .ready (s.setHandshake { s.handshake with headSettle := .stopped })).gear.manned = true :=
    State.gear_manned (engine ▸ ha)
  have still := ready (setHeadPhase .ready (s.setHandshake { s.handshake with headSettle := .stopped })).engine.state
  unfold headReady
  dsimp only
  split
  · split
    · obtain ⟨timed, manned, state⟩ := placeMove_timed (s := setEngineState .moveWait _) (ready .moveWait) manned
      exact .of_working timed manned (by simp [state, EngineState.working])
    · split
      · exact .of_working (ready .moveWait) manned rfl
      · exact .of_working (ready .moveWait) manned rfl
      · exact enterSettling_sound still manned
      · exact enterDwell_sound still manned
  · exact .of_working still manned (by rw [State.gear, engine]; exact hw)

/-- The settle test is met by a move that is DONE or about to be taken for it, whose timeout runs. -/
theorem settleMet_sound {m : MoveRequest} {x : Nat} (h : headSound s.handshake.head s.handshake.headTimeout s.handshake.headSettle)
    (hm : s.handshake.move = some m) (ht : s.handshake.moveTimeout = .running x) (hw : s.engine.state.working = true)
    (ha : s.engine.active = some r) : (settleMet s).gear.sound := by
  have met : ∀ u : State, u = setMovePhase .settled
        (({ s with frame := { s.frame with settle := .met, settleTimer := .stopped } } : State).setHandshake
          { s.handshake with moveTimeout := s.handshake.moveTimeout.pause }) →
      u.gear.timed ∧ u.engine = s.engine := by
    rintro u rfl
    simp only [setMovePhase, State.setHandshake, hm]
    refine ⟨?_, by rw [setMove_engine]⟩
    rw [setMove_gear]
    exact ⟨⟨⟨x, by simp [State.gear, ht, Timer.pause]⟩, rfl⟩, by simp [State.gear], h⟩
  unfold settleMet
  dsimp only
  generalize hu : setMovePhase .settled _ = u
  obtain ⟨timed, engine⟩ := met u hu.symm
  have manned : u.gear.manned = true := State.gear_manned (engine ▸ ha)
  split
  · split
    · split
      · exact enterDwell_sound timed manned
      · exact endArrived_sound timed _
    · exact .of_working timed manned (by rw [State.gear, engine]; exact hw)
  · exact .of_working timed manned (by rw [State.gear, engine]; exact hw)

/-- The settle test of a move that is DONE with its timeout running. -/
theorem settleEvaluate_sound {m : MoveRequest} {x : Nat} (h : headSound s.handshake.head s.handshake.headTimeout s.handshake.headSettle)
    (hm : s.handshake.move = some m) (hd : m.phase = .done) (ht : s.handshake.moveTimeout = .running x)
    (hw : s.engine.state.working = true) (ha : s.engine.active = some r) : (settleEvaluate s).gear.sound := by
  have done : ∀ (test : SettleTest) (timer : Timer), test = .outside ∨ test = .timing →
      ((∃ y, timer = .running y) ↔ test = .timing) →
      ({ s with frame := { s.frame with settle := test, settleTimer := timer } } : State).gear.sound := fun test timer ho hr =>
    .of_working ⟨by simp only [State.gear, hm, moveSound, hd]; exact ⟨⟨x, ht⟩, ho⟩, hr, h⟩ (State.gear_manned ha) hw
  unfold settleEvaluate
  split
  · split
    · exact settleMet_sound h hm ht hw ha
    · exact done .timing _ (.inr rfl) (by simp [startMs])
  · exact done .outside _ (.inl rfl) (by simp)

theorem settleLoss_sound (h : s.gear.sound) (hs : s.frame.settle = .met) : (settleLoss s).gear.sound := by
  have settled := h.timed.move
  cases hm : s.handshake.move with
  | none =>
    rw [show s.gear.move = none from hm] at settled
    exact absurd (settled.2.symm.trans hs) (by decide)
  | some m =>
    rw [show s.gear.move = some m from hm, show s.gear.test = .met from hs] at settled
    obtain ⟨x, hx⟩ : ∃ x, s.handshake.moveTimeout = .paused x := by
      cases hp : m.phase <;> simp_all [moveSound, State.gear]
    have working : s.engine.state.working = true := h.working_of_request (.inl (by simp [State.gear, hm]))
    obtain ⟨r, ha⟩ := h.active rfl (.inl working)
    have lost : ∀ u : State, u = setMovePhase .done
          (({ s with frame := { s.frame with settle := .outside, settleTimer := .stopped } } : State).setHandshake
            { s.handshake with moveTimeout := s.handshake.moveTimeout.resume }) →
        u.gear.timed ∧ u.engine = s.engine := by
      rintro u rfl
      simp only [setMovePhase, State.setHandshake, hm]
      refine ⟨?_, by rw [setMove_engine]⟩
      rw [setMove_gear]
      exact ⟨⟨⟨x, by simp [State.gear, hx, Timer.resume]⟩, .inl rfl⟩, by simp [State.gear], h.timed.head⟩
    unfold settleLoss
    dsimp only
    generalize hu : setMovePhase .done _ = u
    obtain ⟨timed, engine⟩ := lost u hu.symm
    have manned : u.gear.manned = true := State.gear_manned (engine ▸ ha)
    split
    · exact enterSettling_sound (by rw [dropDwell_gear]; exact timed) (by rw [dropDwell_gear]; exact manned)
    · exact .of_working timed manned (by rw [State.gear, engine]; exact working)

theorem settleSample_sound (h : s.gear.sound) : (settleSample s).gear.sound := by
  unfold settleSample
  split
  · exact h
  · split
    · rename_i ho _
      have move := h.timed.move
      cases hm : s.handshake.move with
      | none =>
        rw [show s.gear.move = none from hm] at move
        exact absurd (move.2.symm.trans ho) (by decide)
      | some m =>
        rw [show s.gear.move = some m from hm, show s.gear.test = .outside from ho] at move
        have working : s.engine.state.working = true := h.working_of_request (.inl (by simp [State.gear, hm]))
        obtain ⟨r, ha⟩ := h.active rfl (.inl working)
        obtain ⟨hd, x, hx⟩ : m.phase = .done ∧ ∃ x, s.handshake.moveTimeout = .running x := by
          cases hp : m.phase <;> simp_all [moveSound, State.gear]
        exact settleEvaluate_sound h.timed.head hm hd hx working ha
    · exact h
  · rename_i ht
    split
    · exact h
    · have move := h.timed.move
      rw [show s.gear.test = .timing from ht] at move
      refine ⟨⟨?_, by simp [State.gear], h.timed.head⟩, h.manned, h.free⟩
      cases hm : s.gear.move with
      | none =>
        rw [hm] at move
        cases move.2
      | some m =>
        rw [hm] at move
        simp only [show ({ s with frame := { s.frame with settle := .outside, settleTimer := .stopped } } : State).gear.move = some m from hm,
          moveSound] at move ⊢
        cases hp : m.phase <;> simp_all [State.gear]
  · split
    · exact h
    · exact settleLoss_sound h ‹_›

/-! ### The search and the Position Frame -/

theorem testTravel_sound (h : s.gear.sound) : (testTravel s).gear.sound := by
  unfold testTravel
  split
  · dsimp only
    split
    · exact takeFault_sound _ (by rw [postFault_gear]; exact h)
    · exact h
  · exact h

/-- The search goes on at a new target. -/
theorem goTo_sound (h : s.gear.timed) (r : SearchRecord) : (goTo r s).gear.sound := by
  have begun : (setActive (some r) (setEngineState .moveWait (dropDwell s))).gear.timed := by
    simpa using h.staffed .moveWait true
  obtain ⟨timed, manned, state⟩ := placeMove_timed begun rfl
  exact .of_working timed manned (by unfold goTo at *; rw [state]; rfl)

theorem setActive_timed (h : s.gear.timed) (r : SearchRecord) :
    (setActive (some r) s).gear.timed ∧ (setActive (some r) s).gear.manned = true := ⟨h.staffed _ true, rfl⟩

theorem applyDwell_sound (h : s.gear.timed) (r : SearchRecord) (mean : Int) : (applyDwell r mean s).gear.sound := by
  have stage : ∀ (x : SearchRecord) (o : JobOutcome) (part : StagedPart), (stageJob o part (setActive (some x) s)).gear.sound :=
    fun x o part => stageJob_sound o part (setActive_timed h x).1 rfl
  unfold applyDwell applyFirst applyStep applyVerify
  dsimp only
  split
  · exact goTo_sound h _
  · split
    · exact stage _ _ _
    · exact goTo_sound h _
  · split
    · exact stage _ _ _
    · split
      · exact stage _ _ _
      · split
        · exact stage _ _ _
        · exact goTo_sound h _

theorem completeDwell_sound (h : s.gear.timed) (hm : s.gear.manned = true) (r : SearchRecord) : (completeDwell r s).gear.sound := by
  unfold completeDwell
  dsimp only
  split
  · exact applyDwell_sound (setActive_timed h _).1 _ _
  · split
    · exact stageJob_sound _ _ h hm
    · exact startDwell_sound (setActive_timed h _).1 rfl

theorem countAccept_sound (h : s.gear.sound) (ptot : Int) : (countAccept ptot s).gear.sound := by
  unfold countAccept
  split
  · exact h
  · dsimp only
    split
    · exact completeDwell_sound (s := s.setEngine { s.engine with dwell := s.engine.dwell.add ptot }) h.timed
        (State.gear_manned ‹_›) _
    · exact h

theorem countReject_sound (h : s.gear.sound) : (countReject s).gear.sound := by
  unfold countReject
  split
  · exact h
  · rename_i r ha
    have gear : (s.setEngine { s.engine with
        active := some { r with rejects := satSucc 255 r.rejects }
        dwell := { s.engine.dwell with rejects := s.engine.dwell.rejects + 1 } }).gear = s.gear := by
      simp [State.gear, State.setEngine, ha]
    dsimp only
    split
    · exact stageJob_sound _ _ (by rw [gear]; exact h.timed) rfl
    · rw [gear]
      exact h

end Sys2Proof.Machine
end

section
/-! SUPPORT. O56: every command and every microsecond keeps the engine state, the handshakes, their timers and the settle test in step
(R28, R94, R106, R107, R114 to R116). -/

namespace Sys2Proof.Machine

variable {s t : State} {r : SearchRecord}

/-- A command that leaves the gear sound. -/
def Instr.Turns (i : Instr) (s : State) : Prop := ∃ t, exec i s = .next t ∧ t.gear.sound

/-- A request whose block keeps the gear sound. -/
theorem Instr.Turns.request {i : Instr} {p : Port} {a : Access} {body : State → State}
    (he : exec i s = .next (Machine.request i p a body s)) (h : s.gear.sound) (hb : ∀ u : State, u.gear.sound → (body u).gear.sound) :
    Instr.Turns i s := by
  refine ⟨_, he, ?_⟩
  obtain ⟨-, e⟩ | ⟨-, st, e⟩ | ⟨-, -, e⟩ := request_cases i p a body s <;> rw [e]
  · exact h
  · exact h
  · exact hb _ h

/-! ### Jobs -/

theorem submitJob_sound (p : Port) (tag : Byte) (w : JobWork) (c : JobClass) (b : Submitter) (l : Option Nat) (h : s.gear.sound) :
    (submitJob p tag w c b l s).gear.sound := by
  unfold submitJob
  rw [reply_gear]
  exact advance_sound (by rw [accept_gear]; exact h)

theorem exec_submitMeasure_turns (p : Port) (tag head zone cls limit : Byte) (h : s.gear.sound) :
    Instr.Turns (.submitMeasure p tag head zone cls limit) s := by
  refine .request rfl h fun u hu => ?_
  split
  · split
    · rw [refuseSubmission_gear]
      exact hu
    · exact submitJob_sound _ _ _ _ _ _ hu
  · exact hu

theorem exec_submitReferenceCheck_turns (p : Port) (tag zone : Byte) (h : s.gear.sound) :
    Instr.Turns (.submitReferenceCheck p tag zone) s := by
  refine .request rfl h fun u hu => ?_
  split
  · rw [refuseSubmission_gear]
    exact hu
  · exact submitJob_sound _ _ _ _ _ _ hu

theorem exec_submitMove_turns (p : Port) (tag : Byte) (target : CountWord) (h : s.gear.sound) :
    Instr.Turns (.submitMove p tag target) s := by
  refine .request rfl h fun u hu => ?_
  split
  · rw [refuseSubmission_gear]
    exact hu
  · dsimp only
    rw [answer_gear]
    exact advance_sound (by rw [accept_gear]; exact hu)

theorem exec_submitSweep_turns (p : Port) (tag fh lh fz lz cls publish : Byte) (h : s.gear.sound) :
    Instr.Turns (.submitSweep p tag fh lh fz lz cls publish) s := by
  refine .request rfl h fun u hu => ?_
  split
  · split
    · exact hu
    · dsimp only
      split
      · exact hu
      · split
        · rw [refuseSubmission_gear]
          exact hu
        · unfold submitSweep
          dsimp only
          rw [reply_gear]
          exact advance_sound (by rw [acceptAll_gear]; exact hu)
  · exact hu

theorem cancelForm_sound (p : Port) (tag id : Byte) (h : s.gear.sound) : (cancelForm p tag id s).gear.sound := by
  unfold cancelForm
  split
  · exact h
  · split
    · exact h
    · split
      · exact h
      · unfold cancelJob
        split
        · rw [reply_gear]
          exact advance_sound (by rw [postSpace_gear, cancelQueued_gear]; exact h)
        · split
          · rw [reply_gear]
            exact endJob_sound _ h
          · exact h
        · rw [reply_gear]
          exact advance_sound (by rw [cancelStacked_gear]; exact h)

theorem cancelGroupForm_sound (p : Port) (tag id : Byte) (h : s.gear.sound) : (cancelGroupForm p tag id s).gear.sound := by
  unfold cancelGroupForm
  split
  · exact h
  · split
    · exact h
    · split
      · exact h
      · split
        · exact h
        · unfold cancelMembers
          dsimp only
          have queued : (forQueued cancelQueued (s.jobs.queue.filter fun j => j.inGroup id.toNat) (markCancelled id.toNat s)).gear = s.gear :=
            forQueued_gear cancelQueued_gear _ _
          rw [reply_gear]
          have removed : ∀ u : State, u.gear = s.gear → ∀ l, (forStacked cancelStacked l u).gear.sound := fun u hu l => by
            rw [forStacked_gear cancelStacked_gear, hu]
            exact h
          have spaced : ∀ (b : Prop) [Decidable b] (u : State), u.gear = s.gear → (if b then u else postSpace u).gear = s.gear :=
            fun b _ u hu => by
              split
              · exact hu
              · rw [postSpace_gear, hu]
          split
          · exact endJob_sound _ (removed _ (spaced _ _ queued) _)
          · exact advance_sound (removed _ (spaced _ _ queued) _)

theorem exec_cancel_turns (p : Port) (tag id flag : Byte) (h : s.gear.sound) : Instr.Turns (.cancel p tag id flag) s := by
  refine .request rfl h fun u hu => ?_
  split
  · exact hu
  · exact cancelGroupForm_sound _ _ _ hu
  · exact cancelForm_sound _ _ _ hu

/-- An engine in FAULT_HOLD that is released becomes IDLE and goes on. -/
theorem exec_resumeEngine_turns (p : Port) (tag : Byte) (h : s.gear.sound) : Instr.Turns (.resumeEngine p tag) s := by
  refine .request rfl h fun u hu => ?_
  split
  · exact hu
  · dsimp only
    rw [reply_gear]
    split
    · rename_i hf
      have working : u.gear.state.working = false := by rw [show u.gear.state = .faultHold from hf]; rfl
      have commit : u.gear.state ≠ .commit := by rw [show u.gear.state = .faultHold from hf]; decide
      exact advance_sound (Gear.vacant.sound ⟨hu.timed, hu.not_manned working commit, hu.free working⟩ rfl nofun)
    · exact hu

/-! ### The move protocol -/

theorem State.moveMatching_eq_some {sequence : Byte} {m : MoveRequest} (h : s.moveMatching sequence = some m) : s.handshake.move = some m :=
  (Option.filter_eq_some_iff.mp h).1

theorem State.headMatching_eq_some {sequence : Byte} {x : HeadRequest} (h : s.headMatching sequence = some x) : s.handshake.head = some x :=
  (Option.filter_eq_some_iff.mp h).1

/-- A move that is not DONE yet has its timeout running and no settle test. -/
theorem Gear.timed.pending {g : Gear} (h : g.timed) {m : MoveRequest} (hm : g.move = some m) (hp : m.phase = .requested ∨ m.phase = .taken) :
    (∃ x, g.moveTimeout = .running x) ∧ g.test = .none := by
  have move := h.move
  rw [hm] at move
  obtain hp | hp := hp <;> simpa only [moveSound, hp] using move

theorem exec_takeMove_turns (p : Port) (tag : Byte) (h : s.gear.sound) : Instr.Turns (.takeMove p tag) s := by
  refine .request rfl h fun u hu => ?_
  split
  · exact hu
  · rename_i m hm
    split
    · rename_i hp
      obtain ⟨timeout, test⟩ := hu.timed.pending (m := m) hm (.inl hp)
      rw [reply_gear]
      simp only [setMovePhase, hm, setMove_gear]
      exact .of_working ⟨⟨timeout, test⟩, hu.timed.settle, hu.timed.head⟩
        (hu.manned_of_working (hu.working_of_request (.inl (by simp [State.gear, hm]))))
        (hu.working_of_request (.inl (by simp [State.gear, hm])))
    all_goals exact hu

/-- The settle test starts for the move that has become DONE, whether or not the job goes on. -/
theorem startSettleTest_sound {m : MoveRequest} {x : Nat} {sequence : Byte} (h : headSound s.handshake.head s.handshake.headTimeout s.handshake.headSettle)
    (hm : s.handshake.move = some m) (hd : m.phase = .done) (hs : s.moveMatching sequence = some m) (ht : s.handshake.moveTimeout = .running x)
    (hw : s.engine.state.working = true) (ha : s.engine.active = some r) : (startSettleTest sequence s).gear.sound := by
  simp only [startSettleTest, hs, hd, if_true]
  exact settleEvaluate_sound h hm hd ht hw ha

/-- In a sound gear a move that is DONE has its settle test already, and a new test leaves it sound. -/
theorem startSettleTest_sound_of_sound {sequence : Byte} (h : s.gear.sound) : (startSettleTest sequence s).gear.sound := by
  unfold startSettleTest
  split
  · rename_i m hs
    split
    · rename_i hd
      have hm := State.moveMatching_eq_some hs
      have working : s.engine.state.working = true := h.working_of_request (.inl (by simp [State.gear, hm]))
      obtain ⟨r, ha⟩ := h.active rfl (.inl working)
      have move := h.timed.move
      rw [show s.gear.move = some m from hm] at move
      simp only [moveSound, hd] at move
      obtain ⟨⟨x, hx⟩, -⟩ := move
      exact settleEvaluate_sound h.timed.head hm hd hx working ha
    · exact h
  · exact h

theorem acceptMoveDone_sound {m : MoveRequest} {sequence : Byte} (h : s.gear.sound) (hs : s.moveMatching sequence = some m)
    (hp : m.phase = .requested ∨ m.phase = .taken) : (acceptMoveDone sequence s).gear.sound := by
  have hm := State.moveMatching_eq_some hs
  have working : s.engine.state.working = true := h.working_of_request (.inl (by simp [State.gear, hm]))
  obtain ⟨r, ha⟩ := h.active rfl (.inl working)
  obtain ⟨⟨x, hx⟩, test⟩ := h.timed.pending (m := m) hm hp
  have done : setMovePhase .done s = setMove (some { m with phase := .done }) s := by simp only [setMovePhase, hm]
  have matching : ∀ u : State, u.handshake.move = some { m with phase := .done } → u.moveMatching sequence = some { m with phase := .done } :=
    fun u hu => by
      have := (Option.filter_eq_some_iff.mp hs).2
      simp only [State.moveMatching, hu]
      exact Option.filter_eq_some_iff.mpr ⟨rfl, this⟩
  unfold acceptMoveDone
  dsimp only
  rw [done]
  have handshake := setMove_handshake (some { m with phase := .done }) s
  have engine := setMove_engine (some { m with phase := .done }) s
  generalize setMove (some { m with phase := .done }) s = u at *
  have head : headSound u.handshake.head u.handshake.headTimeout u.handshake.headSettle := by rw [handshake]; exact h.timed.head
  have timeout : u.handshake.moveTimeout = .running x := by rw [handshake]; exact hx
  have move : u.handshake.move = some { m with phase := .done } := by rw [handshake]
  split
  · unfold enterSettling
    split
    · refine startSettleTest_sound_of_sound ?_
      exact endJob_sound_of_ended _ (Gear.ended_timed_of_move (g := u.gear) move head) (engine ▸ ha)
    · exact startSettleTest_sound (s := setEngineState .settling u) head move rfl (matching _ move) timeout rfl (engine ▸ ha)
  · exact startSettleTest_sound head move rfl (matching _ move) timeout (engine ▸ working) (engine ▸ ha)


theorem exec_moveDone_turns (p : Port) (tag sequence : Byte) (h : s.gear.sound) : Instr.Turns (.moveDone p tag sequence) s := by
  refine .request rfl h fun u hu => ?_
  split
  · exact hu
  · rename_i m hm
    dsimp only
    rw [reply_gear]
    split
    · exact acceptMoveDone_sound hu hm (.inl ‹_›)
    · exact acceptMoveDone_sound hu hm (.inr ‹_›)
    · exact hu
    · exact hu

/-- The end of the job whose move or head request has just ended. -/
theorem endJob_sound_of_request {u : State} (o : JobOutcome) (h : s.gear.sound) (hr : s.handshake.move ≠ none ∨ s.handshake.head ≠ none)
    (hu : u.gear.timed) (he : u.gear.manned = s.gear.manned) : (endJob o u).gear.sound := by
  obtain ⟨r, ha⟩ := Option.isSome_iff_exists.mp (he.trans (h.manned_of_working (h.working_of_request hr)))
  exact endJob_sound_of_active o hu ha

theorem exec_moveRefused_turns (p : Port) (tag sequence reason : Byte) (h : s.gear.sound) :
    Instr.Turns (.moveRefused p tag sequence reason) s := by
  refine .request rfl h fun u hu => ?_
  split
  · exact hu
  · rename_i m hm
    have ends : (refuseMove reason u).gear.sound := endJob_sound_of_request _ hu (.inl (by simp [State.moveMatching_eq_some hm]))
      (by rw [endMove_gear]; exact hu.timed.endMove) (by simp)
    split
    · exact ends
    · exact ends
    · exact hu
    · exact hu

theorem exec_moveTimeoutExpiry_turns (h : s.gear.sound) : Instr.Turns .moveTimeoutExpiry s := by
  refine ⟨_, rfl, ?_⟩
  split
  · rename_i x hx
    refine endJob_sound_of_request _ h (.inl fun hm => ?_) (by rw [timeOutMove_gear]; exact h.timed.endMove) (by simp)
    have move := h.timed.move
    rw [show s.gear.move = none from hm, show s.gear.moveTimeout = .running x from hx] at move
    cases move.1
  · exact h
  · exact h

theorem exec_settleTimerExpiry_turns (h : s.gear.sound) : Instr.Turns .settleTimerExpiry s := by
  refine ⟨_, rfl, ?_⟩
  split
  · rename_i ht
    have move := h.timed.move
    rw [show s.gear.test = .timing from ht] at move
    cases hm : s.handshake.move with
    | none =>
      rw [show s.gear.move = none from hm] at move
      cases move.2
    | some m =>
      have working : s.engine.state.working = true := h.working_of_request (.inl (by simp [State.gear, hm]))
      obtain ⟨r, ha⟩ := h.active rfl (.inl working)
      rw [show s.gear.move = some m from hm] at move
      obtain ⟨x, hx⟩ : ∃ x, s.handshake.moveTimeout = .running x := by
        cases hp : m.phase <;> simp_all [moveSound, State.gear]
      exact settleMet_sound h.timed.head hm hx working ha
  · exact h

/-! ### The head protocol -/

theorem exec_takeHeadRequest_turns (p : Port) (tag : Byte) (h : s.gear.sound) : Instr.Turns (.takeHeadRequest p tag) s := by
  refine .request rfl h fun u hu => ?_
  split
  · exact hu
  · rename_i x hx
    split
    · rename_i hp
      have head := hu.timed.head
      simp only [show u.gear.head = some x from hx, headSound, hp] at head
      rw [reply_gear]
      simp only [setHeadPhase, hx, setHead_gear]
      exact .of_working ⟨hu.timed.move, hu.timed.settle, head⟩
        (hu.manned_of_working (hu.working_of_request (.inr (by simp [State.gear, hx]))))
        (hu.working_of_request (.inr (by simp [State.gear, hx])))
    all_goals exact hu

/-- The selected head is no part of the gear. -/
@[simp] theorem selectHead_gear (n : Nat) (s : State) : (selectHead n s).gear = s.gear := by
  unfold selectHead
  split <;> rfl

@[simp] theorem selectHead_head (n : Nat) (s : State) : (selectHead n s).handshake.head = s.handshake.head := by
  unfold selectHead
  split <;> rfl

theorem enterDelay_sound {x : HeadRequest} (h : s.gear.sound) (hx : s.handshake.head = some x) : (enterDelay s).gear.sound := by
  have working : s.engine.state.working = true := h.working_of_request (.inr (by simp [State.gear, hx]))
  obtain ⟨r, ha⟩ := h.active rfl (.inl working)
  have delayed : setHeadPhase .delay (s.setHandshake { s.handshake with
      headTimeout := .stopped, headSettle := startMs s.store.profile.headSettleDelay })
    = setHead (some { x with phase := .delay }) (s.setHandshake { s.handshake with
      headTimeout := .stopped, headSettle := startMs s.store.profile.headSettleDelay }) := by
    simp only [setHeadPhase, State.setHandshake, hx]
  unfold enterDelay
  dsimp only
  rw [delayed]
  have gear := setHead_gear (some { x with phase := .delay }) (s.setHandshake { s.handshake with
      headTimeout := .stopped, headSettle := startMs s.store.profile.headSettleDelay })
  have engine := setHead_engine (some { x with phase := .delay }) (s.setHandshake { s.handshake with
      headTimeout := .stopped, headSettle := startMs s.store.profile.headSettleDelay })
  generalize setHead (some { x with phase := .delay }) _ = u at *
  have timed : u.gear.timed := by
    rw [gear]
    exact ⟨h.timed.move, h.timed.settle, rfl, _, rfl⟩
  have active : u.engine.active = some r := engine ▸ ha
  have state : u.engine.state.working = true := engine ▸ working
  split
  · exact headReady_sound timed.move timed.settle (congrArg Gear.head gear) (congrArg Gear.headTimeout gear) state active
  · split
    · exact endJob_sound_of_active _ timed active
    · exact .of_working timed (State.gear_manned active) state

theorem answerHead_sound {x : HeadRequest} (n : Nat) (h : s.gear.sound) (hx : s.handshake.head = some x) :
    (answerHead x n s).gear.sound := by
  unfold answerHead
  split
  · exact enterDelay_sound h hx
  · exact endJob_sound_of_request _ h (.inr (by simp [hx])) (by rw [endHead_gear]; exact h.timed.endHead) (by simp)

theorem reissueHead_sound {x : HeadRequest} (h : s.gear.sound) (hx : s.handshake.head = some x) : (reissueHead x s).gear.sound := by
  have working : s.engine.state.working = true := h.working_of_request (.inr (by simp [State.gear, hx]))
  have manned := h.manned_of_working working
  have placed : ∀ u : State, u.gear.timed → u.gear.manned = true → u.gear.state.working = true → (placeHeadFor x.head x.job u).gear.sound :=
    fun u ht hm hw => by
      obtain ⟨timed, hm', state⟩ := placeHeadFor_timed ht x.head x.job
      exact .of_working timed (hm'.trans hm) (state ▸ hw)
  have ended : (endHead .reissued s).gear = s.gear.endHead := endHead_gear _ s
  have timed : (endHead .reissued s).gear.timed := ended ▸ h.timed.endHead
  have staffed : (endHead .reissued s).gear.manned = true := by rw [ended, Gear.endHead_manned, manned]
  have back : (setEngineState .headWait (dropDwell (endHead .reissued s))).gear.timed := by
    rw [setEngineState_gear, dropDwell_gear]
    exact timed.staffed .headWait _
  unfold reissueHead
  dsimp only
  split
  · exact placed _ back (by simpa using manned) rfl
  · exact placed _ back (by simpa using manned) rfl
  · exact placed _ back (by simpa using manned) rfl
  · exact placed _ timed staffed (by rw [ended, Gear.endHead_state]; exact working)

theorem reportHead_sound (n : Nat) (h : s.gear.sound) : (reportHead n s).gear.sound := by
  unfold reportHead
  split
  · exact h
  · split
    · exact h
    · exact h
    · split
      · exact h
      · exact reissueHead_sound h ‹_›
    · split
      · exact h
      · exact reissueHead_sound h ‹_›

theorem exec_headSelected_turns (p : Port) (tag sequence head : Byte) (h : s.gear.sound) :
    Instr.Turns (.headSelected p tag sequence head) s := by
  refine .request rfl h fun u hu => ?_
  split
  · exact hu
  · rw [refuse_gear]
    have selected : (selectHead head.toNat u).gear.sound := by rw [selectHead_gear]; exact hu
    unfold headReport
    dsimp only
    split
    · exact reportHead_sound _ selected
    · rename_i x hx
      have head : (selectHead head.toNat u).handshake.head = some x := by rw [selectHead_head]; exact State.headMatching_eq_some hx
      split
      · exact answerHead_sound _ selected head
      · exact answerHead_sound _ selected head
      · exact reportHead_sound _ selected
      · exact reportHead_sound _ selected

theorem exec_headRefused_turns (p : Port) (tag sequence reason : Byte) (h : s.gear.sound) :
    Instr.Turns (.headRefused p tag sequence reason) s := by
  refine .request rfl h fun u hu => ?_
  split
  · exact hu
  · rename_i x hx
    have ends : (refuseHead reason u).gear.sound := endJob_sound_of_request _ hu (.inr (by simp [State.headMatching_eq_some hx]))
      (by rw [endHead_gear]; exact hu.timed.endHead) (by simp)
    split
    · exact ends
    · exact ends
    · exact hu
    · exact hu

theorem exec_headSelectTimeoutExpiry_turns (h : s.gear.sound) : Instr.Turns .headSelectTimeoutExpiry s := by
  refine ⟨_, rfl, ?_⟩
  split
  · rename_i x hx
    refine endJob_sound_of_request _ h (.inr fun hm => ?_) (by rw [timeOutHead_gear]; exact h.timed.endHead) (by simp)
    have head := h.timed.head
    rw [show s.gear.head = none from hm, show s.gear.headTimeout = .running x from hx] at head
    cases head.1
  · exact h
  · exact h

theorem exec_headSettleTimerExpiry_turns (h : s.gear.sound) : Instr.Turns .headSettleTimerExpiry s := by
  refine ⟨_, rfl, ?_⟩
  split
  · rename_i hd
    unfold HandshakeUnit.inDelay at hd
    split at hd
    · rename_i x hx
      have working : s.engine.state.working = true := h.working_of_request (.inr (by simp [State.gear, hx]))
      obtain ⟨r, ha⟩ := h.active rfl (.inl working)
      have head := h.timed.head
      simp only [show s.gear.head = some x from hx, headSound, beq_iff_eq.mp hd] at head
      exact headReady_sound h.timed.move h.timed.settle hx head.1 working ha
    · cases hd
  · exact h

/-! ### The engine under the grant -/

theorem exec_e0Lookup_turns (h : s.gear.sound) : Instr.Turns .e0Lookup s := by
  refine ⟨_, rfl, ?_⟩
  split
  · split
    · rename_i r hr
      unfold State.lookingUp at hr
      split at hr
      · rename_i hw
        have working : s.gear.state.working = true := by rw [show s.gear.state = .headWait from hw.1]; rfl
        unfold lookUp
        split
        · rw [release_gear]
          exact h
        · dsimp only
          rename_i a z _
          obtain ⟨timed, manned, state⟩ := placeHead_timed
            (s := setActive (some { r with e0 := some (s.chooseE0 a z), target := some (s.chooseE0 a z) }) (release s))
            (setActive_timed (by rw [release_gear]; exact h.timed) _).1
          exact .of_working timed manned (by rw [state, setActive_gear, release_gear]; exact working)
      · cases hr
    · rw [release_gear]
      exact h
  · exact h

theorem commitTable_gear (r : SearchRecord) (part : StagedPart) (s : State) : (commitTable r part s).gear = s.gear := by
  unfold commitTable
  split
  · rfl
  · dsimp only
    split <;> rfl

theorem postDrift_gear (zone : Nat) (drift : Option Int) (marked : Bool) (s : State) : (postDrift zone drift marked s).gear = s.gear := by
  unfold postDrift
  split
  · split
    · exact postWD_gear _ _ _
    · rfl
  · rfl

theorem answerAll_gear (l : List ResetReply) (s : State) : (answerAll l s).gear = s.gear := by
  obtain ⟨x, e⟩ := answerAll_ports l s
  rw [e]
  rfl

theorem exec_commit_turns (h : s.gear.sound) : Instr.Turns .commit s := by
  refine ⟨_, rfl, ?_⟩
  split
  · rename_i hc
    have free : s.gear.free := h.free (by rw [show s.gear.state = .commit from hc.1]; rfl)
    split
    · rename_i r o part _ _
      have committed : ∀ u : State, u.gear = s.gear → (clearActive r u).gear.vacant := fun u hu =>
        clearActive_vacant (hu ▸ h.timed) (hu ▸ free) r
      have told : (postDrift r.job.work.zone (s.driftFound r.job.work part) (s.store.profile.marks (s.driftFound r.job.work part))
          (release (commitTable r part s))).gear = s.gear := by rw [postDrift_gear, release_gear, commitTable_gear]
      unfold commitJob endCommit
      dsimp only
      split
      · unfold answerReset
        rw [answerAll_gear]
        exact afterJob_sound (committed _ told) _ _
      · exact afterJob_sound (by rw [accountEnd_gear]; exact committed _ (by rw [writeRecord_gear, told])) _ _
    · exact h
  · exact h

theorem exec_groupEndPublish_turns (h : s.gear.sound) : Instr.Turns .groupEndPublish s := by
  refine ⟨_, rfl, ?_⟩
  split
  · rename_i hc
    have working : s.gear.state.working = false := by rw [show s.gear.state = .publish from hc.1]; rfl
    have commit : s.gear.state ≠ .commit := by rw [show s.gear.state = .publish from hc.1]; decide
    have told : ∀ u : State, u.gear = s.gear → (leavePublish (removePublished u)).gear.sound := fun u hu => by
      have removed : (removePublished u).gear = s.gear := by
        unfold removePublished
        split <;> exact hu
      have vacant : (removePublished u).gear.vacant := removed ▸ ⟨h.timed, h.not_manned working commit, h.free working⟩
      unfold leavePublish
      split
      · exact vacant.sound rfl nofun
      · exact advance_sound (s := (removePublished u).setEngine { (removePublished u).engine with state := .idle, publishing := none })
          (vacant.sound rfl nofun)
    exact told _ (by rw [postWD_gear, release_gear]; rfl)
  · exact h

end Sys2Proof.Machine
end

section
/-! SUPPORT. O56: the Sample Path, the Position Frame, the ports, the store and the table keep the gear sound, and so does time. -/

namespace Sys2Proof.Machine

variable {s t : State} {r : SearchRecord}

/-! ### The Sample Path and the Position Frame -/

@[simp] theorem judgeLock_gear (good : Bool) (s : State) : (judgeLock good s).gear = s.gear := by
  unfold judgeLock servoLost servoRegained
  repeat' split
  all_goals simp

theorem wedgeArrival_sound (w : WedgeRecord) (h : s.gear.sound) : (wedgeArrival w s).gear.sound := by
  unfold wedgeArrival
  dsimp only
  have judged : (judgeLock w.sync (s.setSample (s.sample.advance s.wedgesPerRevolution))).gear.sound := by
    rw [judgeLock_gear]
    exact h
  split
  · unfold joinFifo
    split
    · exact judged
    · exact countReject_sound judged
  · exact judged

theorem exec_wedgeWindowExpiry_turns (h : s.gear.sound) : Instr.Turns .wedgeWindowExpiry s := by
  refine ⟨_, rfl, ?_⟩
  split
  · exact wedgeArrival_sound (s := startWindow s) _ h
  · exact h
  · exact h

theorem exec_indexPulse_turns (h : s.gear.sound) : Instr.Turns .indexPulse s := by
  refine ⟨_, rfl, ?_⟩
  split
  · exact h
  · split
    · exact h
    · unfold indexSlip restartDwell
      dsimp only
      split <;> simpa [State.gear] using h

theorem exec_servoLossTimeoutExpiry_turns (h : s.gear.sound) : Instr.Turns .servoLossTimeoutExpiry s := by
  refine ⟨_, rfl, ?_⟩
  split
  · dsimp only
    split
    · exact endJob_sound (s := s.setSample { s.sample with loss := .expired }) _ h
    · exact h
  · exact h
  · exact h

theorem exec_sampleTake_turns (h : s.gear.sound) : Instr.Turns .sampleTake s := by
  refine ⟨_, rfl, ?_⟩
  split
  · split
    · rename_i w rest _
      have taken : (s.setSample ({ s.sample with fifo := rest }.countKind (classify s.store.profile.burstFloor s.targetTrack w))).gear.sound := h
      unfold takeSample applyClass
      dsimp only
      split
      · exact countAccept_sound taken _
      · exact countReject_sound taken
      · exact countReject_sound taken
      · exact countReject_sound taken
      · exact countReject_sound taken
    · exact h
  · exact h

/-- A replaced frame that keeps the settle test and its timer keeps the gear. -/
theorem setFrame_gear {f : PositionFrame} (ht : f.settle = s.frame.settle) (hs : f.settleTimer = s.frame.settleTimer) :
    (s.setFrame f).gear = s.gear := by
  simp only [State.gear, State.setFrame, ht, hs]

theorem countStage_sound (before : PositionFrame) (h : s.gear.sound) : (countStage before s).gear.sound := by
  unfold countStage
  split
  · unfold encoderFault
    exact takeFault_sound _ (by rw [postFault_gear]; exact h)
  · exact h

theorem captureStage_sound (before : PositionFrame) (h : s.gear.sound) : (captureStage before s).gear.sound := by
  unfold captureStage
  split <;> exact h

theorem travelStage_sound (before : PositionFrame) (h : s.gear.sound) : (travelStage before s).gear.sound := by
  unfold travelStage
  split
  · exact h
  · exact testTravel_sound h

theorem positionerFault_sound (h : s.gear.sound) : (positionerFault s).gear.sound :=
  takeFault_sound _ (by rw [postFault_gear]; exact h)

theorem pfaultStage_sound (before : PositionFrame) (h : s.gear.sound) : (pfaultStage before s).gear.sound := by
  unfold pfaultStage
  split
  · exact positionerFault_sound h
  · exact h

theorem settleStage_sound (before : PositionFrame) (h : s.gear.sound) : (settleStage before s).gear.sound := by
  unfold settleStage
  split
  · exact h
  · exact settleSample_sound h

theorem exec_filterSample_turns (a b z pf : Bool) (h : s.gear.sound) : Instr.Turns (.filterSample a b z pf) s := by
  refine ⟨_, rfl, ?_⟩
  split
  · exact settleStage_sound _ (pfaultStage_sound _ (travelStage_sound _ (captureStage_sound _ (countStage_sound
      (s := s.setFrame (s.frame.filtered a b z pf)) _ h))))
  · unfold firstFilterSample
    dsimp only
    split
    · exact positionerFault_sound (s := s.setFrame _) h
    · exact h

/-! ### Link ports -/

theorem postOwed_gear (p : Port) (s : State) : (postOwed p s).gear = s.gear := by
  unfold postOwed
  split
  · rename_i slot _
    have quiet := postQuiet_gear .fault (.profile slot) p s
    cases p <;> exact quiet
  · rfl

theorem exec_attach_turns (p : Port) (tag : Byte) (h : s.gear.sound) : Instr.Turns (.attach p tag) s := by
  refine .request rfl h fun u hu => ?_
  rw [reply_gear]
  split
  · exact hu
  · exact advance_sound (by rw [pulseIfEligible_gear, postOwed_gear]; exact hu)

theorem clearWorkOf_gear (p : Port) (s : State) : (clearWorkOf p s).gear = s.gear := by
  have dropped : ∀ l k, (forStacked dropStacked l (forQueued dropQueued k (disarmSpace p s))).gear = s.gear := fun l k => by
    rw [forStacked_gear dropStacked_gear, forQueued_gear fun j s => by simp [dropQueued]]
    cases p <;> rfl
  have ungrouped : ∀ (b : Prop) [Decidable b] (u : State), u.gear = s.gear →
      (if b then u.setJobs { u.jobs with groups := u.jobs.groups.filter Group.due } else u).gear = s.gear := fun b _ u hu => by
    split <;> exact hu
  unfold clearWorkOf
  dsimp only
  split
  · exact ungrouped _ _ (dropped _ _)
  · rw [postSpace_gear]
    exact ungrouped _ _ (dropped _ _)

theorem resetStanding_gear (p q : Port) (s : State) : (resetStanding p q s).gear = s.gear := by
  have read : (withdrawRead q (dropReply q s)).gear = s.gear := (State.gear_of_aside (withdrawRead_aside q (dropReply q s))).trans rfl
  have base : (if q = p then s else withdrawRead q (dropReply q s)).gear = s.gear := by
    split
    · rfl
    · exact read
  unfold resetStanding
  dsimp only
  split
  · rw [dropHome_gear, clearWorkOf_gear]
    exact base
  · rw [clearWorkOf_gear]
    exact base

/-- A commit that is withdrawn ends its job. -/
theorem withdrawCommit_sound (h : s.gear.sound) (hc : s.engine.state = .commit) : (withdrawCommit s).gear.sound := by
  unfold withdrawCommit
  split
  · exact afterJob_sound (clearActive_vacant h.timed (h.free (by rw [show s.gear.state = .commit from hc]; rfl)) _) _ _
  · exact h

theorem State.resetCase_commit {p : Port} (h : s.resetCase p = .withdrawsCommit) : s.engine.state = .commit := by
  unfold State.resetCase at h
  split at h
  · cases h
  · split at h
    · split at h
      · cases h
      · split at h <;> cases h
    · split at h
      · exact ‹_ ∧ _›.1
      · cases h

theorem resetPort_sound (p q : Port) (tag : Byte) (h : s.gear.sound) : (resetPort p q tag s).gear.sound := by
  have withdrawn : (withdrawAskIn (s.resetCase q) s).gear = s.gear := by
    unfold withdrawAskIn
    split
    · exact withdrawAsk_gear _ s
    · rfl
  have gear : (resetStanding p q (withdrawAskIn (s.resetCase q) s)).gear = s.gear := by rw [resetStanding_gear, withdrawn]
  have standing : (resetStanding p q (withdrawAskIn (s.resetCase q) s)).gear.sound := gear ▸ h
  unfold resetPort
  dsimp only
  split
  · rw [reply_gear]
    exact endJob_sound _ standing
  · rw [reply_gear]
    exact withdrawCommit_sound standing ((congrArg Gear.state gear).trans (State.resetCase_commit ‹_›))
  · exact standing
  · rw [reply_gear]
    exact advance_sound standing

theorem exec_resetPort_turns (p : Port) (tag target : Byte) (h : s.gear.sound) : Instr.Turns (.resetPort p tag target) s := by
  refine .request rfl h fun u hu => ?_
  split
  · exact hu
  · split
    · exact hu
    · exact resetPort_sound _ _ _ hu

/-! ### CLEAR BENCH -/

/-- The engine without a job goes to IDLE or FAULT_HOLD. -/
theorem settleEngine_sound (h : s.gear.vacant) : (settleEngine s).gear.sound := by
  refine h.sound (e := if s.engine.faultPending = true then .faultHold else .idle) ?_ ?_
  · split <;> rfl
  · split <;> decide

theorem clearEngine_sound (h : s.gear.sound) : (clearEngine s).gear.sound := by
  have closes : s.engine.state.working = true → (settleEngine (closeJob .cleared s)).gear.sound := fun hw => by
    obtain ⟨r, ha⟩ := h.active rfl (.inl hw)
    exact settleEngine_sound (closeJob_vacant _ h.timed.ended ha)
  unfold clearEngine
  split
  · exact h
  · exact h
  · rename_i hc
    have working : s.gear.state.working = false := by rw [show s.gear.state = .commit from hc]; rfl
    obtain ⟨r, ha⟩ := h.active hc (.inr rfl)
    unfold clearCommit
    split
    · exact h
    · simp only [ha]
      exact settleEngine_sound (clearActive_vacant (by rw [withdrawAsk_gear]; exact h.timed)
        (by rw [withdrawAsk_gear]; exact h.free working) r)
  · rename_i hp
    have working : s.gear.state.working = false := by rw [show s.gear.state = .publish from hp]; rfl
    have commit : s.gear.state ≠ .commit := by rw [show s.gear.state = .publish from hp]; decide
    unfold clearPublish
    split
    · exact h
    · exact settleEngine_sound (by rw [withdrawAsk_gear]; exact ⟨h.timed, h.not_manned working commit, h.free working⟩)
  all_goals exact closes (by rw [‹s.engine.state = _›]; rfl)

theorem clearJobs_gear (s : State) : (clearJobs s).gear = s.gear := by
  have dropped : (forQueued dropQueued s.jobs.queue (forStacked dropStacked s.stack s)).gear = s.gear := by
    rw [forQueued_gear (fun j s => by simp [dropQueued]), forStacked_gear dropStacked_gear]
  unfold clearJobs
  dsimp only
  split
  · exact (postSpace_gear _).trans dropped
  · exact dropped

theorem exec_clearBench_turns (p : Port) (tag : Byte) (h : s.gear.sound) : Instr.Turns (.clearBench p tag) s := by
  refine .request rfl h fun u hu => ?_
  rw [askGrant_gear]
  have jobs : (clearJobs (clearEngine u)).gear.sound := clearJobs_gear (clearEngine u) ▸ clearEngine_sound hu
  exact jobs

/-! ### The Profile Store -/

theorem exec_setParameter_turns (p : Port) (tag number index : Byte) (v : ValueWord) (h : s.gear.sound) :
    Instr.Turns (.setParameter p tag number index v) s := by
  refine .request rfl h fun u hu => ?_
  split
  · exact hu
  · split
    · exact hu
    · split
      · exact hu
      · rename_i n i _ _ _
        have effects : (paramEffects n (u.setStore { u.store with profile := u.store.profile.setParam n i v.toInt })).gear.sound := by
          unfold paramEffects
          repeat' split
          · exact hu
          · exact hu
          · exact hu
          · exact testTravel_sound (s := u.setStore _) hu
          · exact hu
        unfold setParameter
        dsimp only
        split
        · rw [askGrant_gear]
          exact effects
        · exact effects

theorem postOrOwe_gear (p : Port) (slot : Nat) (s : State) : (postOrOwe p slot s).gear = s.gear := by
  unfold postOrOwe
  split
  · exact post_gear _ _ _ _
  · cases p <;> rfl

theorem goodLoad_sound (slot : Nat) (pr : Profile) (h : s.gear.sound) : (goodLoad slot pr s).gear.sound := by
  unfold goodLoad
  refine testTravel_sound ?_
  split <;> exact h

theorem completeLoad_sound (slot : Nat) (loaded : Option Profile) (h : s.gear.sound) : (completeLoad slot loaded s).gear.sound := by
  have effects : (loadEffects s).gear.sound := h
  unfold completeLoad
  split
  · exact advance_sound (goodLoad_sound _ _ effects)
  · unfold badLoad
    rw [postOrOwe_gear, postOrOwe_gear]
    exact effects

theorem exec_profileLoadComplete_turns (b : Option Byte) (image : Option (List Byte)) (h : s.gear.sound) :
    Instr.Turns (.profileLoadComplete b image) s := by
  refine ⟨_, rfl, ?_⟩
  split
  · dsimp only
    split
    · exact completeLoad_sound _ _ h
    · rw [askGrant_gear]
      exact completeLoad_sound _ _ h
  all_goals exact h

theorem exec_profileSaveComplete_turns (image : Option (List Byte)) (h : s.gear.sound) : Instr.Turns (.profileSaveComplete image) s := by
  refine ⟨_, rfl, ?_⟩
  split
  · have advanced : (advance (s.setStore { s.store with state := .ready })).gear.sound := advance_sound (s := s.setStore _) h
    dsimp only
    rw [answerPending_gear]
    split
    · exact advanced
    · rw [postFault_gear]
      exact advanced
  all_goals exact h

theorem exec_selectProfile_turns (p : Port) (tag slot : Byte) (h : s.gear.sound) : Instr.Turns (.selectProfile p tag slot) s := by
  refine .request rfl h fun u hu => ?_
  repeat' split
  all_goals exact hu

theorem exec_saveProfile_turns (p : Port) (tag slot : Byte) (h : s.gear.sound) : Instr.Turns (.saveProfile p tag slot) s := by
  refine .request rfl h fun u hu => ?_
  repeat' split
  all_goals exact hu

theorem exec_readParameter_turns (p : Port) (tag number index : Byte) (h : s.gear.sound) :
    Instr.Turns (.readParameter p tag number index) s := by
  refine .request rfl h fun u hu => ?_
  repeat' split
  all_goals exact hu

/-! ### The table -/

theorem askForEntry_gear (p : Port) (tag : Byte) (a z : Nat) (op : TableOp) (s : State) : (askForEntry p tag a z op s).gear = s.gear := by
  unfold askForEntry
  split <;> simp

theorem expireHold_gear (s : State) : (expireHold s).gear = s.gear := State.gear_of_aside (expireHold_aside s)

theorem setArbitration_gear (x : PerClient Nat) (on : Bool) (hold : Nat) (s : State) : (setArbitration x on hold s).gear = s.gear := by
  unfold setArbitration reexamineHold
  dsimp only
  split
  · split
    · exact (State.gear_of_aside (startHold_aside _)).trans rfl
    · rfl
  · split <;> rfl
  · split <;> rfl

theorem exec_setArbitration_turns (q : Port) (tag e w d p on hold : Byte) (h : s.gear.sound) :
    Instr.Turns (.setArbitration q tag e w d p on hold) s := by
  refine .request rfl h fun u hu => ?_
  split
  · dsimp only
    rw [reply_gear, setArbitration_gear]
    exact hu
  · exact hu

theorem exec_discardStaged_turns (p : Port) (tag form head zone : Byte) (h : s.gear.sound) :
    Instr.Turns (.discardStaged p tag form head zone) s := by
  refine .request rfl h fun u hu => ?_
  split
  · exact hu
  · rwa [askGrant_gear]
  · rwa [askForEntry_gear]

theorem exec_seedEntry_turns (p : Port) (tag head zone form : Byte) (count : CountWord) (h : s.gear.sound) :
    Instr.Turns (.seedEntry p tag head zone form count) s := by
  refine .request rfl h fun u hu => ?_
  split
  · exact hu
  · rwa [askForEntry_gear]
  · rwa [askForEntry_gear]

theorem exec_readTable_turns (p : Port) (tag start count : Byte) (h : s.gear.sound) : Instr.Turns (.readTable p tag start count) s := by
  refine .request rfl h fun u hu => ?_
  split
  · exact hu
  · dsimp only
    rwa [askGrant_gear]

theorem exec_readNext_turns (p : Port) (tag : Byte) (h : s.gear.sound) : Instr.Turns (.readNext p tag) s := by
  refine .request rfl h fun u hu => ?_
  split
  · exact hu
  · rwa [askGrant_gear]

theorem exec_holdTimerExpiry_turns (n : Nat) (h : s.gear.sound) : Instr.Turns (.holdTimerExpiry n) s := by
  refine ⟨_, rfl, ?_⟩
  split
  · rw [expireHold_gear, State.gear_of_aside (proceed_aside n s)]
    exact h
  · exact h
  · exact h

theorem endOperation_gear (p : Port) (op : TableOp) (s : State) : (endOperation p op s).gear = s.gear := by
  unfold endOperation
  split
  case h_1 =>
    unfold endPublish
    rw [answerPending_gear, postWD_gear, release_gear]
    rfl
  case h_6 =>
    unfold endClearEntry
    split
    · rw [answerPending_gear, release_gear]
      rfl
    · rw [answerPending_gear, release_gear]
  case h_10 | h_11 | h_12 | h_13 | h_14 => rfl
  all_goals exact ((answerPending_gear _ _ _).trans (release_gear _)).trans rfl

theorem exec_tableOperationEnd_turns (h : s.gear.sound) : Instr.Turns .tableOperationEnd s := by
  refine ⟨_, rfl, ?_⟩
  split
  · split
    · rw [endOperation_gear]
      exact h
    · exact h
  · exact h

/-! ### Requests and events that leave the gear alone -/

theorem exec_setWindow_turns (p : Port) (tag target base size : Byte) (h : s.gear.sound) :
    Instr.Turns (.setWindow p tag target base size) s := by
  refine .request rfl h fun u hu => ?_
  split <;> exact hu

theorem exec_detach_turns (p : Port) (tag : Byte) (h : s.gear.sound) : Instr.Turns (.detach p tag) s := by
  refine .request rfl h fun u hu => ?_
  rw [reply_gear]
  split <;> exact hu

theorem exec_takeNotice_turns (p : Port) (tag : Byte) (h : s.gear.sound) : Instr.Turns (.takeNotice p tag) s := by
  refine .request rfl h fun u hu => ?_
  split <;> exact hu

theorem exec_endService_turns (p : Port) (tag : Byte) (h : s.gear.sound) : Instr.Turns (.endService p tag) s := by
  refine .request rfl h fun u hu => ?_
  split
  · exact hu
  · rw [reply_gear, pulseIfEligible_gear]
    exact hu

theorem exec_setNoticeMask_turns (p : Port) (tag : Byte) (sources : BitVec 16) (h : s.gear.sound) :
    Instr.Turns (.setNoticeMask p tag sources) s := by
  refine .request rfl h fun u hu => ?_
  dsimp only
  rw [reply_gear, pulseIfEligible_gear]
  exact hu

theorem exec_setNoticeMode_turns (p : Port) (tag mode tracking base : Byte) (h : s.gear.sound) :
    Instr.Turns (.setNoticeMode p tag mode tracking base) s := by
  refine .request rfl h fun u hu => ?_
  split
  · dsimp only
    rw [reply_gear, setMode, pulseIfEligible_gear]
    exact hu
  · exact hu

theorem exec_takeCompletion_turns (p : Port) (tag : Byte) (h : s.gear.sound) : Instr.Turns (.takeCompletion p tag) s := by
  refine .request rfl h fun u hu => ?_
  split <;> exact hu

theorem exec_readQueue_turns (p : Port) (tag start : Byte) (h : s.gear.sound) : Instr.Turns (.readQueue p tag start) s := by
  refine .request rfl h fun u hu => ?_
  split <;> exact hu

theorem exec_home_turns (p : Port) (tag : Byte) (h : s.gear.sound) : Instr.Turns (.home p tag) s := by
  refine .request rfl h fun u hu => ?_
  split <;> exact hu

theorem exec_readPosition_turns (p : Port) (tag clear : Byte) (h : s.gear.sound) : Instr.Turns (.readPosition p tag clear) s := by
  refine .request rfl h fun u hu => ?_
  split
  · exact hu
  · exact hu
  · split <;> exact hu

theorem exec_readServo_turns (p : Port) (tag clear : Byte) (h : s.gear.sound) : Instr.Turns (.readServo p tag clear) s := by
  refine .request rfl h fun u hu => ?_
  split
  · exact hu
  · exact hu
  · split <;> exact hu

theorem exec_responseRead_turns (p : Port) (clocked : Nat) (h : s.gear.sound) : Instr.Turns (.responseRead p clocked) s := by
  refine ⟨_, rfl, ?_⟩
  split
  · split <;> exact h
  · exact h
  · exact h

theorem exec_droppedRequest_turns (p : Port) (h : s.gear.sound) : Instr.Turns (.droppedRequest p) s := by
  refine ⟨_, rfl, ?_⟩
  split <;> exact h

theorem exec_frameError_turns (p : Port) (bytes : List Byte) (h : s.gear.sound) : Instr.Turns (.frameError p bytes) s := by
  refine ⟨_, rfl, ?_⟩
  split
  · exact h
  · split <;> exact h

theorem exec_attnPulseEnd_turns (p : Port) (h : s.gear.sound) : Instr.Turns (.attnPulseEnd p) s := by
  refine ⟨_, rfl, ?_⟩
  split <;> exact h

theorem exec_attnSecondPulse_turns (p : Port) (h : s.gear.sound) : Instr.Turns (.attnSecondPulse p) s := by
  refine ⟨_, rfl, ?_⟩
  split <;> exact h

/-- Right after the release of RESETn the engine is IDLE, both handshakes are NONE and no timer runs. -/
theorem exec_resetnRelease_turns (s : State) : Instr.Turns .resetnRelease s :=
  ⟨_, rfl, .of_resting ⟨⟨rfl, rfl⟩, by simp [State.gear, State.reset, PositionFrame.reset], rfl, rfl⟩ rfl rfl nofun ⟨rfl, rfl⟩⟩

/-! ### Together -/

theorem exec_turns (i : Instr) (h : s.gear.sound) : Instr.Turns i s := by
  cases i
  case resetnRelease => exact exec_resetnRelease_turns s
  case attach => exact exec_attach_turns _ _ h
  case detach => exact exec_detach_turns _ _ h
  case identify => exact .request rfl h fun u hu => hu
  case setWindow => exact exec_setWindow_turns _ _ _ _ _ h
  case resetPort => exact exec_resetPort_turns _ _ _ h
  case takeNotice => exact exec_takeNotice_turns _ _ h
  case endService => exact exec_endService_turns _ _ h
  case setNoticeMask => exact exec_setNoticeMask_turns _ _ _ h
  case setNoticeMode => exact exec_setNoticeMode_turns _ _ _ _ _ h
  case takeCompletion => exact exec_takeCompletion_turns _ _ h
  case submitMeasure => exact exec_submitMeasure_turns _ _ _ _ _ _ h
  case submitSweep => exact exec_submitSweep_turns _ _ _ _ _ _ _ _ h
  case submitReferenceCheck => exact exec_submitReferenceCheck_turns _ _ _ h
  case submitMove => exact exec_submitMove_turns _ _ _ h
  case cancel => exact exec_cancel_turns _ _ _ _ h
  case cancelGroup => exact .request rfl h fun u hu => cancelGroupForm_sound _ _ _ hu
  case readQueue => exact exec_readQueue_turns _ _ _ h
  case resumeEngine => exact exec_resumeEngine_turns _ _ h
  case takeMove => exact exec_takeMove_turns _ _ h
  case moveDone => exact exec_moveDone_turns _ _ _ h
  case moveRefused => exact exec_moveRefused_turns _ _ _ _ h
  case takeHeadRequest => exact exec_takeHeadRequest_turns _ _ h
  case headSelected => exact exec_headSelected_turns _ _ _ _ h
  case headRefused => exact exec_headRefused_turns _ _ _ _ h
  case readHandshake => exact .request rfl h fun u hu => hu
  case home => exact exec_home_turns _ _ h
  case readPosition => exact exec_readPosition_turns _ _ _ h
  case readServo => exact exec_readServo_turns _ _ _ h
  case publish => exact .request rfl h fun u hu => by rwa [askGrant_gear]
  case discardStaged => exact exec_discardStaged_turns _ _ _ _ _ h
  case seedEntry => exact exec_seedEntry_turns _ _ _ _ _ _ h
  case clearEntry => exact .request rfl h fun u hu => by rwa [askForEntry_gear]
  case clearBench => exact exec_clearBench_turns _ _ h
  case readEntry => exact .request rfl h fun u hu => by rwa [askForEntry_gear]
  case readTable => exact exec_readTable_turns _ _ _ _ h
  case readNext => exact exec_readNext_turns _ _ h
  case setArbitration => exact exec_setArbitration_turns _ _ _ _ _ _ _ _ h
  case readArbitration => exact .request rfl h fun u hu => hu
  case selectProfile => exact exec_selectProfile_turns _ _ _ h
  case saveProfile => exact exec_saveProfile_turns _ _ _ h
  case setParameter => exact exec_setParameter_turns _ _ _ _ _ h
  case readParameter => exact exec_readParameter_turns _ _ _ _ h
  case responseRead => exact exec_responseRead_turns _ _ h
  case droppedRequest => exact exec_droppedRequest_turns _ h
  case frameError => exact exec_frameError_turns _ _ h
  case profileLoadComplete => exact exec_profileLoadComplete_turns _ _ h
  case profileSaveComplete => exact exec_profileSaveComplete_turns _ h
  case wedgeRecord => exact ⟨_, rfl, wedgeArrival_sound (s := startWindow s) _ h⟩
  case wedgeWindowExpiry => exact exec_wedgeWindowExpiry_turns h
  case indexPulse => exact exec_indexPulse_turns h
  case servoLossTimeoutExpiry => exact exec_servoLossTimeoutExpiry_turns h
  case sampleTake => exact exec_sampleTake_turns h
  case filterSample => exact exec_filterSample_turns _ _ _ _ h
  case settleTimerExpiry => exact exec_settleTimerExpiry_turns h
  case moveTimeoutExpiry => exact exec_moveTimeoutExpiry_turns h
  case headSelectTimeoutExpiry => exact exec_headSelectTimeoutExpiry_turns h
  case headSettleTimerExpiry => exact exec_headSettleTimerExpiry_turns h
  case holdTimerExpiry => exact exec_holdTimerExpiry_turns _ h
  case attnPulseEnd => exact exec_attnPulseEnd_turns _ h
  case e0Lookup => exact exec_e0Lookup_turns h
  case commit => exact exec_commit_turns h
  case groupEndPublish => exact exec_groupEndPublish_turns h
  case blockReadAssembly => exact ⟨_, rfl, (State.gear_of_aside (completeAssembly_aside s)).symm ▸ h⟩
  case tableOperationEnd => exact exec_tableOperationEnd_turns h
  case attnSecondPulse => exact exec_attnSecondPulse_turns _ h

/-! ### Time -/

theorem Timer.tick_eq_stopped {x : Timer} : x.tick = .stopped ↔ x = .stopped := by cases x <;> simp [Timer.tick]

theorem Timer.tick_running {x : Timer} : (∃ n, x.tick = .running n) ↔ ∃ n, x = .running n := by cases x <;> simp [Timer.tick]

theorem Timer.tick_paused {x : Timer} : (∃ n, x.tick = .paused n) ↔ ∃ n, x = .paused n := by cases x <;> simp [Timer.tick]

/-- A microsecond keeps every timer in its kind. -/
theorem Gear.sound.ticked {g : Gear} (h : g.sound) : ({ g with
    moveTimeout := g.moveTimeout.tick, headTimeout := g.headTimeout.tick, headSettle := g.headSettle.tick
    settleTimer := g.settleTimer.tick } : Gear).sound := by
  obtain ⟨⟨move, settle, head⟩, manned, free⟩ := h
  refine ⟨⟨?_, Timer.tick_running.trans settle, ?_⟩, manned, free⟩
  · unfold moveSound at move ⊢
    simp only [Timer.tick_eq_stopped, Timer.tick_running, Timer.tick_paused]
    exact move
  · unfold headSound at head ⊢
    simp only [Timer.tick_eq_stopped, Timer.tick_running]
    exact head

theorem assemble_gear (s : State) : (assemble s).gear = s.gear := by
  have proceeded := State.gear_of_aside (proceed_aside (Config.indicesVisited s.draws % 193) s)
  unfold assemble
  split
  · exact proceeded
  · rfl

theorem idleStep_sound (h : s.gear.sound) : (idleStep s).gear.sound := by
  have assembled : (assemble s).gear.sound := assemble_gear s ▸ h
  unfold idleStep
  split
  · exact h
  · exact assembled.ticked

/-- Settles O56: the gear is sound after every command and every microsecond. -/
theorem engineAndHandshakesKept : Obligations.EngineAndHandshakesKept := by
  intro s t he hh hstep
  have h : s.gear.sound := s.gear_sound_iff.mpr ⟨he, hh⟩
  refine t.gear_sound_iff.mp ?_
  obtain ⟨i, rest, -, hx⟩ | ⟨-, rfl⟩ := step_cases hstep
  · obtain ⟨u, hu, sound⟩ := exec_turns (s := { s with pending := rest }) i h
    rw [hx] at hu
    cases hu
    exact sound
  · exact idleStep_sound h

end Sys2Proof.Machine
end

section
/-! SUPPORT. The arithmetic of the search: bounds of a sample, roundings, and where targets lie (R40, R45 to R47, R74 to R76). -/

namespace Sys2Proof.Machine

/-! ### Classification (R73 to R76) -/

/-- A value of a burst pair is at most 2048 in magnitude, because the difference of a pair is at most its sum. -/
theorem burstValue_natAbs_le (x y : BitVec 12) : (burstValue x y).natAbs ≤ 2048 := by
  unfold burstValue
  rw [Int.natAbs_tdiv, Int.natAbs_mul]
  refine Nat.div_le_of_le_mul ?_
  have diff : ((x.toNat : Int) - y.toNat).natAbs ≤ ((x.toNat : Int) + y.toNat).natAbs := by omega
  exact Nat.mul_le_mul_right 2048 diff

theorem inTrack_bounds {floor : Nat} {r : WedgeRecord} {p : Int} (h : inTrack floor r = some p) : -2048 ≤ p ∧ p ≤ 2048 := by
  have quadrature := burstValue_natAbs_le r.c r.d
  unfold inTrack at h
  dsimp only at h
  split at h
  · cases h
    omega
  · split at h
    · cases h
    · cases h
      split <;> omega

theorem classify_accepted_bounds {floor target : Nat} {r : WedgeRecord} {ptot : Int} (h : classify floor target r = .accepted ptot) :
    -30720 ≤ ptot ∧ ptot ≤ 30720 := by
  unfold classify at h
  split at h
  · cases h
  · split at h
    · cases h
    · split at h
      · cases h
      · rename_i p hp
        have track := inTrack_bounds hp
        split at h
        · cases h
        · dsimp only at h
          split at h
          · cases h
          · cases h
            omega

/-! ### Roundings (R40, R47) -/

/-- The mean is within half a sample of the exact quotient, the upper half included (R40). -/
theorem dwellMean_bounds (sum : Int) {n : Nat} (hn : 1 ≤ n) :
    2 * sum - n < 2 * (n * dwellMean sum n) ∧ 2 * (n * dwellMean sum n) ≤ 2 * sum + n := by
  have pos : (0 : Int) < n := by omega
  have low := Int.mul_ediv_self_le (x := sum + ((n / 2 : Nat) : Int)) (k := (n : Int)) (by omega)
  have high := Int.lt_mul_ediv_self_add (x := sum + ((n / 2 : Nat) : Int)) pos
  unfold dwellMean
  generalize (n : Int) * ((sum + ((n / 2 : Nat) : Int)) / (n : Int)) = product at low high
  omega

/-- A natural quotient rounded to nearest, halves up. -/
theorem rounded_bounds (a : Nat) {b : Nat} (hb : 0 < b) :
    2 * ((a : Int) - b * ((2 * a + b) / (2 * b) : Nat)).natAbs ≤ b
      ∧ (2 * ((a : Int) - b * ((2 * a + b) / (2 * b) : Nat)).natAbs = b → a < b * ((2 * a + b) / (2 * b))) := by
  have low := Nat.mul_div_le (2 * a + b) (2 * b)
  have high := Nat.lt_mul_div_succ (2 * a + b) (b := 2 * b) (by omega)
  rw [Nat.mul_add, Nat.mul_one, Nat.mul_assoc] at high
  rw [Nat.mul_assoc] at low
  push_cast [← Int.natCast_mul]
  generalize hp : b * ((2 * a + b) / (2 * b)) = product at low high
  have cast : (b : Int) * ((2 * (a : Int) + b) / (2 * b)) = product := by
    rw [← hp]
    push_cast
    rfl
  rw [cast]
  omega

/-- A quotient rounded half away from zero has the magnitude of the rounded quotient of the magnitudes, and the sign of the exact
quotient: its product with the divisor lies on the dividend's side. -/
theorem roundHalfAway_product (a b : Int) :
    (a - roundHalfAway a b * b).natAbs = ((a.natAbs : Int) - b.natAbs * ((2 * a.natAbs + b.natAbs) / (2 * b.natAbs) : Nat)).natAbs
      ∧ (roundHalfAway a b * b).natAbs = b.natAbs * ((2 * a.natAbs + b.natAbs) / (2 * b.natAbs)) := by
  have signed : roundHalfAway a b * b = if a < 0 then -((b.natAbs : Int) * ((2 * a.natAbs + b.natAbs) / (2 * b.natAbs) : Nat))
      else (b.natAbs : Int) * ((2 * a.natAbs + b.natAbs) / (2 * b.natAbs) : Nat) := by
    unfold roundHalfAway
    dsimp only
    generalize (2 * a.natAbs + b.natAbs) / (2 * b.natAbs) = q
    by_cases hb' : b < 0
    · rw [show (b.natAbs : Int) = -b by omega]
      by_cases ha : a < 0 <;> simp [ha, hb', Int.mul_comm]
    · rw [show (b.natAbs : Int) = b by omega]
      by_cases ha : a < 0 <;> simp [ha, hb', Int.mul_comm]
  rw [signed, ← Int.natCast_mul]
  generalize b.natAbs * ((2 * a.natAbs + b.natAbs) / (2 * b.natAbs)) = product
  constructor
  · split <;> omega
  · split <;> omega

/-- A correction is the exact quotient rounded to nearest, halves away from zero (R47). -/
theorem correction_bounds (mean : Int) {gain : Int} (hg : gain ≠ 0) :
    2 * (mean * 256 - correction mean gain * gain).natAbs ≤ gain.natAbs
      ∧ (2 * (mean * 256 - correction mean gain * gain).natAbs = gain.natAbs →
        (mean * 256).natAbs < (correction mean gain * gain).natAbs) := by
  obtain ⟨error, product⟩ := roundHalfAway_product (mean * 256) gain
  unfold correction
  rw [error, product]
  exact rounded_bounds _ (Int.natAbs_pos.mpr hg)

/-! ### Targets (R45, R47) -/

theorem clampInt_bounds {lo hi : Int} (h : lo ≤ hi) (x : Int) : lo ≤ clampInt lo hi x ∧ clampInt lo hi x ≤ hi := by
  unfold clampInt
  split
  · omega
  · split <;> omega

/-- A value within the range is left. -/
theorem clampInt_of_mem {lo hi x : Int} (hl : lo ≤ x) (hh : x ≤ hi) : clampInt lo hi x = x := by
  unfold clampInt
  rw [if_neg (by omega), if_neg (by omega)]

theorem stepPosition_bounds {pr : Profile} {e0 : Int} (ht : pr.travelLow < pr.travelHigh) (hs : 1 ≤ pr.step) :
    pr.stepPosition e0 ≠ e0 ∧ pr.travelLow ≤ pr.stepPosition e0 ∧ pr.stepPosition e0 ≤ pr.travelHigh := by
  have up := clampInt_bounds (Int.le_of_lt ht) (e0 + pr.step)
  have down := clampInt_bounds (Int.le_of_lt ht) (e0 - pr.step)
  unfold Profile.stepPosition Profile.clampTravel
  dsimp only
  split
  · refine ⟨?_, down⟩
    have top : clampInt pr.travelLow pr.travelHigh (e0 + pr.step) = e0 := ‹_›
    unfold clampInt at top ⊢
    split_ifs at top ⊢ <;> omega
  · exact ⟨‹_›, up⟩

/-- Clamping to travel keeps a position near a point of travel near it. -/
theorem clampTravel_near {pr : Profile} {e0 x d : Int} (hl : pr.travelLow ≤ e0) (hh : e0 ≤ pr.travelHigh) (h1 : e0 - d ≤ x)
    (h2 : x ≤ e0 + d) : e0 - d ≤ pr.clampTravel x ∧ pr.clampTravel x ≤ e0 + d := by
  unfold Profile.clampTravel clampInt
  split
  · omega
  · split <;> omega

theorem estimate_bounds {pr : Profile} {e0 : Int} (hl : pr.travelLow ≤ e0) (hh : e0 ≤ pr.travelHigh) (here mean gain : Int) :
    pr.travelLow ≤ (pr.estimate e0 here mean gain).1 ∧ (pr.estimate e0 here mean gain).1 ≤ pr.travelHigh
      ∧ e0 - pr.searchRange ≤ (pr.estimate e0 here mean gain).1 ∧ (pr.estimate e0 here mean gain).1 ≤ e0 + pr.searchRange := by
  have travel : ∀ x, pr.travelLow ≤ pr.clampTravel x ∧ pr.clampTravel x ≤ pr.travelHigh := clampInt_bounds (Int.le_trans hl hh)
  have near : ∀ x, e0 - pr.searchRange ≤ x → x ≤ e0 + pr.searchRange → pr.travelLow ≤ pr.clampTravel x
      ∧ pr.clampTravel x ≤ pr.travelHigh ∧ e0 - pr.searchRange ≤ pr.clampTravel x ∧ pr.clampTravel x ≤ e0 + pr.searchRange :=
    fun x h1 h2 => ⟨(travel x).1, (travel x).2, clampTravel_near hl hh h1 h2⟩
  unfold Profile.estimate
  dsimp only
  split
  · exact near _ (by omega) (by omega)
  · split
    · exact near _ (by omega) (by omega)
    · exact near _ (by omega) (by omega)

/-- Settles O37: bound by bound. -/
theorem searchArithmetic : Obligations.SearchArithmetic :=
  ⟨fun _ _ _ _ _ h => classify_accepted_bounds h, fun sum _ hn => dwellMean_bounds sum hn,
   fun _ _ _ _ => clampInt_bounds (by decide) _, fun mean _ hg => correction_bounds mean hg,
   fun _ _ ht hl hh hs => by
    obtain ⟨differs, low, high⟩ := stepPosition_bounds ht hs
    exact ⟨differs, low, high, estimate_bounds hl hh⟩⟩

end Sys2Proof.Machine
end

section
/-! SUPPORT. The jobs, the engine, the samples and the completion lists as one bundle, and the Handshake Unit: what the operations on
requests, notices and the grant leave of them and what they do to them (R52 to R55, R100 to R117). -/

namespace Sys2Proof.Machine

variable {s t : State} {r : SearchRecord} {p q : Port} {o : JobOutcome}

/-! ### The shop -/

/-- What jobs come and go through: the queue, the stack, the entries' statuses, the engine, the Sample Path and the completion lists. -/
structure Shop where
  jobs : JobQueue
  stack : List SearchRecord
  statuses : Vector EntryStatus 192
  engine : Engine
  sample : SamplePath
  completions : Port → List CompletionRecord

/-- The shop of a state. -/
def State.shop (s : State) : Shop := ⟨s.jobs, s.stack, s.statuses, s.engine, s.sample, fun p => (s.port p).completions⟩

theorem State.jobs_of_shop (h : t.shop = s.shop) : t.jobs = s.jobs := congrArg Shop.jobs h
theorem State.stack_of_shop (h : t.shop = s.shop) : t.stack = s.stack := congrArg Shop.stack h
theorem State.statuses_of_shop (h : t.shop = s.shop) : t.statuses = s.statuses := congrArg Shop.statuses h
theorem State.engine_of_shop (h : t.shop = s.shop) : t.engine = s.engine := congrArg Shop.engine h
theorem State.sample_of_shop (h : t.shop = s.shop) : t.sample = s.sample := congrArg Shop.sample h
theorem State.completions_of_shop (h : t.shop = s.shop) (p : Port) : (t.port p).completions = (s.port p).completions :=
  congrFun (congrArg Shop.completions h) p

theorem State.shop_of_mute (h : t.mute = s.mute) : t.shop = s.shop := by
  simp only [State.shop, State.jobs_of_mute h, State.stack_of_mute h, State.statuses_of_mute h, State.engine_of_mute h,
    State.sample_of_mute h, State.completions_of_mute h]

theorem State.shop_of_aside (h : t.aside = s.aside) : t.shop = s.shop := by
  have completions : ∀ p, (t.port p).completions = (s.port p).completions := fun p =>
    (congrArg LinkPort.completions (State.port_of_aside h p)).trans rfl
  simp only [State.shop, State.jobs_of_aside h, State.stack_of_aside h, State.statuses_of_aside h, State.engine_of_aside h,
    State.sample_of_aside h, completions]

/-! ### What leaves the shop alone -/

@[simp] theorem post_shop (src : Source) (d : Detail) (p : Port) (s : State) : (post src d p s).shop = s.shop := State.shop_of_mute (by simp)
@[simp] theorem postFault_shop (d : Detail) (s : State) : (postFault d s).shop = s.shop := State.shop_of_mute (by simp)
@[simp] theorem setMove_shop (m : Option MoveRequest) (s : State) : (setMove m s).shop = s.shop := (State.shop_of_mute (setMove_mute m s)).trans rfl
@[simp] theorem setHead_shop (x : Option HeadRequest) (s : State) : (setHead x s).shop = s.shop := (State.shop_of_mute (setHead_mute x s)).trans rfl
@[simp] theorem setHandshake_shop (s : State) (h : HandshakeUnit) : (s.setHandshake h).shop = s.shop := rfl
@[simp] theorem setFrame_shop (s : State) (f : PositionFrame) : (s.setFrame f).shop = s.shop := rfl
@[simp] theorem dropHome_shop (s : State) : (dropHome s).shop = s.shop := rfl
@[simp] theorem askGrant_shop (c : Client) (op : TableOp) (s : State) : (askGrant c op s).shop = s.shop :=
  State.shop_of_aside (askGrant_aside c op s)
@[simp] theorem release_shop (s : State) : (release s).shop = s.shop := State.shop_of_aside (release_aside s)
@[simp] theorem answer_shop (p : Port) (tag : Byte) (a : Answer) (s : State) : (answer p tag a s).shop = s.shop :=
  State.shop_of_aside (answer_aside p tag a s)
@[simp] theorem reply_shop (p : Port) (tag : Byte) (l : List Byte) (s : State) : (reply p tag l s).shop = s.shop := answer_shop p tag _ s
@[simp] theorem setSlot_shop (s : State) (p : Port) (x : Slot) : (s.setSlot p x).shop = s.shop := State.shop_of_aside (setSlot_aside s p x)

@[simp] theorem withdrawLookUp_shop (s : State) : (withdrawLookUp s).shop = s.shop := by
  unfold withdrawLookUp
  split
  · exact State.shop_of_aside (withdrawAsk_aside .engine s)
  · rfl

@[simp] theorem endMove_shop (e : MoveEnd) (s : State) : (endMove e s).shop = s.shop := by
  unfold endMove
  split
  · rfl
  · exact (setMove_shop _ _).trans rfl

@[simp] theorem endHead_shop (e : HeadEnd) (s : State) : (endHead e s).shop = s.shop := by
  unfold endHead
  split
  · rfl
  · exact (setHead_shop _ _).trans rfl

@[simp] theorem withdrawMove_shop (c : Cause) (s : State) : (withdrawMove c s).shop = s.shop := by
  unfold withdrawMove
  split
  · rfl
  · rw [postMoveWithdrawn, post_shop, endMove_shop]

@[simp] theorem withdrawHead_shop (c : Cause) (s : State) : (withdrawHead c s).shop = s.shop := by
  unfold withdrawHead
  split
  · rfl
  · rw [postHeadWithdrawn, post_shop, endHead_shop]

@[simp] theorem timeOutMove_shop (s : State) : (timeOutMove s).shop = s.shop := by
  unfold timeOutMove
  split
  · rfl
  · rw [postMoveWithdrawn, post_shop, endMove_shop]

@[simp] theorem timeOutHead_shop (s : State) : (timeOutHead s).shop = s.shop := by
  unfold timeOutHead
  split
  · rfl
  · rw [postHeadWithdrawn, post_shop, endHead_shop]

@[simp] theorem withdrawBoth_shop (c : Cause) (s : State) : (withdrawBoth c s).shop = s.shop := by simp [withdrawBoth]

@[simp] theorem releaseBoth_shop (s : State) : (releaseBoth s).shop = s.shop := by simp [releaseBoth, releaseHead, releaseMove]

@[simp] theorem placeHeadFor_shop (head job : Nat) (s : State) : (placeHeadFor head job s).shop = s.shop :=
  (State.shop_of_mute (placeHeadFor_mute head job s)).trans rfl

@[simp] theorem setMovePhase_shop (ph : MovePhase) (s : State) : (setMovePhase ph s).shop = s.shop := by
  unfold setMovePhase
  split
  · rfl
  · exact setMove_shop _ _

@[simp] theorem setHeadPhase_shop (ph : HeadPhase) (s : State) : (setHeadPhase ph s).shop = s.shop := by
  unfold setHeadPhase
  split
  · rfl
  · exact setHead_shop _ _

/-! ### What changes the shop -/

@[simp] theorem setEngineState_shop (e : EngineState) (s : State) :
    (setEngineState e s).shop = { s.shop with engine := { s.engine with state := e } } := rfl

@[simp] theorem setStatus_shop (w : JobWork) (st : EntryStatus) (s : State) :
    (setStatus w st s).shop = { s.shop with statuses := w.mark st s.statuses } := by
  rw [setStatus_eq]
  rfl

/-- Free slots are told to the armed ports, which are no longer armed then (R128). -/
@[simp] theorem postSpace_shop (s : State) :
    (postSpace s).shop = { s.shop with jobs := { s.jobs with spaceW := false, spaceP := false } } :=
  (State.shop_of_mute (postSpace_mute s)).trans rfl

/-- A move is placed for the record whose target is clamped; of the jobs nothing else changes (R102). -/
theorem placeMove_shop (h : s.engine.active = some r) : (placeMove s).shop = (s.aimed r).shop :=
  (State.shop_of_mute (placeMove_mute h)).trans (endMove_shop .released (s.aimed r))

/-- The Sample Path of an engine state that is left: leaving DWELL flushes the FIFO (R72). -/
def SamplePath.left (sp : SamplePath) (e : EngineState) : SamplePath := if e = .dwell then { sp with fifo := [] } else sp

/-- The dwell in progress is abandoned with its samples (R42, R72). -/
theorem dropDwell_shop (s : State) : (dropDwell s).shop
    = { s.shop with engine := { s.engine with dwell := s.engine.dwell.cleared }, sample := s.sample.left s.engine.state } := by
  unfold dropDwell SamplePath.left
  dsimp only
  split <;> rfl

theorem leaveWork_shop (s : State) : (leaveWork s).shop
    = { s.shop with engine := { s.engine with dwell := s.engine.dwell.cleared }, sample := s.sample.left s.engine.state } := by
  rw [leaveWork, withdrawLookUp_shop, dropDwell_shop]

theorem clearActive_shop (r : SearchRecord) (s : State) : (clearActive r s).shop = { s.shop with
    statuses := r.job.work.mark .idle s.statuses
    engine := { s.engine with active := none, staging := none, clearPending := false } } := by
  unfold clearActive
  rw [setStatus_eq]
  rfl

/-- The lists after a record has been written for a job: it joins its port's list where there is room (R181). -/
def joinLists (j : JobRecord) (c : CompletionRecord) (l : Port → List CompletionRecord) : Port → List CompletionRecord := fun q =>
  if q = j.submitter.port ∧ (l q).length < 8 then l q ++ [c] else l q

theorem writeRecord_shop (j : JobRecord) (c : CompletionRecord) (s : State) :
    (writeRecord j c s).shop = { s.shop with completions := joinLists j c s.shop.completions } := by
  unfold writeRecord
  by_cases h : (s.port j.submitter.port).completions.length < 8
  · rw [State.shop_of_mute (writeCompletion_mute_room h)]
    have lists : ∀ q, ((s.setCompletions j.submitter.port ((s.port j.submitter.port).completions ++ [c])).port q).completions
        = joinLists j c s.shop.completions q := fun q => by
      unfold State.setCompletions joinLists State.shop
      rw [State.port_setPort_eq]
      by_cases hq : q = j.submitter.port
      · subst hq
        simp [h]
      · simp [hq]
    simp only [State.shop, lists]
    rfl
  · rw [writeCompletion_full (Nat.not_lt.mp h)]
    have lists : ∀ q, ((s.setPort j.submitter.port { s.port j.submitter.port with
        overflow := satSucc 255 (s.port j.submitter.port).overflow }).port q).completions = joinLists j c s.shop.completions q := fun q => by
      unfold joinLists State.shop
      rw [State.port_setPort_eq]
      by_cases hq : q = j.submitter.port
      · subst hq
        simp [h]
      · simp [hq]
    simp only [State.shop, lists]
    rfl

/-! ### The Handshake Unit -/

/-- The move request ends, if there is one (R105 to R108). -/
def HandshakeUnit.endMove (e : MoveEnd) (h : HandshakeUnit) : HandshakeUnit :=
  match h.move with
  | none => h
  | some m => { h with move := none, lastMoveEnd := some (e, m.sequence), moveTimeout := .stopped }

/-- The head request ends, if there is one (R111 to R116). -/
def HandshakeUnit.endHead (e : HeadEnd) (h : HandshakeUnit) : HandshakeUnit :=
  match h.head with
  | none => h
  | some x => { h with head := none, lastHeadEnd := some (e, x.sequence), headTimeout := .stopped, headSettle := .stopped }

theorem HandshakeUnit.endMove_none {h : HandshakeUnit} {e : MoveEnd} (hm : h.move = none) : h.endMove e = h := by
  simp only [HandshakeUnit.endMove, hm]

theorem HandshakeUnit.endMove_some {h : HandshakeUnit} {e : MoveEnd} {m : MoveRequest} (hm : h.move = some m) :
    h.endMove e = { h with move := none, lastMoveEnd := some (e, m.sequence), moveTimeout := .stopped } := by
  simp only [HandshakeUnit.endMove, hm]

theorem HandshakeUnit.endHead_none {h : HandshakeUnit} {e : HeadEnd} (hx : h.head = none) : h.endHead e = h := by
  simp only [HandshakeUnit.endHead, hx]

theorem HandshakeUnit.endHead_some {h : HandshakeUnit} {e : HeadEnd} {x : HeadRequest} (hx : h.head = some x) :
    h.endHead e = { h with head := none, lastHeadEnd := some (e, x.sequence), headTimeout := .stopped, headSettle := .stopped } := by
  simp only [HandshakeUnit.endHead, hx]

/-- The end of a move leaves the head handshake, and after it no move is outstanding. -/
theorem HandshakeUnit.endMove_parts (h : HandshakeUnit) (e : MoveEnd) : (h.endMove e).move = none ∧ (h.endMove e).head = h.head
    ∧ (h.endMove e).lastHeadEnd = h.lastHeadEnd ∧ (h.endMove e).headSequence = h.headSequence
    ∧ (h.endMove e).moveSequence = h.moveSequence := by
  cases hm : h.move with
  | none =>
    rw [HandshakeUnit.endMove_none hm]
    exact ⟨hm, rfl, rfl, rfl, rfl⟩
  | some m =>
    rw [HandshakeUnit.endMove_some hm]
    exact ⟨rfl, rfl, rfl, rfl, rfl⟩

/-- The end of a head request leaves the move handshake, and after it no head request is outstanding. -/
theorem HandshakeUnit.endHead_parts (h : HandshakeUnit) (e : HeadEnd) : (h.endHead e).head = none ∧ (h.endHead e).move = h.move
    ∧ (h.endHead e).lastMoveEnd = h.lastMoveEnd := by
  cases hx : h.head with
  | none =>
    rw [HandshakeUnit.endHead_none hx]
    exact ⟨hx, rfl, rfl⟩
  | some x =>
    rw [HandshakeUnit.endHead_some hx]
    exact ⟨rfl, rfl, rfl⟩

@[simp] theorem endMove_handshake_eq (e : MoveEnd) (s : State) : (endMove e s).handshake = s.handshake.endMove e := by
  unfold endMove
  split
  · exact (HandshakeUnit.endMove_none ‹_›).symm
  · rw [HandshakeUnit.endMove_some ‹_›]
    exact (setMove_handshake _ _).trans rfl

@[simp] theorem endHead_handshake_eq (e : HeadEnd) (s : State) : (endHead e s).handshake = s.handshake.endHead e := by
  unfold endHead
  split
  · exact (HandshakeUnit.endHead_none ‹_›).symm
  · rw [HandshakeUnit.endHead_some ‹_›]
    exact (setHead_handshake _ _).trans rfl

@[simp] theorem withdrawMove_handshake_eq (c : Cause) (s : State) : (withdrawMove c s).handshake = s.handshake.endMove (.withdrawn c) := by
  unfold withdrawMove
  split
  · exact (HandshakeUnit.endMove_none ‹_›).symm
  · rw [postMoveWithdrawn, post_handshake, endMove_handshake_eq]

@[simp] theorem withdrawHead_handshake_eq (c : Cause) (s : State) : (withdrawHead c s).handshake = s.handshake.endHead (.withdrawn c) := by
  unfold withdrawHead
  split
  · exact (HandshakeUnit.endHead_none ‹_›).symm
  · rw [postHeadWithdrawn, post_handshake, endHead_handshake_eq]

@[simp] theorem withdrawBoth_handshake_eq (c : Cause) (s : State) :
    (withdrawBoth c s).handshake = (s.handshake.endMove (.withdrawn c)).endHead (.withdrawn c) := by simp [withdrawBoth]

@[simp] theorem releaseBoth_handshake_eq (s : State) : (releaseBoth s).handshake = (s.handshake.endMove .released).endHead .released := by
  simp [releaseBoth, releaseHead, releaseMove]

@[simp] theorem timeOutMove_handshake_eq (s : State) : (timeOutMove s).handshake = s.handshake.endMove .timedOut := by
  unfold timeOutMove
  split
  · exact (HandshakeUnit.endMove_none ‹_›).symm
  · rw [postMoveWithdrawn, post_handshake, endMove_handshake_eq]

@[simp] theorem timeOutHead_handshake_eq (s : State) : (timeOutHead s).handshake = s.handshake.endHead .timedOut := by
  unfold timeOutHead
  split
  · exact (HandshakeUnit.endHead_none ‹_›).symm
  · rw [postHeadWithdrawn, post_handshake, endHead_handshake_eq]

/-! ### What leaves the Handshake Unit alone -/

@[simp] theorem askGrant_handshake (c : Client) (op : TableOp) (s : State) : (askGrant c op s).handshake = s.handshake :=
  State.handshake_of_aside (askGrant_aside c op s)

@[simp] theorem release_handshake (s : State) : (release s).handshake = s.handshake := State.handshake_of_aside (release_aside s)

@[simp] theorem dropDwell_handshake (s : State) : (dropDwell s).handshake = s.handshake := by
  unfold dropDwell
  dsimp only
  split <;> rfl

@[simp] theorem leaveWork_handshake (s : State) : (leaveWork s).handshake = s.handshake := by
  unfold leaveWork withdrawLookUp
  split
  · rw [State.handshake_of_aside (withdrawAsk_aside .engine _), dropDwell_handshake]
  · exact dropDwell_handshake s

@[simp] theorem setStatus_handshake (w : JobWork) (st : EntryStatus) (s : State) : (setStatus w st s).handshake = s.handshake := by
  rw [setStatus_eq]

@[simp] theorem postSpace_handshake (s : State) : (postSpace s).handshake = s.handshake := (State.handshake_of_mute (postSpace_mute s)).trans rfl

@[simp] theorem writeRecord_handshake (j : JobRecord) (c : CompletionRecord) (s : State) : (writeRecord j c s).handshake = s.handshake := by
  unfold writeRecord
  by_cases h : (s.port j.submitter.port).completions.length < 8
  · exact (State.handshake_of_mute (writeCompletion_mute_room h)).trans rfl
  · rw [writeCompletion_full (Nat.not_lt.mp h), State.setPort_handshake]

@[simp] theorem memberGone_handshake (g : Option Nat) (s : State) : (memberGone g s).handshake = s.handshake := by cases g <;> rfl

@[simp] theorem countDrift_handshake (w : JobWork) (s : State) : (countDrift w s).handshake = s.handshake := by
  unfold countDrift
  split
  · split <;> rfl
  · rfl
  · rfl

@[simp] theorem acceptWith_handshake (f : JobRecord → List JobRecord → List JobRecord) (w : JobWork) (c : JobClass) (b : Submitter)
    (g l : Option Nat) (s : State) : (acceptWith f w c b g l s).handshake = s.handshake := by
  simp [acceptWith, State.setJobs]

@[simp] theorem insertCheck_handshake (s : State) : (insertCheck s).handshake = s.handshake := by
  unfold insertCheck
  split
  · rfl
  · split
    · exact (acceptWith_handshake _ _ _ _ _ _ s)
    · rfl

@[simp] theorem accountEnd_handshake (j : JobRecord) (s : State) : (accountEnd j s).handshake = s.handshake := by simp [accountEnd]

end Sys2Proof.Machine
end

section
/-! SUPPORT. The end of a job after which nothing waits, and O22 and O26 (R44, R52 to R55, R58, R105, R106, R113, R114). -/

namespace Sys2Proof.Machine

variable {s t u : State} {r : SearchRecord} {p q : Port} {o : JobOutcome}

/-! ### Nothing waits -/

/-- No work waits: nothing is queued or stacked, no group is open, no zone waits for a check, and ends count for none (R136). -/
structure State.unburdened (s : State) : Prop where
  queue : s.jobs.queue = []
  stack : s.stack = []
  groups : s.jobs.groups = []
  zone : s.jobs.pendingZone = none
  interval : s.store.profile.driftInterval = 0

theorem State.unburdened.of_parts (h : s.unburdened) (hj : t.jobs = s.jobs) (hs : t.stack = s.stack) (hp : t.store = s.store) :
    t.unburdened := by
  obtain ⟨queue, stack, groups, zone, interval⟩ := h
  exact ⟨by rw [hj, queue], by rw [hs, stack], by rw [hj, groups], by rw [hj, zone], by rw [hp, interval]⟩

theorem JobQueue.publishDue_nil {x : JobQueue} (h : x.groups = []) : x.publishDue = false := by simp [JobQueue.publishDue, h]

/-- An IDLE engine for which nothing is queued, stacked or due stays as it is. -/
theorem advance_idle_nothing (hi : s.engine.state = .idle) (hq : s.jobs.queue = []) (hs : s.stack = []) (hg : s.jobs.groups = []) :
    advance s = s := by
  simp [advance, hi, hq, hs, JobQueue.publishDue_nil hg]

/-- Without groups, a pending zone and a drift interval the end of a job is counted for nothing. -/
theorem accountEnd_nothing (hg : s.jobs.groups = []) (hz : s.jobs.pendingZone = none) (hi : s.store.profile.driftInterval = 0)
    (j : JobRecord) : accountEnd j s = s := by
  have gone : memberGone j.group s = s := by
    cases j.group with
    | none => rfl
    | some id =>
      have closed : closeMember id s.jobs.groups = s.jobs.groups := by simp [closeMember, hg]
      simp only [memberGone, closed]
      rfl
  have counted : countDrift j.work s = s := by
    unfold countDrift
    split
    · exact if_neg (by simp [hi])
    · rfl
    · rfl
  simp only [accountEnd, gone, counted, insertCheck, hz]

/-- After the last job the engine is IDLE. -/
theorem afterJob_nothing (hq : s.jobs.queue = []) (hs : s.stack = []) (hg : s.jobs.groups = []) (c : Bool) :
    afterJob false c s = s.setEngine { s.engine with state := .idle, faultPending := false } := by
  unfold afterJob
  rw [if_neg (by simp [JobQueue.publishDue_nil hg]), if_neg (by decide)]
  exact advance_idle_nothing rfl hq hs hg

/-- The state in which the active job's record has just been written: its requests withdrawn and its dwell dropped. -/
def State.recorded (s : State) (r : SearchRecord) (o : JobOutcome) : State :=
  writeRecord r.job (plainRecord r.job o r.iterations s.sample.revolutions) (withdrawBoth (.ended o) (leaveWork s))

theorem State.recorded_kept (s : State) (r : SearchRecord) (o : JobOutcome) : (s.recorded r o).kept = s.kept := by
  simp [State.recorded]

/-- The shop after the record: the dwell is dropped and the record has joined its list. -/
theorem State.recorded_shop (s : State) (r : SearchRecord) (o : JobOutcome) : (s.recorded r o).shop = { s.shop with
    engine := { s.engine with dwell := s.engine.dwell.cleared }, sample := s.sample.left s.engine.state
    completions := joinLists r.job (plainRecord r.job o r.iterations s.sample.revolutions) s.shop.completions } := by
  rw [State.recorded, writeRecord_shop, withdrawBoth_shop, leaveWork_shop]

theorem State.recorded_handshake (s : State) (r : SearchRecord) (o : JobOutcome) : (s.recorded r o).handshake
    = (s.handshake.endMove (.withdrawn (.ended o))).endHead (.withdrawn (.ended o)) := by simp [State.recorded]

theorem State.recorded_gear (s : State) (r : SearchRecord) (o : JobOutcome) : (s.recorded r o).gear = s.gear.ended := by
  simp [State.recorded]

/-- The close of an active job that is not CLEARED, in its three steps (R52, R54, R55). -/
theorem closeJob_eq (ha : s.engine.active = some r) (ho : o ≠ .cleared) :
    closeJob o s = accountEnd r.job (clearActive r (s.recorded r o)) := by
  have stamp : (withdrawBoth (.ended o) (leaveWork s)).sample.revolutions = s.sample.revolutions :=
    State.revolutions_of_kept (by simp)
  simp only [closeJob, ha, if_neg ho, stamp]
  rfl

/-- The end of an active job after which nothing waits. -/
theorem endJob_last (ha : s.engine.active = some r) (hn : s.unburdened) (hf : s.engine.faultPending = false) (ho : o ≠ .cleared)
    (hi : o.isFault = false) : endJob o s = (clearActive r (s.recorded r o)).setEngine
      { (clearActive r (s.recorded r o)).engine with state := .idle, faultPending := false } := by
  have shop := (clearActive_shop r (s.recorded r o))
  have jobs : (clearActive r (s.recorded r o)).jobs = s.jobs :=
    (congrArg Shop.jobs shop).trans (congrArg Shop.jobs (s.recorded_shop r o))
  have stack : (clearActive r (s.recorded r o)).stack = s.stack :=
    (congrArg Shop.stack shop).trans (congrArg Shop.stack (s.recorded_shop r o))
  have rest : (clearActive r (s.recorded r o)).unburdened := hn.of_parts jobs stack (State.store_of_kept (by simp [s.recorded_kept]))
  have cleared : (o == .cleared) = false := by simpa using ho
  simp only [endJob, ha, hi, hf, cleared, Bool.or_false]
  rw [closeJob_eq ha ho, accountEnd_nothing rest.groups rest.zone rest.interval, afterJob_nothing rest.queue rest.stack rest.groups]

/-- What the end of the last job leaves: the engine IDLE without a job, no request, the entry IDLE, and the record. -/
structure State.EndsLast (s t : State) (r : SearchRecord) (o : JobOutcome) : Prop where
  state : t.engine.state = .idle
  active : t.engine.active = none
  handshake : t.handshake = (s.handshake.endMove (.withdrawn (.ended o))).endHead (.withdrawn (.ended o))
  statuses : t.statuses = r.job.work.mark .idle s.statuses
  completions : ∀ q, (t.port q).completions
    = joinLists r.job (plainRecord r.job o r.iterations s.sample.revolutions) (fun q => (s.port q).completions) q
  settle : t.gear.test = s.gear.ended.test

theorem endJob_endsLast (ha : s.engine.active = some r) (hn : s.unburdened) (hf : s.engine.faultPending = false) (ho : o ≠ .cleared)
    (hi : o.isFault = false) : s.EndsLast (endJob o s) r o := by
  rw [endJob_last ha hn hf ho hi]
  have shop := clearActive_shop r (s.recorded r o)
  have gear := clearActive_gear r (s.recorded r o)
  refine ⟨rfl, rfl, ?_, ?_, fun q => ?_, ?_⟩
  · exact (clearActive_handshake r _).trans (s.recorded_handshake r o)
  · refine (congrArg Shop.statuses shop).trans ?_
    exact congrArg (JobWork.mark r.job.work .idle) (congrArg Shop.statuses (s.recorded_shop r o))
  · refine (congrFun (congrArg Shop.completions shop) q).trans ?_
    exact congrFun (congrArg Shop.completions (s.recorded_shop r o)) q
  · refine (congrArg Gear.test gear).trans ?_
    have ended := congrArg Gear.test (s.recorded_gear r o)
    exact ended

/-- With an empty list the record is the only one. -/
theorem joinLists_nil {j : JobRecord} {c : CompletionRecord} {l : Port → List CompletionRecord} (h : l j.submitter.port = []) :
    joinLists j c l j.submitter.port = [c] := by
  simp [joinLists, h]

theorem joinLists_room {j : JobRecord} {c : CompletionRecord} {l : Port → List CompletionRecord}
    (h : (l j.submitter.port).length < 8) : joinLists j c l j.submitter.port = l j.submitter.port ++ [c] := by
  simp [joinLists, h]

/-! ### RESUME ENGINE (R58) -/

theorem State.conditionPresent_iff (s : State) : s.conditionPresent = true ↔ s.frame.pfault.level = true
    ∨ s.store.slot.isSome = true ∧ (s.frame.count < s.store.profile.travelLow ∨ s.store.profile.travelHigh < s.frame.count) := by
  unfold State.conditionPresent ProfileStore.inForce Profile.travelOf
  rw [Bool.or_eq_true, Bool.and_eq_true]
  refine or_congr_right (and_congr_right fun _ => ?_)
  split
  · simp [*]
  · split <;> simp [*]

/-- RESUME ENGINE as it is taken. -/
theorem exec_resumeEngine_taken (h : s.canSend .workstation) (tag : Byte) : exec (.resumeEngine .workstation tag) s = .next
    (if s.engine.state = .faultHold ∧ s.conditionPresent = true then refuse .workstation tag .conditionPresent s
      else reply .workstation tag
        (u8 (if s.engine.state = .faultHold
          then advance (setEngineState .idle (s.setSlot .workstation (.pending (.resumeEngine .workstation tag)))) else s).engine.state.code)
        (if s.engine.state = .faultHold
          then advance (setEngineState .idle (s.setSlot .workstation (.pending (.resumeEngine .workstation tag)))) else s)) := by
  refine congrArg Host.Outcome.next ((request_taken h (by simp) (by simp)).trans ?_)
  have state : (s.setSlot .workstation (.pending (.resumeEngine .workstation tag))).engine.state = s.engine.state := rfl
  have present : (s.setSlot .workstation (.pending (.resumeEngine .workstation tag))).conditionPresent = s.conditionPresent := rfl
  rw [state, present]
  split
  · exact refuse_setSlot _ _ _ _ _
  · dsimp only
    split
    · rfl
    · exact reply_setSlot _ _ _ _ _

/-- Settles O22: refused, released, or left alone. -/
theorem resumeEngine : Obligations.ResumeEngine := by
  intro tag s can
  dsimp only
  refine ⟨fun hne => ?_, fun hf condition => ?_, fun hf low inside hq hs hg => ?_⟩
  · rw [exec_resumeEngine_taken can, if_neg fun h => hne h.1, if_neg hne]
    rfl
  · rw [exec_resumeEngine_taken can, if_pos ⟨hf, s.conditionPresent_iff.mpr condition⟩]
    rfl
  · have absent : ¬(s.engine.state = .faultHold ∧ s.conditionPresent = true) := fun h =>
      (s.conditionPresent_iff.mp h.2).elim (fun hp => by rw [low] at hp; cases hp) inside
    have still := advance_idle_nothing (s := setEngineState .idle (s.setSlot .workstation (.pending (.resumeEngine .workstation tag))))
      rfl hq hs hg
    rw [exec_resumeEngine_taken can, if_neg absent, if_pos hf, still]
    exact congrArg Host.Outcome.next (reply_setSlot (setEngineState .idle s) _ _ _ _)

/-! ### The ends of jobs by refusals and timeouts (R44, R52, R105, R106, R113, R114) -/

theorem State.moveMatching_of_sequence {m : MoveRequest} {sequence : Byte} (hs : sequence ≠ 0) (hm : s.handshake.move = some m)
    (he : m.sequence = sequence.toNat) : s.moveMatching sequence = some m :=
  Option.filter_eq_some_iff.mpr ⟨hm, by simpa [he] using hs⟩

theorem State.headMatching_of_sequence {x : HeadRequest} {sequence : Byte} (hs : sequence ≠ 0) (hx : s.handshake.head = some x)
    (he : x.sequence = sequence.toNat) : s.headMatching sequence = some x :=
  Option.filter_eq_some_iff.mpr ⟨hx, by simpa [he] using hs⟩

/-- MOVE REFUSED of the outstanding move (R105). -/
theorem exec_moveRefused_taken {m : MoveRequest} {tag sequence reason : Byte} (h : s.canSend .positioner) (hs : sequence ≠ 0)
    (hm : s.handshake.move = some m) (he : m.sequence = sequence.toNat) (hp : m.phase = .requested ∨ m.phase = .taken) :
    exec (.moveRefused .positioner tag sequence reason) s = .next (reply .positioner tag []
      (refuseMove reason (s.setSlot .positioner (.pending (.moveRefused .positioner tag sequence reason))))) := by
  refine congrArg Host.Outcome.next ((request_taken h (by simp) (by simp)).trans ?_)
  have found : (s.setSlot .positioner (.pending (.moveRefused .positioner tag sequence reason))).moveMatching sequence = some m :=
    State.moveMatching_of_sequence hs hm he
  rw [found]
  obtain hp | hp := hp <;> simp only [hp]

/-- HEAD REFUSED of the outstanding head request (R113). -/
theorem exec_headRefused_taken {x : HeadRequest} {tag sequence reason : Byte} (h : s.canSend .adapter) (hs : sequence ≠ 0)
    (hx : s.handshake.head = some x) (he : x.sequence = sequence.toNat) (hp : x.phase = .requested ∨ x.phase = .taken) :
    exec (.headRefused .adapter tag sequence reason) s = .next (reply .adapter tag []
      (refuseHead reason (s.setSlot .adapter (.pending (.headRefused .adapter tag sequence reason))))) := by
  refine congrArg Host.Outcome.next ((request_taken h (by simp) (by simp)).trans ?_)
  have found : (s.setSlot .adapter (.pending (.headRefused .adapter tag sequence reason))).headMatching sequence = some x :=
    State.headMatching_of_sequence hs hx he
  rw [found]
  obtain hp | hp := hp <;> simp only [hp]

/-- The loss timeout's expiry (R44, R68). -/
theorem exec_servoLossTimeoutExpiry_running {left : Nat} (h : s.sample.loss = .running left) : exec .servoLossTimeoutExpiry s
    = .next (if s.lossEnds = true then endJob .servoLost (s.setSample { s.sample with loss := .expired })
      else s.setSample { s.sample with loss := .expired }) := by
  refine congrArg Host.Outcome.next ?_
  simp only [h]
  rfl

theorem exec_moveTimeoutExpiry_running {left : Nat} (h : s.handshake.moveTimeout = .running left) :
    exec .moveTimeoutExpiry s = .next (endJob .moveTimeout (timeOutMove s)) := by
  refine congrArg Host.Outcome.next ?_
  simp only [h]

theorem exec_headSelectTimeoutExpiry_running {left : Nat} (h : s.handshake.headTimeout = .running left) :
    exec .headSelectTimeoutExpiry s = .next (endJob .headFault (timeOutHead s)) := by
  refine congrArg Host.Outcome.next ?_
  simp only [h]

/-- The last end of a move that was over before its job ended is kept. -/
theorem HandshakeUnit.lastMoveEnd_kept {h : HandshakeUnit} (hm : h.move = none) (e : MoveEnd) (e' : HeadEnd) :
    ((h.endMove e).endHead e').lastMoveEnd = h.lastMoveEnd := by
  rw [((h.endMove e).endHead_parts e').2.2, HandshakeUnit.endMove_none hm]

/-- The last end of a head request that was over before its job ended is kept. -/
theorem HandshakeUnit.lastHeadEnd_kept {h : HandshakeUnit} (hx : h.head = none) (e : MoveEnd) (e' : HeadEnd) :
    ((h.endMove e).endHead e').lastHeadEnd = h.lastHeadEnd := by
  obtain ⟨-, head, last, -⟩ := h.endMove_parts e
  rw [HandshakeUnit.endHead_none (head.trans hx), last]

theorem HandshakeUnit.both_ended (h : HandshakeUnit) (e : MoveEnd) (e' : HeadEnd) :
    ((h.endMove e).endHead e').move = none ∧ ((h.endMove e).endHead e').head = none :=
  ⟨((h.endMove e).endHead_parts e').2.1.trans (h.endMove_parts e).1, ((h.endMove e).endHead_parts e').1⟩

/-- The end of the last job, reached with its record, its list and what waits as they were. -/
theorem State.EndsLast.alone (h : u.EndsLast t r o) (hc : ∀ q, (u.port q).completions = (s.port q).completions)
    (hr : u.sample.revolutions = s.sample.revolutions) (hl : (s.port (Submitter.port r.job.submitter)).completions = []) :
    t.handshake.move = none ∧ t.handshake.head = none ∧ t.engine.state = .idle ∧ t.engine.active = none
      ∧ (t.port (Submitter.port r.job.submitter)).completions = [plainRecord r.job o r.iterations s.sample.revolutions] := by
  obtain ⟨move, head⟩ := u.handshake.both_ended (.withdrawn (.ended o)) (.withdrawn (.ended o))
  refine ⟨h.handshake ▸ move, h.handshake ▸ head, h.state, h.active, ?_⟩
  rw [h.completions, joinLists_nil ((hc _).trans hl), hr]

theorem State.lossEnds_eq_false (h : s.measuring = false ∨ s.engine.state ∈ [.idle, .moveWait, .commit, .publish, .faultHold]
    ∨ (s.engine.state = .headWait ∧ ∀ x, s.handshake.head = some x → x.phase ≠ .delay)) : s.lossEnds = false := by
  unfold State.lossEnds
  obtain h | h | ⟨h, hx⟩ := h
  · simp [h]
  · cases he : s.engine.state <;> simp_all
  · rw [h]
    cases hh : s.handshake.head with
    | none => simp
    | some x => simp [hx x hh]

/-- Settles O26: each ends the job with the requests ended first, and the servo loss timeout ends none elsewhere. -/
theorem jobEndings : Obligations.JobEndings := by
  refine ⟨fun tag sequence reason r s ha hw hq hs hg hz hi hf hl => ?_, fun left s hl hn => ?_⟩
  · have rest : s.unburdened := ⟨hq, hs, hg, hz, hi⟩
    have ended : ∀ (u : State) (o : JobOutcome), u.shop = s.shop → u.store = s.store → o ≠ .cleared → o.isFault = false →
        u.EndsLast (endJob o u) r o ∧ ∀ t, u.EndsLast t r o → t.handshake.move = none ∧ t.handshake.head = none
          ∧ t.engine.state = .idle ∧ t.engine.active = none ∧ (t.port (Submitter.port r.job.submitter)).completions
            = [plainRecord r.job o r.iterations s.sample.revolutions] := fun u o hu hp ho hof =>
      ⟨endJob_endsLast (by rw [State.engine_of_shop hu, ha]) (rest.of_parts (State.jobs_of_shop hu) (State.stack_of_shop hu) hp)
        (by rw [State.engine_of_shop hu, hf]) ho hof,
       fun t ht => ht.alone (State.completions_of_shop hu) (by rw [State.sample_of_shop hu]) hl⟩
    refine ⟨fun m can hne hm he hp => ?_, fun x can hne hx he hp => ?_, fun m left hm ht => ?_, fun x left hx ht => ?_,
      fun left hloss hmeasure hwhere => ?_⟩
    · obtain ⟨last, alone⟩ := ended (endMove (.refused reason.toNat)
        (s.setSlot .positioner (.pending (.moveRefused .positioner tag sequence reason)))) .moveTimeout (by simp)
        (State.store_of_kept (by simp)) nofun rfl
      obtain ⟨move, head, state, active, list⟩ := alone _ last
      refine ⟨_, exec_moveRefused_taken can hne hm he hp, move, head, ?_, state, active, ?_⟩
      · refine (congrArg HandshakeUnit.lastMoveEnd last.handshake).trans ?_
        rw [endMove_handshake_eq, State.setSlot_handshake, HandshakeUnit.lastMoveEnd_kept (s.handshake.endMove_parts _).1,
          HandshakeUnit.endMove_some hm]
      · exact (State.completions_of_shop (reply_shop _ _ _ _) _).trans list
    · obtain ⟨last, alone⟩ := ended (endHead (.refused reason.toNat)
        (s.setSlot .adapter (.pending (.headRefused .adapter tag sequence reason)))) .headFault (by simp)
        (State.store_of_kept (by simp)) nofun rfl
      obtain ⟨move, head, state, active, list⟩ := alone _ last
      refine ⟨_, exec_headRefused_taken can hne hx he hp, move, head, ?_, state, active, ?_⟩
      · refine (congrArg HandshakeUnit.lastHeadEnd last.handshake).trans ?_
        rw [endHead_handshake_eq, State.setSlot_handshake, HandshakeUnit.lastHeadEnd_kept (s.handshake.endHead_parts _).1,
          HandshakeUnit.endHead_some hx]
      · exact (State.completions_of_shop (reply_shop _ _ _ _) _).trans list
    · obtain ⟨last, alone⟩ := ended (timeOutMove s) .moveTimeout (by simp) (State.store_of_kept (by simp)) nofun rfl
      obtain ⟨move, head, state, active, list⟩ := alone _ last
      refine ⟨_, exec_moveTimeoutExpiry_running ht, move, head, ?_, state, active, list⟩
      refine (congrArg HandshakeUnit.lastMoveEnd last.handshake).trans ?_
      rw [timeOutMove_handshake_eq, HandshakeUnit.lastMoveEnd_kept (s.handshake.endMove_parts _).1,
        HandshakeUnit.endMove_some hm]
    · obtain ⟨last, alone⟩ := ended (timeOutHead s) .headFault (by simp) (State.store_of_kept (by simp)) nofun rfl
      obtain ⟨move, head, state, active, list⟩ := alone _ last
      refine ⟨_, exec_headSelectTimeoutExpiry_running ht, move, head, ?_, state, active, list⟩
      refine (congrArg HandshakeUnit.lastHeadEnd last.handshake).trans ?_
      rw [timeOutHead_handshake_eq, HandshakeUnit.lastHeadEnd_kept (s.handshake.endHead_parts _).1,
        HandshakeUnit.endHead_some hx]
    · have ends : s.lossEnds = true := by
        unfold State.lossEnds State.measuring
        obtain h | h | ⟨h, x, hx, hp⟩ := hwhere <;> simp [*]
      have last := endJob_endsLast (s := s.setSample { s.sample with loss := .expired }) (o := .servoLost) ha
        (rest.of_parts rfl rfl rfl) hf nofun rfl
      obtain ⟨move, head, state, active, list⟩ := last.alone (s := s) (fun _ => rfl) rfl hl
      exact ⟨_, (exec_servoLossTimeoutExpiry_running hloss).trans (congrArg _ (if_pos ends)), move, head, trivial, state, active, list⟩
  · rw [exec_servoLossTimeoutExpiry_running hl, if_neg (by simp [State.lossEnds_eq_false hn])]
    rfl

end Sys2Proof.Machine
end

section
/-! SUPPORT. The search: how a job is staged, how it goes on at a new target, and O35 and O36 (R38 to R51, R77, R102). -/

namespace Sys2Proof.Machine

variable {s t u : State} {r x : SearchRecord} {o : JobOutcome} {part : StagedPart}

/-! ### Staging and going on -/

/-- What the staging of a job leaves: the engine in COMMIT with the part, no request, and no sample of the dwell. -/
theorem stageJob_shop (o : JobOutcome) (part : StagedPart) (s : State) : (stageJob o part s).shop = { s.shop with
    engine := { s.engine with state := .commit, staging := some (o, part), dwell := s.engine.dwell.cleared }
    sample := s.sample.left s.engine.state } := by
  have left : (releaseBoth (leaveWork s)).shop = _ := (releaseBoth_shop _).trans (leaveWork_shop s)
  have engine : (releaseBoth (leaveWork s)).engine = { s.engine with dwell := s.engine.dwell.cleared } := congrArg Shop.engine left
  unfold stageJob
  dsimp only
  rw [askGrant_shop, engine]
  exact congrArg (fun x : Shop => { x with engine := { s.engine with state := .commit, staging := some (o, part), dwell := s.engine.dwell.cleared } }) left

theorem stageJob_handshake (o : JobOutcome) (part : StagedPart) (s : State) :
    (stageJob o part s).handshake = (s.handshake.endMove .released).endHead .released := by
  unfold stageJob
  rw [askGrant_handshake]
  exact (releaseBoth_handshake_eq _).trans (by rw [leaveWork_handshake])

/-- A job that leaves DWELL for COMMIT. -/
structure State.Stages (t : State) (o : JobOutcome) (part : StagedPart) : Prop where
  state : t.engine.state = .commit
  staging : t.engine.staging = some (o, part)
  move : t.handshake.move = none
  head : t.handshake.head = none
  fifo : t.sample.fifo = []

theorem stageJob_stages (h : s.engine.state = .dwell) (o : JobOutcome) (part : StagedPart) : (stageJob o part s).Stages o part := by
  have shop := stageJob_shop o part s
  have engine := congrArg Shop.engine shop
  obtain ⟨move, head⟩ := s.handshake.both_ended .released .released
  refine ⟨congrArg Engine.state engine, congrArg Engine.staging engine, ?_, ?_, ?_⟩
  · rw [stageJob_handshake, move]
  · rw [stageJob_handshake, head]
  · refine (congrArg (fun x : Shop => x.sample.fifo) shop).trans ?_
    rw [h]
    rfl

/-- A job that goes on at a new target: MOVE_WAIT with a new move request for it. -/
def State.GoesOn (s t : State) (x : SearchRecord) : Prop := ∃ m, t.engine.state = .moveWait ∧ t.engine.active = some x
  ∧ t.handshake.move = some m ∧ m.phase = .requested ∧ some m.target = x.target ∧ m.sequence = nextSequence s.handshake.moveSequence

/-- The move that is placed: its record and the sequence counter (R102). -/
theorem placeMove_handshake (h : s.engine.active = some r) : (placeMove s).handshake = { s.handshake.endMove .released with
    move := some ⟨.requested, nextSequence s.handshake.moveSequence, s.store.profile.clampTravel (r.target.getD 0), r.job.id⟩
    moveSequence := nextSequence s.handshake.moveSequence, moveTimeout := startMs s.store.profile.moveTimeout } := by
  have released : (endMove .released (s.aimed r)).handshake = s.handshake.endMove .released := endMove_handshake_eq _ _
  have store : (endMove .released (s.aimed r)).store = s.store := State.store_of_kept (endMove_kept _ _)
  rw [State.handshake_of_mute (placeMove_mute h)]
  simp only [released, store, (s.handshake.endMove_parts .released).2.2.2.2]

theorem placeMove_engine (h : s.engine.active = some r) : (placeMove s).engine
    = { s.engine with active := some { r with target := some (s.store.profile.clampTravel (r.target.getD 0)) } } :=
  congrArg Shop.engine (placeMove_shop h)

/-- The search goes on at a target within travel. -/
theorem goTo_goesOn {c : Int} (hd : s.engine.state = .dwell) (ht : x.target = some c) (hc : s.store.profile.clampTravel c = c) :
    s.GoesOn (goTo x s) x ∧ (goTo x s).sample.fifo = [] := by
  have active : (setActive (some x) (setEngineState .moveWait (dropDwell s))).engine.active = some x := rfl
  have store : (setActive (some x) (setEngineState .moveWait (dropDwell s))).store = s.store := State.store_of_kept (by simp)
  have handshake : (setActive (some x) (setEngineState .moveWait (dropDwell s))).handshake = s.handshake := dropDwell_handshake s
  have aimed : ({ x with target := some c } : SearchRecord) = x := by rw [← ht]
  have placed := placeMove_handshake active
  have engine := placeMove_engine active
  rw [store, ht, Option.getD_some, hc] at placed engine
  rw [handshake] at placed
  rw [aimed] at engine
  refine ⟨⟨_, congrArg Engine.state engine, congrArg Engine.active engine, congrArg HandshakeUnit.move placed, rfl, ht.symm, rfl⟩, ?_⟩
  have sample := congrArg Shop.sample (placeMove_shop active)
  refine (congrArg SamplePath.fifo sample).trans ?_
  have dropped := congrArg (fun y : Shop => y.sample.fifo) (dropDwell_shop s)
  refine dropped.trans ?_
  rw [hd]
  rfl

/-! ### A sample taken (R38, R77) -/

/-- The state from which a sample is applied: it has left the FIFO and is counted by its kind. -/
def State.sampled (s : State) (rest : List WedgeRecord) (c : Class) : State := s.setSample ({ s.sample with fifo := rest }.countKind c)

theorem exec_sampleTake_dwell {w : WedgeRecord} {rest : List WedgeRecord} (hd : s.engine.state = .dwell) (hf : s.sample.fifo = w :: rest) :
    exec .sampleTake s = .next (applyClass (classify s.store.profile.burstFloor s.targetTrack w)
      (s.sampled rest (classify s.store.profile.burstFloor s.targetTrack w))) := by
  refine congrArg Host.Outcome.next ((if_pos hd).trans ?_)
  simp only [hf]
  rfl

/-- Every kind but an accepted sample is a reject (R38). -/
theorem applyClass_reject {c : Class} (h : ∀ ptot, c ≠ .accepted ptot) (s : State) : applyClass c s = countReject s := by
  cases c with
  | accepted ptot => exact absurd rfl (h ptot)
  | noSync => rfl
  | dropout => rfl
  | noTid => rfl
  | far => rfl

/-- A rejected sample is counted by its kind, up to 65535 (R77). -/
theorem SamplePath.countKind_reject {c : Class} (h : ∀ ptot, c ≠ .accepted ptot) (sp : SamplePath) : sp.countKind c = { sp with
    noSync := if c = .noSync ∧ sp.noSync < 65535 then sp.noSync + 1 else sp.noSync
    dropout := if c = .dropout ∧ sp.dropout < 65535 then sp.dropout + 1 else sp.dropout
    noTid := if c = .noTid ∧ sp.noTid < 65535 then sp.noTid + 1 else sp.noTid
    far := if c = .far ∧ sp.far < 65535 then sp.far + 1 else sp.far } := by
  cases c with
  | accepted ptot => exact absurd rfl (h ptot)
  | noSync => simp [SamplePath.countKind, satSucc]
  | dropout => simp [SamplePath.countKind, satSucc]
  | noTid => simp [SamplePath.countKind, satSucc]
  | far => simp [SamplePath.countKind, satSucc]

/-- The record of a job with one reject more. -/
def SearchRecord.rejected (r : SearchRecord) : SearchRecord := { r with rejects := if r.rejects < 255 then r.rejects + 1 else r.rejects }

/-- The state with one reject more of the dwell and of its job (R38, R39). -/
def State.rejecting (s : State) (r : SearchRecord) : State :=
  s.setEngine { s.engine with active := some r.rejected, dwell := { s.engine.dwell with rejects := s.engine.dwell.rejects + 1 } }

/-- A reject beyond the limit ends the job TOO_NOISY (R38, R39, R51). -/
theorem countReject_beyond (ha : s.engine.active = some r) (h : s.store.profile.rejectLimit < s.engine.dwell.rejects + 1) :
    countReject s = stageJob .tooNoisy (tooNoisyPart r.rejected) (s.rejecting r) := by
  unfold countReject
  split
  · cases (‹s.engine.active = none›.symm.trans ha)
  · obtain rfl := Option.some.inj (‹s.engine.active = some _›.symm.trans ha)
    exact if_pos h

/-- A reject within the limit is counted (R38, R39). -/
theorem countReject_within (ha : s.engine.active = some r) (h : s.engine.dwell.rejects + 1 ≤ s.store.profile.rejectLimit) :
    countReject s = s.rejecting r := by
  unfold countReject
  split
  · cases (‹s.engine.active = none›.symm.trans ha)
  · obtain rfl := Option.some.inj (‹s.engine.active = some _›.symm.trans ha)
    exact if_neg (Nat.not_lt.mpr h)

/-- The state with an accepted sample added to the dwell (R38). -/
def State.dwelling (s : State) (ptot : Int) : State := s.setEngine { s.engine with dwell := s.engine.dwell.add ptot }

/-- An accepted sample joins the dwell, and the K-th completes it (R38, R40). -/
theorem countAccept_eq (ha : s.engine.active = some r) (ptot : Int) : countAccept ptot s
    = if 2 ^ s.store.profile.sampleExponent ≤ s.engine.dwell.n + 1 then completeDwell r (s.dwelling ptot) else s.dwelling ptot := by
  unfold countAccept
  split
  · cases (‹s.engine.active = none›.symm.trans ha)
  · obtain rfl := Option.some.inj (‹s.engine.active = some _›.symm.trans ha)
    rfl

/-- Settles O35: by the kind of the sample and the reject limit. -/
theorem sampleTake : Obligations.SampleTake := by
  intro w rest r s hd ha hf
  have taken := exec_sampleTake_dwell hd hf
  dsimp only
  generalize classify s.store.profile.burstFloor s.targetTrack w = c at taken ⊢
  have active : (s.sampled rest c).engine.active = some r := ha
  refine ⟨fun ptot hc short => ?_, fun hc beyond => ?_, fun hc within => ?_⟩
  · subst hc
    exact taken.trans (congrArg Host.Outcome.next ((countAccept_eq active ptot).trans (if_neg (Nat.not_le.mpr short))))
  · rw [applyClass_reject hc, countReject_beyond active beyond] at taken
    obtain ⟨state, staging, move, head, fifo⟩ :=
      stageJob_stages (s := (s.sampled rest c).rejecting r) hd .tooNoisy (tooNoisyPart r.rejected)
    exact ⟨_, taken, state, fifo, move, head, staging⟩
  · rw [applyClass_reject hc, countReject_within active within] at taken
    unfold State.sampled at taken
    rw [SamplePath.countKind_reject hc] at taken
    exact taken

/-! ### A dwell completed (R40 to R51) -/

theorem stepPosition_clamped {pr : Profile} (h : pr.travelLow ≤ pr.travelHigh) (e0 : Int) :
    pr.clampTravel (pr.stepPosition e0) = pr.stepPosition e0 := by
  have clamped : ∀ c, pr.clampTravel (pr.clampTravel c) = pr.clampTravel c := fun c =>
    clampInt_of_mem (clampInt_bounds h c).1 (clampInt_bounds h c).2
  unfold Profile.stepPosition
  dsimp only
  split <;> exact clamped _

theorem estimate_clamped {pr : Profile} (h : pr.travelLow ≤ pr.travelHigh) (e0 here mean gain : Int) :
    pr.clampTravel (pr.estimate e0 here mean gain).1 = (pr.estimate e0 here mean gain).1 := by
  have clamped : ∀ c, pr.clampTravel (pr.clampTravel c) = pr.clampTravel c := fun c =>
    clampInt_of_mem (clampInt_bounds h c).1 (clampInt_bounds h c).2
  unfold Profile.estimate
  dsimp only
  split
  · exact clamped _
  · split <;> exact clamped _

/-- The state in which the last accepted sample of a dwell has been counted. -/
def State.accepted (s : State) (rest : List WedgeRecord) (ptot : Int) : State :=
  (s.sampled rest (.accepted ptot)).dwelling ptot

theorem exec_sampleTake_complete {w : WedgeRecord} {rest : List WedgeRecord} {ptot : Int} (hd : s.engine.state = .dwell)
    (ha : s.engine.active = some r) (hf : s.sample.fifo = w :: rest)
    (hc : classify s.store.profile.burstFloor s.targetTrack w = .accepted ptot)
    (hn : 2 ^ s.store.profile.sampleExponent ≤ (s.engine.dwell.add ptot).n) :
    exec .sampleTake s = .next (completeDwell r (s.accepted rest ptot)) := by
  rw [exec_sampleTake_dwell hd hf, hc]
  exact congrArg Host.Outcome.next ((countAccept_eq (s := s.sampled rest (.accepted ptot)) ha ptot).trans (if_pos hn))

/-- The record of a job whose dwell has given a mean (R29, R40). -/
def SearchRecord.measured (r : SearchRecord) (mean : Int) (revolutions : Nat) : SearchRecord :=
  { r with spreadRepeat := false, lastMean := some mean, lastStamp := some revolutions }

/-- A dwell of too wide a spread is repeated once (R40). -/
theorem completeDwell_wide (h : s.store.profile.spreadLimit < s.engine.dwell.spread) : completeDwell r s
    = if r.spreadRepeat = true then stageJob .tooNoisy (tooNoisyPart r) s
      else startDwell (setActive (some { r with spreadRepeat := true }) s) := by
  unfold completeDwell
  exact if_neg (not_le.mpr h)

/-- A dwell within the spread limit is applied by its stage (R43). -/
theorem completeDwell_narrow (h : s.engine.dwell.spread ≤ s.store.profile.spreadLimit) : completeDwell r s
    = applyDwell (r.measured (dwellMean s.engine.dwell.sum s.engine.dwell.n) s.sample.revolutions)
      (dwellMean s.engine.dwell.sum s.engine.dwell.n)
      (setActive (some (r.measured (dwellMean s.engine.dwell.sum s.engine.dwell.n) s.sample.revolutions)) s) := by
  unfold completeDwell
  exact if_pos h

variable {mean e0 e1 p0 here gain : Int}

/-- A FIRST dwell's mean leads to the step position (R43, R45). -/
theorem applyDwell_first (hd : s.engine.state = .dwell) (hp : s.store.profile.travelLow ≤ s.store.profile.travelHigh)
    (hs : x.stage = .first) (h0 : x.e0 = some e0) :
    s.GoesOn (applyDwell x mean s) { x with
      p0 := some mean, e1 := some (s.store.profile.stepPosition e0), target := some (s.store.profile.stepPosition e0), stage := .step }
    ∧ (applyDwell x mean s).sample.fifo = [] := by
  simp only [applyDwell, hs, applyFirst, h0, Option.getD_some]
  exact goTo_goesOn hd rfl (stepPosition_clamped hp e0)

/-- A STEP dwell's mean gives a gain below the floor, which ends the job GAIN_LOW, or leads to the first estimate (R43, R46, R47). -/
theorem applyDwell_step (hd : s.engine.state = .dwell) (hp : s.store.profile.travelLow ≤ s.store.profile.travelHigh)
    (hs : x.stage = .step) (h0 : x.e0 = some e0) (h1 : x.e1 = some e1) (hp0 : x.p0 = some p0) :
    if (gain256 p0 mean e0 e1).natAbs < s.store.profile.gainFloor then
      (applyDwell x mean s).Stages .gainLow (.suspect .gainLow none
        (if gain256 p0 mean e0 e1 = 0 then none else some (gain256 p0 mean e0 e1)) (some mean.natAbs) 0 x.rejects)
    else s.GoesOn (applyDwell x mean s) { x with
        p1 := some mean, gain := some (gain256 p0 mean e0 e1)
        target := some (s.store.profile.estimate e0 e1 mean (gain256 p0 mean e0 e1)).1
        lastClamp := (s.store.profile.estimate e0 e1 mean (gain256 p0 mean e0 e1)).2, stage := .verify }
      ∧ (applyDwell x mean s).sample.fifo = [] := by
  simp only [applyDwell, hs, applyStep, h0, h1, hp0, Option.getD_some]
  split
  · exact stageJob_stages (s := setActive (some _) s) hd _ _
  · exact goTo_goesOn hd rfl (estimate_clamped hp _ _ _ _)

/-- A VERIFY dwell's mean ends the job or leads to a new estimate (R43, R48, R49). -/
theorem applyDwell_verify (hd : s.engine.state = .dwell) (hp : s.store.profile.travelLow ≤ s.store.profile.travelHigh)
    (hs : x.stage = .verify) (h0 : x.e0 = some e0) (ht : x.target = some here) (hg : x.gain = some gain) :
    if mean.natAbs ≤ s.store.profile.nullTolerance then
      (applyDwell x mean s).Stages .converged (.converged (here - correction mean gain) gain mean.natAbs (x.iterations + 1) x.rejects)
    else if x.limit ≤ x.iterations + 1 then
      (applyDwell x mean s).Stages .notConverged (.suspect .notConverged (some here) (some gain) (some mean.natAbs) x.limit x.rejects)
    else if (s.store.profile.estimate e0 here mean gain).2 ≠ none ∧ (s.store.profile.estimate e0 here mean gain).2 = x.lastClamp then
      (applyDwell x mean s).Stages .nullOutOfRange (.suspect .nullOutOfRange (some (s.store.profile.estimate e0 here mean gain).1)
        (some gain) (some mean.natAbs) (x.iterations + 1) x.rejects)
    else s.GoesOn (applyDwell x mean s) { x with
        iterations := x.iterations + 1, target := some (s.store.profile.estimate e0 here mean gain).1
        lastClamp := (s.store.profile.estimate e0 here mean gain).2 }
      ∧ (applyDwell x mean s).sample.fifo = [] := by
  simp only [applyDwell, hs, applyVerify, h0, ht, hg, Option.getD_some, Option.isSome_iff_ne_none]
  split
  · exact stageJob_stages (s := setActive (some _) s) hd _ _
  · split
    · exact stageJob_stages (s := setActive (some _) s) hd _ _
    · split
      · exact stageJob_stages (s := setActive (some _) s) hd _ _
      · exact goTo_goesOn hd rfl (estimate_clamped hp _ _ _ _)

/-- What a sampled dwell of a search may come to: the job staged, or the search going on with an empty FIFO. -/
theorem stages_of {i : Instr} (ht : exec i s = .next t) (h : t.Stages o part) :
    ∃ t, exec i s = .next t ∧ t.engine.state = .commit ∧ t.engine.staging = some (o, part)
      ∧ t.handshake.move = none ∧ t.handshake.head = none ∧ t.sample.fifo = [] :=
  ⟨_, ht, h.state, h.staging, h.move, h.head, h.fifo⟩

theorem goes_of {i : Instr} (ht : exec i s = .next t) (hu : u.handshake.moveSequence = s.handshake.moveSequence)
    (h : u.GoesOn t x ∧ t.sample.fifo = []) :
    ∃ t m, exec i s = .next t ∧ t.engine.state = .moveWait ∧ t.engine.active = some x ∧ t.handshake.move = some m
      ∧ m.phase = .requested ∧ some m.target = x.target ∧ m.sequence = nextSequence s.handshake.moveSequence
      ∧ t.sample.fifo = [] := by
  obtain ⟨⟨m, state, active, move, phase, target, sequence⟩, fifo⟩ := h
  rw [hu] at sequence
  exact ⟨_, m, ht, state, active, move, phase, target, sequence, fifo⟩

/-- Settles O36: by the spread of the dwell and the stage of the search. -/
theorem dwellsAdvanceTheSearch : Obligations.DwellsAdvanceTheSearch := by
  intro w rest r ptot e0 e1 p0 here gain s hd ha hf hp hc
  dsimp only
  intro hn
  have taken := exec_sampleTake_complete hd ha hf hc hn
  refine ⟨fun wide => ?_, fun narrow => ?_⟩
  · rw [completeDwell_wide (s := s.accepted rest ptot) wide] at taken
    by_cases hr : r.spreadRepeat = true
    · rw [if_pos hr] at taken ⊢
      exact stages_of taken (stageJob_stages (s := s.accepted rest ptot) hd _ _)
    · rw [if_neg hr] at taken ⊢
      exact ⟨_, taken, rfl, rfl, rfl, rfl, rfl⟩
  · rw [completeDwell_narrow (s := s.accepted rest ptot) narrow] at taken
    generalize hm : dwellMean (s.engine.dwell.add ptot).sum (s.engine.dwell.add ptot).n = mean
    change exec .sampleTake s = .next (applyDwell (r.measured (dwellMean (s.engine.dwell.add ptot).sum (s.engine.dwell.add ptot).n)
      s.sample.revolutions) (dwellMean (s.engine.dwell.add ptot).sum (s.engine.dwell.add ptot).n) _) at taken
    rw [hm] at taken
    generalize hv : setActive _ (s.accepted rest ptot) = v at taken
    have dwell : v.engine.state = .dwell := hv ▸ hd
    have store : v.store = s.store := hv ▸ rfl
    have sequence : v.handshake.moveSequence = s.handshake.moveSequence := hv ▸ rfl
    have travel : v.store.profile.travelLow ≤ v.store.profile.travelHigh := by rw [store]; exact hp
    refine ⟨fun hs h0 => ?_, fun hs h0 h1 hp0 => ?_, fun hs h0 ht hg => ?_⟩
    · have applied := applyDwell_first (x := r.measured mean s.sample.revolutions) (mean := mean) dwell travel hs h0
      rw [store] at applied
      exact goes_of taken sequence applied
    · have applied := applyDwell_step (x := r.measured mean s.sample.revolutions) (mean := mean) dwell travel hs h0 h1 hp0
      rw [store] at applied
      split at applied
      · rw [if_pos ‹_›]
        exact stages_of taken applied
      · rw [if_neg ‹_›]
        exact goes_of taken sequence applied
    · have applied := applyDwell_verify (x := r.measured mean s.sample.revolutions) (mean := mean) dwell travel hs h0 ht hg
      rw [store] at applied
      split at applied
      · rw [if_pos ‹_›]
        exact stages_of taken applied
      · rw [if_neg ‹_›]
        split at applied
        · rw [if_pos (by assumption)]
          exact stages_of taken applied
        · rw [if_neg (by assumption)]
          split at applied
          · rw [if_pos (by assumption)]
            exact stages_of taken applied
          · rw [if_neg (by assumption)]
            exact goes_of taken sequence applied

end Sys2Proof.Machine
end

section
/-! SUPPORT. A wedge arrival: its number, its judgment and its admission to the FIFO, and O33 (R60 to R71). -/

namespace Sys2Proof.Machine

variable {s t u : State} {r : SearchRecord} {good : Bool}

/-! ### The number of an arrival (R61) -/

/-- Past an arrival the counter is one further modulo W, and the revolution count rises where it wraps. -/
theorem SamplePath.advance_eq {sp : SamplePath} {w : Nat} (h : sp.wedge < w) : sp.advance w = { sp with
    wedge := (sp.wedge + 1) % w
    revolutions := if sp.wedge + 1 = w then (sp.revolutions + 1) % 4294967296 else sp.revolutions } := by
  unfold SamplePath.advance
  by_cases hw : sp.wedge + 1 = w
  · rw [if_pos (by omega), if_pos hw, hw, Nat.mod_self]
    rfl
  · rw [if_neg (by omega), if_neg hw, Nat.mod_eq_of_lt (by omega)]

/-- The Sample Path once an arrival has started the wedge window and has been numbered. -/
def SamplePath.numbered (sp : SamplePath) (p : Profile) : SamplePath := { sp with
  wedge := (sp.wedge + 1) % p.wedges
  revolutions := if sp.wedge + 1 = p.wedges then (sp.revolutions + 1) % 4294967296 else sp.revolutions
  window := .running p.wedgeWindow }

theorem startWindow_numbered (hf : s.store.inForce = true) (hw : s.sample.wedge < s.store.profile.wedges) :
    (startWindow s).setSample ((startWindow s).sample.advance (startWindow s).wedgesPerRevolution)
      = s.setSample (s.sample.numbered s.store.profile) := by
  have wedges : (startWindow s).wedgesPerRevolution = s.store.profile.wedges := if_pos hf
  rw [wedges, SamplePath.advance_eq (sp := (startWindow s).sample) hw]
  unfold startWindow
  rw [if_pos hf]
  rfl

/-! ### Its judgment (R65 to R68) -/

/-- Whether an arrival loses the servo, and whether it regains it. -/
def SamplePath.loses (sp : SamplePath) (good : Bool) : Bool := sp.locked && !good && decide (8 ≤ sp.missedRun + 1)
def SamplePath.regains (sp : SamplePath) (good : Bool) : Bool := !sp.locked && good && decide (4 ≤ sp.goodRun + 1)

/-- The Sample Path once an arrival has been judged. -/
def SamplePath.judged (sp : SamplePath) (p : Profile) (good : Bool) : SamplePath := { sp with
  locked := (sp.locked && !sp.loses good) || sp.regains good
  missedRun := if sp.locked = true then if good = true ∨ sp.loses good = true then 0 else sp.missedRun + 1
    else if sp.regains good = true then 0 else sp.missedRun
  goodRun := if sp.locked = true then if sp.loses good = true then 0 else sp.goodRun
    else if good = true ∧ sp.regains good = false then sp.goodRun + 1 else 0
  loss := if sp.loses good = true then .running (p.servoLossTimeout * 1000) else if sp.regains good = true then .stopped else sp.loss
  fifo := if sp.loses good = true then [] else sp.fifo }

/-- An arrival that leaves the servo LOCKED has flushed nothing (R66). -/
theorem SamplePath.judged_fifo {sp : SamplePath} {p : Profile} (h : (sp.judged p good).locked = true) : (sp.judged p good).fifo = sp.fifo := by
  refine if_neg fun loses => ?_
  have locked : sp.locked = true := by
    simp only [SamplePath.loses, Bool.and_eq_true] at loses
    exact loses.1.1
  have regains : sp.regains good = false := by simp [SamplePath.regains, locked]
  have lost : (sp.judged p good).locked = false := by simp [SamplePath.judged, loses, regains]
  simp [h] at lost

/-- The judgment of an arrival (R65): LOCKED, the missed run of a bad one is shorter than 8 or loses the servo; LOST, the good run of a
good one is shorter than 4 or regains it. -/
theorem judgeLock_eq (hf : s.store.inForce = true) (good : Bool) : judgeLock good s
    = if s.sample.loses good = true then post .servo (.servoLost s.sample.revolutions) .workstation (s.setSample (s.sample.judged s.store.profile good))
      else if s.sample.regains good = true then
        post .servo (.servoRegained s.sample.revolutions) .workstation (s.setSample (s.sample.judged s.store.profile good))
      else s.setSample (s.sample.judged s.store.profile good) := by
  unfold judgeLock SamplePath.judged
  cases hl : s.sample.locked <;> cases good
  case true.false =>
    by_cases h8 : 8 ≤ s.sample.missedRun + 1
    · simp [SamplePath.loses, SamplePath.regains, hl, h8, servoLost, hf, flushFifo, State.setSample, startLoss]
    · simp [SamplePath.loses, SamplePath.regains, hl, h8, State.setSample]
  case false.true =>
    by_cases h4 : 4 ≤ s.sample.goodRun + 1
    · simp [SamplePath.loses, SamplePath.regains, hl, h4, servoRegained, State.setSample]
    · simp [SamplePath.loses, SamplePath.regains, hl, h4, State.setSample]
  all_goals simp [SamplePath.loses, SamplePath.regains, hl, State.setSample]

/-- What the judgment leaves alone, and what Port W is told of it. -/
structure State.Judged (s : State) (good : Bool) (t : State) : Prop where
  shop : t.shop = { s.shop with sample := s.sample.judged s.store.profile good }
  store : t.store = s.store
  handshake : t.handshake = s.handshake
  lost : (s.port .workstation).attached = true → s.sample.loses good = true →
    (t.port .workstation).notices.details.servo = some (.servoLost s.sample.revolutions)
  regained : (s.port .workstation).attached = true → s.sample.regains good = true →
    (t.port .workstation).notices.details.servo = some (.servoRegained s.sample.revolutions)

theorem judgeLock_judged (hf : s.store.inForce = true) (good : Bool) : s.Judged good (judgeLock good s) := by
  rw [judgeLock_eq hf]
  have told : ∀ d, ((s.port .workstation).attached = true →
      ((post .servo d .workstation (s.setSample (s.sample.judged s.store.profile good))).port .workstation).notices.details.servo = some d) :=
    fun d ha => post_detail_same (src := .servo) (s := s.setSample _) ha
  have not_both : ¬(s.sample.loses good = true ∧ s.sample.regains good = true) := by
    simp only [SamplePath.loses, SamplePath.regains]
    cases s.sample.locked <;> simp
  split
  · exact ⟨(post_shop ..).trans rfl, (State.store_of_kept (post_kept ..)).trans rfl, (post_handshake ..).trans rfl, fun ha _ => told _ ha,
      fun _ hr => absurd ⟨‹_›, hr⟩ not_both⟩
  · split
    · exact ⟨(post_shop ..).trans rfl, (State.store_of_kept (post_kept ..)).trans rfl, (post_handshake ..).trans rfl, fun _ hl => absurd hl ‹_›,
        fun ha _ => told _ ha⟩
    · exact ⟨rfl, rfl, rfl, fun _ hl => absurd hl (by assumption), fun _ hr => absurd hr (by assumption)⟩

/-! ### Its admission (R69 to R71) -/

theorem State.gateOpen_iff (n : Nat) : s.gateOpen n = true ↔ s.sample.locked = true ∧ s.engine.state = .dwell
    ∧ (∃ m, s.handshake.move = some m ∧ m.phase = .settled) ∧ (∃ x, s.handshake.head = some x ∧ x.phase = .ready)
    ∧ n % s.engine.dwell.stride = 0 := by
  simp only [State.gateOpen, Bool.and_eq_true, beq_iff_eq, decide_eq_true_eq, Option.map_eq_some_iff]
  tauto

/-- The state with an overrun counted (R71). -/
def State.overrun (s : State) : State := s.setSample { s.sample with overruns := satSucc 65535 s.sample.overruns }

theorem joinFifo_room (h : s.sample.fifo.length < 4) (w : WedgeRecord) :
    joinFifo w s = s.setSample { s.sample with fifo := s.sample.fifo ++ [w] } := if_pos h

theorem joinFifo_full (h : 4 ≤ s.sample.fifo.length) (w : WedgeRecord) : joinFifo w s = countReject s.overrun :=
  if_neg (Nat.not_lt.mpr h)

/-- A reject leaves the Sample Path but its FIFO. -/
theorem countReject_still (s : State) : (countReject s).sample.still = s.sample.still := by
  cases ha : s.engine.active with
  | none =>
    unfold countReject
    split
    · rfl
    · cases (‹s.engine.active = some _›.symm.trans ha)
  | some r =>
    by_cases h : s.store.profile.rejectLimit < s.engine.dwell.rejects + 1
    · rw [countReject_beyond ha h]
      refine (congrArg (fun x : Shop => x.sample.still) (stageJob_shop _ _ _)).trans ?_
      show ((s.rejecting r).sample.left (s.rejecting r).engine.state).still = _
      unfold SamplePath.left
      split <;> rfl
    · rw [countReject_within ha (Nat.not_lt.mp h)]
      rfl

/-- The Sample Path without what an admitted arrival may change of it. -/
def SamplePath.beside (sp : SamplePath) : SamplePath := { sp with fifo := [], overruns := 0 }

theorem joinFifo_beside (w : WedgeRecord) (s : State) : (joinFifo w s).sample.beside = s.sample.beside := by
  unfold joinFifo
  split
  · rfl
  · exact congrArg (fun sp : SamplePath => { sp with overruns := 0 }) (countReject_still s.overrun)

/-- An arrival taken whole, from the state in which it has been judged. -/
theorem wedgeArrival_eq (hf : s.store.inForce = true) (hw : s.sample.wedge < s.store.profile.wedges) (w : WedgeRecord) :
    ∃ u, (s.setSample (s.sample.numbered s.store.profile)).Judged w.sync u
      ∧ wedgeArrival w (startWindow s) = if u.gateOpen s.sample.wedge = true then joinFifo w u else u := by
  refine ⟨_, judgeLock_judged (s := s.setSample (s.sample.numbered s.store.profile)) hf w.sync, ?_⟩
  rw [← startWindow_numbered hf hw]
  rfl

/-- Settles O33: the arrival is numbered, judged and admitted in turn. -/
theorem Settled.wedgeArrival : Obligations.WedgeArrival := by
  intro w left s hf hwin hw i good rec hi
  have taken : exec i s = .next (Machine.wedgeArrival rec (startWindow s)) ∧ rec.sync = good := by
    obtain ⟨rfl, rfl, rfl⟩ | ⟨rfl, rfl, rfl⟩ := hi
    · exact ⟨rfl, rfl⟩
    · refine ⟨congrArg Host.Outcome.next ?_, rfl⟩
      rw [hwin]
      rfl
  obtain ⟨taken, sync⟩ := taken
  obtain ⟨u, judged, arrived⟩ := wedgeArrival_eq (s := s) hf hw rec
  rw [sync] at judged
  obtain ⟨shop, store, handshake, lost, regained⟩ := judged
  have sample : u.sample = (s.sample.numbered s.store.profile).judged s.store.profile good := congrArg Shop.sample shop
  have engine : u.engine = s.engine := congrArg Shop.engine shop
  have gate := State.gateOpen_iff (s := u) s.sample.wedge
  rw [engine, handshake, sample] at gate
  have beside : (Machine.wedgeArrival rec (startWindow s)).sample.beside = u.sample.beside := by
    rw [arrived]
    split
    · exact joinFifo_beside _ _
    · rfl
  have details : ((Machine.wedgeArrival rec (startWindow s)).port .workstation).notices.details.servo
      = (u.port .workstation).notices.details.servo := by
    rw [arrived]
    split
    · exact (joinFifo_moves (c := { jobs := true, sample := true }) rfl rfl rec u).detail (src := .servo) rfl nofun nofun
    · rfl
  rw [sample] at beside
  have overruns : u.sample.overruns = s.sample.overruns := (congrArg SamplePath.overruns sample).trans rfl
  have wedge := congrArg SamplePath.wedge beside
  have revolutions := congrArg SamplePath.revolutions beside
  refine ⟨_, taken, wedge, revolutions, congrArg SamplePath.window beside, congrArg SamplePath.locked beside,
    congrArg SamplePath.missedRun beside, congrArg SamplePath.goodRun beside, congrArg SamplePath.loss beside,
    fun ha => ⟨fun hl => ?_, fun hr => ?_⟩, fun closed => ?_, fun opens room => ?_, fun opens full r ha => ?_⟩
  · rw [details, lost ha hl]
    exact congrArg (fun n => some (Detail.servoLost n)) revolutions.symm
  · rw [details, regained ha hr]
    exact congrArg (fun n => some (Detail.servoRegained n)) revolutions.symm
  · rw [arrived, if_neg fun h => closed (gate.mp h)]
    exact ⟨engine, congrArg SamplePath.fifo sample, overruns⟩
  · have fifo : u.sample.fifo = s.sample.fifo := (congrArg SamplePath.fifo sample).trans (SamplePath.judged_fifo opens.1)
    rw [arrived, if_pos (gate.mpr opens), joinFifo_room (by rw [fifo]; exact room)]
    exact ⟨engine, congrArg (· ++ [rec]) fifo, overruns⟩
  · have fifo : u.sample.fifo = s.sample.fifo := (congrArg SamplePath.fifo sample).trans (SamplePath.judged_fifo opens.1)
    have active : u.overrun.engine.active = some r := (congrArg Engine.active engine).trans ha
    have dwell : u.overrun.engine.state = .dwell := (congrArg Engine.state engine).trans opens.2.1
    have limit : u.overrun.store.profile.rejectLimit = s.store.profile.rejectLimit := congrArg (·.profile.rejectLimit) store
    have rejects : u.overrun.engine.dwell.rejects = s.engine.dwell.rejects := congrArg (·.dwell.rejects) engine
    have counted : u.overrun.sample.overruns = satSucc 65535 s.sample.overruns := congrArg (satSucc 65535) overruns
    rw [arrived, if_pos (gate.mpr opens), joinFifo_full (by rw [fifo]; exact full)]
    refine ⟨(congrArg SamplePath.overruns (countReject_still _)).trans counted, fun within => ?_, fun beyond => ?_⟩
    · rw [countReject_within active (by rw [rejects, limit]; exact within)]
      refine ⟨fifo, ?_⟩
      show ({ u.engine with active := some r.rejected, dwell := { u.engine.dwell with rejects := u.engine.dwell.rejects + 1 } } : Engine) = _
      rw [engine]
      rfl
    · rw [countReject_beyond active (by rw [rejects, limit]; exact beyond)]
      obtain ⟨state, staging, move, head, fifo⟩ :=
        stageJob_stages (s := u.overrun.rejecting r) dwell .tooNoisy (tooNoisyPart r.rejected)
      exact ⟨state, fifo, move, head, staging⟩

end Sys2Proof.Machine
end

section
/-! SUPPORT. Changes of a request that raise no condition, the settle test met, and O32 (R33, R35, R37, R94, R95, R107, R174). -/

namespace Sys2Proof.Machine

variable {s t u : State} {r : SearchRecord} {m : MoveRequest} {x : HeadRequest} {o : JobOutcome}

/-! ### No condition arises (R174, R176) -/

/-- Fewer requests, the ports as they are: no source becomes eligible. -/
theorem State.hasEligible_of_fewer (hp : ∀ p, t.port p = s.port p) (hm : t.handshake.moveRequested = true → s.handshake.moveRequested = true)
    (hx : t.handshake.headRequested = true → s.handshake.headRequested = true) {p : Port} (h : t.hasEligible p = true) :
    s.hasEligible p = true := by
  obtain ⟨src, listed, eligible⟩ := List.any_eq_true.mp h
  refine List.any_eq_true.mpr ⟨src, listed, ?_⟩
  have levels : t.levelHolds p src = true → s.levelHolds p src = true := by
    intro level
    cases src with
    | moveRequest => exact Bool.and_eq_true_iff.mpr ((Bool.and_eq_true_iff.mp level).imp_right hm)
    | headRequest => exact Bool.and_eq_true_iff.mpr ((Bool.and_eq_true_iff.mp level).imp_right hx)
    | jobFailed => simpa only [State.levelHolds, hp] using level
    | jobDone => simpa only [State.levelHolds, hp] using level
    | _ => exact level
  simp only [State.isEligible, State.isPending, hp, Bool.and_eq_true, Bool.or_eq_true] at eligible ⊢
  exact eligible.imp_left fun h => h.imp_left fun h => h.imp_right levels

/-- A change after which no source is newly eligible starts no pulse (R176). -/
theorem reforming_eq {f : State → State} (h : ∀ p, (f s).hasEligible p = true → s.hasEligible p = true) : reforming f s = f s := by
  have onset : ∀ p, pulseOnset s p (f s) = f s := fun p => if_neg fun hc => by
    obtain ⟨before, after⟩ := Bool.and_eq_true_iff.mp hc
    rw [h p after] at before
    cases before
  unfold reforming
  rw [onset, onset, onset]

/-- Where a condition holds only if it held before, it has no onset (R174). -/
theorem no_onset {a b : Bool} (h : b = true → a = true) : ¬(!a && b) = true := fun hc => by
  obtain ⟨before, after⟩ := Bool.and_eq_true_iff.mp hc
  rw [h after] at before
  cases before

/-- A move that is not newly REQUESTED changes nothing but the record. -/
theorem setMove_eq {y : Option MoveRequest}
    (h : ({ s.handshake with move := y } : HandshakeUnit).moveRequested = true → s.handshake.moveRequested = true) :
    setMove y s = s.setHandshake { s.handshake with move := y } := by
  have placed : ∀ p, (s.setHandshake { s.handshake with move := y }).hasEligible p = true → s.hasEligible p = true := fun p hp =>
    State.hasEligible_of_fewer (s := s) (t := s.setHandshake { s.handshake with move := y }) (fun _ => rfl) h (fun hx => hx) hp
  unfold setMove
  rw [reforming_eq]
  · exact if_neg (no_onset h)
  · dsimp only
    rw [if_neg (no_onset h)]
    exact placed

/-- A head request that is not newly REQUESTED changes nothing but the record. -/
theorem setHead_eq {y : Option HeadRequest}
    (h : ({ s.handshake with head := y } : HandshakeUnit).headRequested = true → s.handshake.headRequested = true) :
    setHead y s = s.setHandshake { s.handshake with head := y } := by
  have placed : ∀ p, (s.setHandshake { s.handshake with head := y }).hasEligible p = true → s.hasEligible p = true := fun p hp =>
    State.hasEligible_of_fewer (s := s) (t := s.setHandshake { s.handshake with head := y }) (fun _ => rfl) (fun hm => hm) h hp
  unfold setHead
  rw [reforming_eq]
  · exact if_neg (no_onset h)
  · dsimp only
    rw [if_neg (no_onset h)]
    exact placed

theorem setMovePhase_eq {ph : MovePhase} (hm : s.handshake.move = some m) (h : ph ≠ .requested) :
    setMovePhase ph s = s.setHandshake { s.handshake with move := some { m with phase := ph } } := by
  simp only [setMovePhase, hm]
  exact setMove_eq fun hr => absurd (beq_iff_eq.mp hr) h

theorem setHeadPhase_eq {ph : HeadPhase} (hx : s.handshake.head = some x) (h : ph ≠ .requested) :
    setHeadPhase ph s = s.setHandshake { s.handshake with head := some { x with phase := ph } } := by
  simp only [setHeadPhase, hx]
  exact setHead_eq fun hr => absurd (beq_iff_eq.mp hr) h

/-! ### The settle test met (R33, R35, R95, R106) -/

/-- The state whose settle test has been met: the move SETTLED and its timeout paused. -/
def State.settled (s : State) (m : MoveRequest) : State := { s with
  frame := { s.frame with settle := .met, settleTimer := .stopped }
  handshake := { s.handshake with move := some { m with phase := .settled }, moveTimeout := s.handshake.moveTimeout.pause } }

/-- What the test met means for the engine: only in SETTLING anything, a dwell for a job that measures, the end for a MOVE TO. -/
theorem settleMet_eq (hm : s.handshake.move = some m) : settleMet s = if s.engine.state = .settling then
      match s.engine.active with
      | some r => if r.job.work.needsHead = true then enterDwell (s.settled m) else endArrived r (s.settled m)
      | none => s.settled m
    else s.settled m := by
  unfold settleMet
  dsimp only
  rw [setMovePhase_eq (m := m)]
  · rfl
  · exact hm
  · decide

theorem settleMet_elsewhere (hm : s.handshake.move = some m) (he : s.engine.state ≠ .settling) : settleMet s = s.settled m :=
  (settleMet_eq hm).trans (if_neg he)

theorem settleMet_measuring (hm : s.handshake.move = some m) (he : s.engine.state = .settling) (ha : s.engine.active = some r)
    (hw : r.job.work.needsHead = true) : settleMet s = enterDwell (s.settled m) := by
  rw [settleMet_eq hm, if_pos he, ha]
  exact if_pos hw

theorem settleMet_moving (hm : s.handshake.move = some m) (he : s.engine.state = .settling) (ha : s.engine.active = some r)
    (hw : r.job.work.needsHead = false) : settleMet s = endArrived r (s.settled m) := by
  rw [settleMet_eq hm, if_pos he, ha]
  exact if_neg (by simp [hw])

theorem enterDwell_locked (h : s.sample.lossExpired = false) : enterDwell s = startDwell s := if_neg (by simp [h])

theorem enterDwell_lost (h : s.sample.lossExpired = true) : enterDwell s = endJob .servoLost s := if_pos h

/-- The stride of a dwell (R37). -/
theorem Profile.stride_eq (p : Profile) :
    p.stride = if p.wedges / 2 ^ p.sampleExponent = 0 then 1 else p.wedges / 2 ^ p.sampleExponent := by
  unfold Profile.stride
  by_cases h : p.wedges / 2 ^ p.sampleExponent = 0
  · rw [if_pos h, h, Nat.max_zero]
  · rw [if_neg h, Nat.max_eq_right (Nat.one_le_iff_ne_zero.mpr h)]

/-! ### The end of a MOVE TO (R35) -/

/-- The state in which a MOVE TO that ended ARRIVED has left its record and the engine. -/
def State.arrived (s : State) (r : SearchRecord) : State :=
  clearActive r (writeRecord r.job (arrivedRecord r.job s.frame.count s.sample.revolutions) (releaseBoth (leaveWork s)))

theorem State.arrived_shop (s : State) (r : SearchRecord) : (s.arrived r).shop = { s.shop with
    statuses := r.job.work.mark .idle s.statuses, sample := s.sample.left s.engine.state
    engine := { s.engine with dwell := s.engine.dwell.cleared, active := none, staging := none, clearPending := false }
    completions := joinLists r.job (arrivedRecord r.job s.frame.count s.sample.revolutions) s.shop.completions } := by
  have released : (releaseBoth (leaveWork s)).shop = _ := (releaseBoth_shop _).trans (leaveWork_shop s)
  have written := writeRecord_shop r.job (arrivedRecord r.job s.frame.count s.sample.revolutions) (releaseBoth (leaveWork s))
  rw [released] at written
  exact (clearActive_shop r _).trans (congrArg (fun x : Shop => { x with
    statuses := r.job.work.mark .idle x.statuses
    engine := { x.engine with active := none, staging := none, clearPending := false } }) written)

theorem State.arrived_handshake (s : State) (r : SearchRecord) :
    (s.arrived r).handshake = (s.handshake.endMove .released).endHead .released := by
  unfold State.arrived
  rw [clearActive_handshake, writeRecord_handshake, releaseBoth_handshake_eq, leaveWork_handshake]

theorem State.arrived_gear_test (s : State) (r : SearchRecord) : (s.arrived r).gear.test = s.gear.ended.test := by
  refine (congrArg Gear.test (clearActive_gear r _)).trans ?_
  have ended : (writeRecord r.job (arrivedRecord r.job s.frame.count s.sample.revolutions) (releaseBoth (leaveWork s))).gear = s.gear.ended := by simp
  have test := congrArg Gear.test ended
  exact test

/-- A MOVE TO after which nothing waits. -/
theorem endArrived_last (hn : s.unburdened) (hf : s.engine.faultPending = false) : endArrived r s
    = (s.arrived r).setEngine { (s.arrived r).engine with state := .idle, faultPending := false } := by
  have shop := s.arrived_shop r
  have rest : (s.arrived r).unburdened := hn.of_parts (congrArg Shop.jobs shop) (congrArg Shop.stack shop)
    (State.store_of_kept (by simp [State.arrived]))
  have pending : (writeRecord r.job (arrivedRecord r.job s.frame.count s.sample.revolutions) (releaseBoth (leaveWork s))).engine.faultPending
      = false := by
    refine (congrArg (fun x : Shop => x.engine.faultPending) (writeRecord_shop ..)).trans ?_
    exact (congrArg (fun x : Shop => x.engine.faultPending) ((releaseBoth_shop _).trans (leaveWork_shop s))).trans hf
  have stamps : (releaseBoth (leaveWork s)).frame.count = s.frame.count ∧ (releaseBoth (leaveWork s)).sample.revolutions = s.sample.revolutions :=
    ⟨State.count_of_kept (by simp), State.revolutions_of_kept (by simp)⟩
  unfold endArrived
  dsimp only
  rw [stamps.1, stamps.2, pending, ← afterJob_nothing rest.queue rest.stack rest.groups]
  exact congrArg (afterJob false false) (accountEnd_nothing rest.groups rest.zone rest.interval r.job)

theorem Gear.ended_test {g : Gear} (h : g.move = some m) : g.ended.test = .none := by
  rw [Gear.ended, g.endMove_of_some h]
  exact (Gear.endHead_rest _).2.2.2.2.1

/-- What the end of a MOVE TO leaves where nothing waits. -/
theorem endArrived_endsLast (hn : s.unburdened) (hf : s.engine.faultPending = false) (hm : s.handshake.move = some m)
    (hl : (s.port (Submitter.port r.job.submitter)).completions = []) :
    (endArrived r s).engine.state = .idle ∧ (endArrived r s).engine.active = none ∧ (endArrived r s).handshake.move = none
      ∧ (endArrived r s).handshake.head = none ∧ (endArrived r s).handshake.lastMoveEnd = some (.released, m.sequence)
      ∧ (endArrived r s).frame.settle = .none
      ∧ ((endArrived r s).port (Submitter.port r.job.submitter)).completions = [arrivedRecord r.job s.frame.count s.sample.revolutions] := by
  rw [endArrived_last hn hf]
  obtain ⟨move, head⟩ := s.handshake.both_ended .released .released
  rw [← s.arrived_handshake r] at move head
  refine ⟨rfl, congrArg (·.engine.active) (s.arrived_shop r), move, head, ?_, ?_, ?_⟩
  · refine (congrArg HandshakeUnit.lastMoveEnd (s.arrived_handshake r)).trans ?_
    rw [((s.handshake.endMove .released).endHead_parts .released).2.2, HandshakeUnit.endMove_some hm]
  · exact (s.arrived_gear_test r).trans (Gear.ended_test hm)
  · exact (congrFun (congrArg Shop.completions (s.arrived_shop r)) _).trans (joinLists_nil hl)

/-- Settles O32: the test met starts the dwell, or ends the job by the servo or by its kind. -/
theorem settleTimerExpiry : Obligations.SettleTimerExpiry := by
  intro m left r s ht hm hto he ha
  have taken : exec .settleTimerExpiry s = .next (settleMet s) := congrArg Host.Outcome.next (if_pos ht)
  refine ⟨fun hw hl => ?_, fun hq hs hg hz hi hf hc => ⟨fun hw hl => ?_, fun hw => ?_⟩⟩
  · rw [taken, settleMet_measuring hm he ha hw, enterDwell_locked (s := s.settled m) hl]
    refine ⟨_, rfl, rfl, rfl, rfl, ?_, rfl, ha, rfl, ?_⟩
    · exact congrArg Timer.pause hto
    · rw [← Profile.stride_eq]
      rfl
  · have last := endJob_endsLast (s := s.settled m) (o := .servoLost) ha (State.unburdened.mk hq hs hg hz hi) hf nofun rfl
    obtain ⟨move, head, state, active, list⟩ := last.alone (s := s) (fun _ => rfl) rfl hc
    rw [taken, settleMet_measuring hm he ha hw, enterDwell_lost (s := s.settled m) hl]
    refine ⟨_, rfl, state, active, move, head, ?_, ?_, list⟩
    · refine (congrArg HandshakeUnit.lastMoveEnd last.handshake).trans ?_
      rw [(((s.settled m).handshake.endMove _).endHead_parts _).2.2, HandshakeUnit.endMove_some rfl]
    · exact last.settle.trans (Gear.ended_test (m := { m with phase := .settled }) rfl)
  · rw [taken, settleMet_moving hm he ha hw]
    obtain ⟨state, active, move, head, ended, settle, list⟩ := endArrived_endsLast (s := s.settled m) (r := r)
      (m := { m with phase := .settled }) ⟨hq, hs, hg, hz, hi⟩ hf rfl hc
    refine ⟨_, rfl, state, active, move, head, ended, settle, list.trans ?_⟩
    obtain ⟨⟨id, work, cls, submitter, group, limit⟩⟩ := r
    cases work with
    | moveTo target => rfl
    | measure h z => cases hw
    | referenceCheck h z => cases hw

end Sys2Proof.Machine
end

section
/-! SUPPORT. The start of a search and MOVE DONE: O46 and O25 (R31 to R33, R94, R102, R104, R109, R115). -/

namespace Sys2Proof.Machine

variable {s t u : State} {r : SearchRecord} {m : MoveRequest} {x : HeadRequest}

/-! ### The E0 look-up (R31) -/

/-- The look-up of a search with the grant, nobody waiting for it. -/
theorem exec_e0Lookup_eq {h z : Nat} (hh : s.arbiter.holder = some (.engine, .e0LookUp)) (hw : ∀ c, s.arbiter.waiting.get c = none)
    (he : s.engine.state = .headWait) (ha : s.engine.active = some r) (h0 : r.e0 = none)
    (hj : r.job.work.needsHead = true) (hp : r.job.work.place = some (h, z)) : exec .e0Lookup s = .next (placeHeadFor h r.job.id
      (setActive (some { r with e0 := some (s.chooseE0 h z), target := some (s.chooseE0 h z) })
        (s.setArbiter { s.arbiter with holder := none, hold := .stopped }))) := by
  have holds : s.arbiter.engineHolds .e0LookUp = true := by simp [Arbiter.engineHolds, hh]
  have engine : s.arbiter.waiting.engine = none := hw .engine
  have looking : s.lookingUp = some r := by simp [State.lookingUp, he, engine, ha, h0, hj]
  refine congrArg Host.Outcome.next ((if_pos holds).trans ?_)
  simp only [looking, lookUp, hp, release_unwaited hw]
  simp only [placeHead, setActive, hp]

/-! ### The head READY (R32, R115) -/

/-- The state whose head request has become READY. -/
def State.headed (s : State) (x : HeadRequest) : State :=
  s.setHandshake { s.handshake with head := some { x with phase := .ready }, headSettle := .stopped }

/-- What the head READY means for the engine: only in HEAD_WAIT anything, by the state of the move. -/
theorem headReady_eq (hx : s.handshake.head = some x) (he : s.engine.state = .headWait) : headReady s
    = match s.handshake.move with
      | none => placeMove (setEngineState .moveWait (s.headed x))
      | some m => match m.phase with
        | .requested => setEngineState .moveWait (s.headed x)
        | .taken => setEngineState .moveWait (s.headed x)
        | .done => enterSettling (s.headed x)
        | .settled => enterDwell (s.headed x) := by
  unfold headReady
  dsimp only
  rw [setHeadPhase_eq (x := x)]
  · exact if_pos he
  · exact hx
  · decide

theorem headReady_moving (hx : s.handshake.head = some x) (he : s.engine.state = .headWait) (hm : s.handshake.move = some m) :
    headReady s = match m.phase with
      | .requested => setEngineState .moveWait (s.headed x)
      | .taken => setEngineState .moveWait (s.headed x)
      | .done => enterSettling (s.headed x)
      | .settled => enterDwell (s.headed x) := by
  rw [headReady_eq hx he, hm]

theorem exec_headSettleTimerExpiry_delay (hx : s.handshake.head = some x) (hp : x.phase = .delay) :
    exec .headSettleTimerExpiry s = .next (headReady s) :=
  congrArg Host.Outcome.next (if_pos (by simp [HandshakeUnit.inDelay, hx, hp]))

theorem enterSettling_locked (h : s.sample.lossExpired = false) : enterSettling s = setEngineState .settling s :=
  if_neg (by simp [h])

/-- Settles O46: the look-up by its rule, and the ready head by the state of the move. -/
theorem searchStarts : Obligations.SearchStarts := by
  refine ⟨fun r h z s hh hw he ha h0 hj => ?_, fun x m s hx hp he hm => ?_, fun x r target s hx hp he ha ht hm low high => ?_⟩
  · have place : r.job.work.needsHead = true ∧ r.job.work.place = some (h, z) := by
      obtain hj | hj := hj <;> simp [hj, JobWork.needsHead, JobWork.place]
    intro e0
    have chosen : e0 = s.chooseE0 h z := by
      unfold e0 State.chooseE0 Profile.clampTravel
      dsimp only
      cases (s.entry h z).seed <;> cases (s.entry h z).published <;> rfl
    clear_value e0
    subst chosen
    refine ⟨_, exec_e0Lookup_eq hh hw he ha h0 place.1 place.2, ?_⟩
    have mute := placeHeadFor_mute h r.job.id (setActive (some { r with e0 := some (s.chooseE0 h z), target := some (s.chooseE0 h z) })
      (s.setArbiter { s.arbiter with holder := none, hold := .stopped }))
    exact ⟨(congrArg Engine.state (State.engine_of_mute mute)).trans he, congrArg Engine.active (State.engine_of_mute mute),
      congrArg HandshakeUnit.head (State.handshake_of_mute mute), congrArg HandshakeUnit.headTimeout (State.handshake_of_mute mute),
      congrArg Arbiter.holder (State.arbiter_of_mute mute), (State.table_of_mute mute).trans rfl⟩
  · dsimp only
    rw [exec_headSettleTimerExpiry_delay hx hp, headReady_moving hx he hm]
    refine ⟨fun h => ?_, fun hl h => ?_, fun hl h => ?_⟩
    · obtain h | h := h <;> simp only [h] <;> rfl
    · simp only [h, enterSettling_locked (s := s.headed x) hl]
      rfl
    · simp only [h, enterDwell_locked (s := s.headed x) hl]
      rfl
  · rw [exec_headSettleTimerExpiry_delay hx hp, headReady_eq hx he, hm]
    have placed := placeMove_handshake (s := setEngineState .moveWait (s.headed x)) ha
    have none : ((s.headed x).handshake.endMove .released) = (s.headed x).handshake := HandshakeUnit.endMove_none hm
    have clamped : s.store.profile.clampTravel target = target := clampInt_of_mem low high
    dsimp only
    change (placeMove (setEngineState .moveWait (s.headed x))).handshake = { (s.headed x).handshake.endMove .released with
      move := some ⟨.requested, nextSequence s.handshake.moveSequence, s.store.profile.clampTravel (r.target.getD 0), r.job.id⟩
      moveSequence := nextSequence s.handshake.moveSequence, moveTimeout := startMs s.store.profile.moveTimeout } at placed
    rw [none, ht, Option.getD_some, clamped] at placed
    exact ⟨_, rfl, congrArg Engine.state (placeMove_engine (s := setEngineState .moveWait (s.headed x)) ha),
      congrArg HandshakeUnit.head placed, congrArg HandshakeUnit.headSettle placed, congrArg HandshakeUnit.move placed,
      congrArg HandshakeUnit.moveSequence placed, congrArg HandshakeUnit.moveTimeout placed⟩

/-! ### MOVE DONE (R33, R94, R104) -/

/-- The state whose move has become DONE. -/
def State.moved (s : State) (m : MoveRequest) : State :=
  s.setHandshake { s.handshake with move := some { m with phase := .done } }

/-- The state whose settle test times, and the one whose test is outside the window. -/
def State.timing (s : State) : State :=
  s.setFrame { s.frame with settle := .timing, settleTimer := .running (s.store.profile.settleTime * 1000) }
def State.outside (s : State) : State := s.setFrame { s.frame with settle := .outside, settleTimer := .stopped }

theorem State.withinWindow_eq (hm : s.handshake.move = some m) :
    s.withinWindow = decide ((s.frame.count - m.target).natAbs ≤ s.store.profile.settleWindow) := by
  simp only [State.withinWindow, hm]

theorem settleEvaluate_outside (h : s.withinWindow = false) : settleEvaluate s = s.outside := if_neg (by simp [h])

theorem settleEvaluate_timing (h : s.withinWindow = true) (ht : s.store.profile.settleTime ≠ 0) : settleEvaluate s = s.timing :=
  (if_pos h).trans (if_neg ht)

theorem settleEvaluate_met (h : s.withinWindow = true) (ht : s.store.profile.settleTime = 0) : settleEvaluate s = settleMet s :=
  (if_pos h).trans (if_pos ht)

theorem setSlot_moveMatching (s : State) (p : Port) (y : Slot) (sequence : Byte) :
    (s.setSlot p y).moveMatching sequence = s.moveMatching sequence := rfl

/-- The state byte of a move that has been reported done (R104). -/
theorem HandshakeUnit.moveCode_done {h : HandshakeUnit} (hm : h.move = some m) (hp : m.phase = .done) : h.moveCode = 3 := by
  simp only [HandshakeUnit.moveCode, hm, hp]

theorem HandshakeUnit.moveCode_settled {h : HandshakeUnit} (hm : h.move = some m) (hp : m.phase = .settled) : h.moveCode = 4 := by
  simp only [HandshakeUnit.moveCode, hm, hp]

/-- The settle test starts for the move that has become DONE, from the engine as it then stands (R104). -/
theorem acceptMoveDone_eq {sequence : Byte} {v : State} (hs : sequence ≠ 0) (hm : s.handshake.move = some m)
    (he : m.sequence = sequence.toNat) (hv : (if s.engine.state = .moveWait then enterSettling (s.moved m) else s.moved m) = v)
    (hk : v.handshake.move = some { m with phase := .done }) : acceptMoveDone sequence s = settleEvaluate v := by
  have done : setMovePhase .done s = s.moved m := setMovePhase_eq hm (by decide)
  have started : startSettleTest sequence v = settleEvaluate v := by
    unfold startSettleTest
    rw [State.moveMatching_of_sequence (m := { m with phase := .done }) hs hk he]
    exact if_pos rfl
  rw [← started, ← hv]
  unfold acceptMoveDone
  rw [done]
  rfl

/-- MOVE DONE of a move the motion controller has been asked for (R104). -/
theorem exec_moveDone_taken {tag sequence : Byte} {w : State} (h : s.canSend .positioner) (hs : sequence ≠ 0)
    (hm : s.handshake.move = some m) (he : m.sequence = sequence.toNat) (hp : m.phase = .requested ∨ m.phase = .taken)
    (hw : acceptMoveDone sequence (s.setSlot .positioner (.pending (.moveDone .positioner tag sequence))) = w) :
    exec (.moveDone .positioner tag sequence) s = .next (reply .positioner tag (u8 w.handshake.moveCode) w) := by
  subst hw
  refine congrArg Host.Outcome.next ((request_taken h (by simp) (by simp)).trans ?_)
  rw [setSlot_moveMatching, State.moveMatching_of_sequence hs hm he]
  obtain hp | hp := hp <;> simp only [hp]

/-- MOVE DONE of a move that has been reported done already (R104). -/
theorem exec_moveDone_again {tag sequence : Byte} (h : s.canSend .positioner) (hs : sequence ≠ 0)
    (hm : s.handshake.move = some m) (he : m.sequence = sequence.toNat) (hp : m.phase = .done ∨ m.phase = .settled) :
    exec (.moveDone .positioner tag sequence) s = .next (reply .positioner tag (u8 s.handshake.moveCode) s) := by
  refine congrArg Host.Outcome.next ((request_taken h (by simp) (by simp)).trans ?_)
  rw [setSlot_moveMatching, State.moveMatching_of_sequence hs hm he]
  obtain hp | hp := hp <;> simp only [hp] <;> exact reply_setSlot _ _ _ _ _

/-- A sequence that no outstanding move has matches nothing (R104; log entry 23). -/
theorem State.moveMatching_of_unmatched {sequence : Byte}
    (h : sequence = 0 ∨ ∀ m, s.handshake.move = some m → m.sequence ≠ sequence.toNat) : s.moveMatching sequence = none := by
  refine Option.filter_eq_none_iff.mpr fun m hm => ?_
  obtain h | h := h
  · simp [h]
  · simp [h m hm]

/-- Settles O25: by the match of the sequence, the state of the move and that of the engine. -/
theorem moveDone : Obligations.MoveDone := by
  intro tag sequence s can
  dsimp only
  let u := s.setSlot .positioner (.pending (.moveDone .positioner tag sequence))
  refine ⟨fun unmatched => ?_, fun m hs hm he => ⟨fun hp => ?_, fun hp => ?_, fun hp hwait hl => ⟨fun hmet => ?_, fun hmet r ha hw => ?_⟩,
    fun hp hwait => ?_⟩⟩
  · refine congrArg Host.Outcome.next ((request_taken can (by simp) (by simp)).trans ?_)
    rw [setSlot_moveMatching, State.moveMatching_of_unmatched unmatched]
    exact refuse_setSlot _ _ _ _ _
  · rw [exec_moveDone_again can hs hm he (.inl hp), HandshakeUnit.moveCode_done hm hp]
    rfl
  · rw [exec_moveDone_again can hs hm he (.inr hp), HandshakeUnit.moveCode_settled hm hp]
    rfl
  · have accepted := acceptMoveDone_eq (s := u) hs hm he
      ((if_pos hwait).trans (enterSettling_locked hl)) rfl
    by_cases hin : (s.frame.count - m.target).natAbs ≤ s.store.profile.settleWindow
    · have time : s.store.profile.settleTime ≠ 0 := by simpa [hin] using hmet
      have timed := settleEvaluate_timing (s := setEngineState .settling (u.moved m)) (decide_eq_true hin) time
      refine ⟨_, exec_moveDone_taken can hs hm he hp (accepted.trans timed), rfl, rfl, rfl, ?_, fun _ => rfl, rfl⟩
      rw [if_pos (decide_eq_true hin)]
      rfl
    · have out := settleEvaluate_outside (s := setEngineState .settling (u.moved m)) (decide_eq_false hin)
      refine ⟨_, exec_moveDone_taken can hs hm he hp (accepted.trans out), rfl, rfl, rfl, ?_, fun h => ?_, rfl⟩
      · rw [if_neg (by simp [hin])]
        rfl
      · simp [hin] at h
  · have accepted := acceptMoveDone_eq (s := u) hs hm he
      ((if_pos hwait).trans (enterSettling_locked hl)) rfl
    obtain ⟨hin, time⟩ : (s.frame.count - m.target).natAbs ≤ s.store.profile.settleWindow ∧ s.store.profile.settleTime = 0 := by
      simpa using hmet
    have met := settleEvaluate_met (s := setEngineState .settling (u.moved m)) (decide_eq_true hin) time
    have dwell := (settleMet_measuring (s := setEngineState .settling (u.moved m))
      (m := { m with phase := .done }) rfl rfl ha hw).trans (enterDwell_locked hl)
    exact ⟨_, exec_moveDone_taken can hs hm he hp (accepted.trans (met.trans dwell)), rfl, ha, rfl, rfl, rfl, rfl, rfl⟩
  · have waits : u.engine.state ≠ .moveWait := fun h => nomatch hwait.symm.trans h
    have accepted := acceptMoveDone_eq (s := u) hs hm he (if_neg waits) rfl
    by_cases hin : (s.frame.count - m.target).natAbs ≤ s.store.profile.settleWindow
    · by_cases time : s.store.profile.settleTime = 0
      · have met := settleEvaluate_met (s := u.moved m) (decide_eq_true hin) time
        have settled := settleMet_elsewhere (s := u.moved m) (m := { m with phase := .done }) rfl fun h => nomatch hwait.symm.trans h
        refine ⟨_, exec_moveDone_taken can hs hm he hp (accepted.trans (met.trans settled)), ?_⟩
        simp only [hin, time, decide_true, beq_self_eq_true, Bool.and_self, if_true]
        exact ⟨rfl, rfl, rfl, rfl, rfl, rfl, rfl, rfl⟩
      · have timed := settleEvaluate_timing (s := u.moved m) (decide_eq_true hin) time
        refine ⟨_, exec_moveDone_taken can hs hm he hp (accepted.trans timed), ?_⟩
        simp only [hin, time, decide_true, beq_iff_eq, Bool.true_and, if_false, if_true]
        exact ⟨rfl, rfl, rfl, rfl, rfl, rfl, rfl, rfl⟩
    · have out := settleEvaluate_outside (s := u.moved m) (decide_eq_false hin)
      refine ⟨_, exec_moveDone_taken can hs hm he hp (accepted.trans out), ?_⟩
      simp only [hin, decide_false, Bool.false_and, Bool.false_eq_true, if_false]
      exact ⟨rfl, rfl, rfl, rfl, rfl, rfl, rfl, rfl⟩

end Sys2Proof.Machine
end

section
/-! SUPPORT. How a job is taken from the queue or the stack and begun, and O17 and O18 (R30, R124, R138, R145 to R151). -/

namespace Sys2Proof.Machine

variable {s t u : State} {r : SearchRecord} {j : JobRecord} {p q : Port}

/-! ### Beginning a job (R30, R150, R151) -/

/-- The state in which a job has just become the active one in an engine state. -/
def State.begun (s : State) (r : SearchRecord) (e : EngineState) : State :=
  setEngineState e (setStatus r.job.work .measuring (setActive (some r) (dropHome s)))

/-- The begun job in the shop: the active one, its entry MEASURING. -/
def Shop.begun (x : Shop) (r : SearchRecord) (e : EngineState) : Shop := { x with
  statuses := r.job.work.mark .measuring x.statuses, engine := { x.engine with active := some r, state := e } }

theorem State.begun_shop (s : State) (r : SearchRecord) (e : EngineState) : (s.begun r e).shop = s.shop.begun r e := by
  unfold State.begun
  rw [setStatus_eq]
  rfl

@[simp] theorem placeHead_shop (s : State) : (placeHead s).shop = s.shop := by
  unfold placeHead
  split
  · rfl
  · split
    · exact placeHeadFor_shop _ _ s
    · rfl

theorem beginWork_moveTo {target : Int} (hw : r.job.work = .moveTo target) : beginWork r s = placeMove (s.begun r .moveWait) := by
  unfold beginWork State.begun
  dsimp only
  split
  · rfl
  · simp [‹r.job.work = _›] at hw
  · simp [‹r.job.work = _›] at hw

/-- A search that holds E0 places its head request; any other asks for its look-up. -/
theorem beginWork_search (hw : r.job.work.needsHead = true) : beginWork r s = if r.e0.isSome = true then placeHead (s.begun r .headWait)
    else askGrant .engine .e0LookUp (s.begun r .headWait) := by
  unfold beginWork State.begun
  dsimp only
  split
  · simp [‹r.job.work = _›, JobWork.needsHead] at hw
  · rfl
  · rfl

theorem beginWork_shop_search (hw : r.job.work.needsHead = true) (s : State) : (beginWork r s).shop = s.shop.begun r .headWait := by
  rw [beginWork_search hw]
  split
  · exact (placeHead_shop _).trans (s.begun_shop r _)
  · exact (askGrant_shop _ _ _).trans (s.begun_shop r _)

/-- A search without E0 gets the FREE grant for its look-up at once (R157). -/
theorem beginWork_lookUp_holder (hw : r.job.work.needsHead = true) (h0 : r.e0 = none) (hh : s.arbiter.holder = none) :
    (beginWork r s).arbiter.holder = some (.engine, .e0LookUp) := by
  have free : (s.begun r .headWait).arbiter.holder = none := by
    unfold State.begun
    rw [setStatus_eq]
    exact hh
  rw [beginWork_search hw, h0, if_neg (by decide), askGrant_free free]
  rfl

/-! ### Taking a job from the queue (R138, R139) -/

theorem takeHead_eq {rest : List JobRecord} (hq : s.jobs.queue = j :: rest) :
    takeHead s = beginWork (.fresh s.store.profile j) (postSpace (s.setJobs { s.jobs with queue := rest })) := by
  simp only [takeHead, hq]

theorem takeHead_shop_search {rest : List JobRecord} (hq : s.jobs.queue = j :: rest) (hw : j.work.needsHead = true) :
    (takeHead s).shop = ({ s.shop with jobs := { s.jobs with queue := rest, spaceW := false, spaceP := false } } : Shop).begun
      (.fresh s.store.profile j) .headWait := by
  rw [takeHead_eq hq, beginWork_shop_search hw]
  exact congrArg (fun x => Shop.begun x (.fresh s.store.profile j) .headWait) ((postSpace_shop _).trans rfl)

theorem takeHead_holder {rest : List JobRecord} (hq : s.jobs.queue = j :: rest) (hw : j.work.needsHead = true)
    (hh : s.arbiter.holder = none) : (takeHead s).arbiter.holder = some (.engine, .e0LookUp) := by
  rw [takeHead_eq hq]
  refine beginWork_lookUp_holder hw rfl ?_
  exact (congrArg Arbiter.holder (State.arbiter_of_mute (postSpace_mute _))).trans hh

/-- The state with a job in the queue and its entry QUEUED. -/
def State.queued (s : State) (f : JobRecord → List JobRecord → List JobRecord) (j : JobRecord) : State := { s with
  statuses := j.work.mark .queued s.statuses, jobs := { s.jobs with queue := f j s.jobs.queue, nextJob := idAfter 255 j.id } }

theorem acceptWith_eq (f : JobRecord → List JobRecord → List JobRecord) (w : JobWork) (c : JobClass) (b : Submitter) (g l : Option Nat)
    (s : State) : acceptWith f w c b g l s = s.queued f ⟨s.newJobId, w, c, b, g, l⟩ := by
  unfold acceptWith
  dsimp only
  rw [setStatus_eq]
  rfl

theorem submitJob_eq (p : Port) (tag : Byte) (w : JobWork) (c : JobClass) (b : Submitter) (l : Option Nat) (s : State) :
    submitJob p tag w c b l s = reply p tag (u8 s.newJobId ++ u8 (aheadOf c s.jobs.queue).length)
      (advance (s.queued enqueue ⟨s.newJobId, w, c, b, none, l⟩)) :=
  congrArg (fun t => reply p tag _ (advance t)) (acceptWith_eq enqueue w c b none l s)

/-- A queue head that can start is taken by an IDLE engine with nothing due or stacked (R138). -/
theorem advance_takes {rest : List JobRecord} (hi : s.engine.state = .idle) (hd : s.jobs.publishDue = false) (hs : s.stack = [])
    (hq : s.jobs.queue = j :: rest) (hc : s.canStart j.work = true) : advance s = takeHead s := by
  simp [advance, hi, hd, hs, hq, hc]

theorem State.status_marked {w : JobWork} {h z : Nat} {st : EntryStatus} {v : Vector EntryStatus 192} (ht : t.statuses = w.mark st v)
    (hp : w.place = some (h, z)) (hl : entryIndex h z < 192) : t.status h z = st := by
  unfold State.status
  rw [ht]
  exact JobWork.mark_index (JobWork.index_of_place hp) hl st v

theorem sweepClassArg_some {b : Byte} (h : b.toNat ≤ 1) : ∃ c, sweepClassArg b = some c := by
  unfold sweepClassArg
  by_cases h0 : b = 0
  · exact ⟨_, if_pos h0⟩
  · exact ⟨_, (if_neg h0).trans (if_pos (by bv_omega))⟩

theorem limitArg_some {b : Byte} (h : b.toNat ≤ 8) : limitArg b = some (if b = 0 then none else some b.toNat) := by
  unfold limitArg
  by_cases h0 : b = 0
  · rw [if_pos h0, if_pos h0]
  · rw [if_neg h0, if_pos h, if_neg h0]

theorem exec_submitMeasure_accepted {tag head zone cls limit : Byte} {c : JobClass} {l : Option Nat} (hr : s.canSendReady .workstation)
    (hc : sweepClassArg cls = some c) (hl : limitArg limit = some l)
    (he : s.entryCheck .workstation head.toNat zone.toNat = none) : exec (.submitMeasure .workstation tag head zone cls limit) s
    = .next (submitJob .workstation tag (.measure head.toNat zone.toNat) c .w l
      (s.setSlot .workstation (.pending (.submitMeasure .workstation tag head zone cls limit)))) := by
  refine congrArg Host.Outcome.next ((request_taken hr.1 (by simp) fun _ => hr.2).trans ?_)
  have check : (s.setSlot .workstation (.pending (.submitMeasure .workstation tag head zone cls limit))).entryCheck .workstation
      head.toNat zone.toNat = none := he
  simp only [hc, hl, check]

/-- Settles O17: the job is accepted, taken and begun in one event. -/
theorem submittedJobStarts : Obligations.SubmittedJobStarts := by
  intro tag head zone cls limit s ready hcls hlimit check hl hi ha hq hs hg hp hd hh
  obtain ⟨c, hc⟩ := sweepClassArg_some hcls
  have taken := exec_submitMeasure_accepted (tag := tag) ready hc (limitArg_some hlimit) check
  let j : JobRecord := ⟨s.newJobId, .measure head.toNat zone.toNat, c, .w, none, if limit = 0 then none else some limit.toNat⟩
  let a := (s.setSlot .workstation (.pending (.submitMeasure .workstation tag head zone cls limit))).queued enqueue j
  have due : a.jobs.publishDue = false := JobQueue.publishDue_nil hg
  have queue : a.jobs.queue = [j] := congrArg (enqueue j) hq
  have store : a.store.state = .ready := ready.2
  have attached : (a.port .positioner).attached = true ∧ (a.port .adapter).attached = true := ⟨hp, hd⟩
  have starts : a.canStart j.work = true := by simp [State.canStart, State.portsReady, due, store, attached]
  have advanced : advance a = takeHead a := advance_takes (s := a) hi due hs queue starts
  rw [submitJob_eq] at taken
  have shop := (reply_shop .workstation tag (u8 s.newJobId ++ u8 (aheadOf c s.jobs.queue).length) _).trans (takeHead_shop_search queue rfl)
  refine ⟨_, .fresh s.store.profile j, taken.trans (congrArg (fun v => Host.Outcome.next (reply .workstation tag _ v)) advanced),
    congrArg (·.engine.state) shop, congrArg (·.engine.active) shop, rfl, ?_, rfl, rfl, rfl, congrArg (·.jobs.queue) shop,
    State.status_marked (w := j.work) (v := a.statuses) (congrArg Shop.statuses shop) rfl hl, takeHead_holder (s := a) queue rfl hh⟩
  show (if limit = 0 then none else some limit.toNat).getD s.store.profile.maxIterations = _
  split <;> rfl

end Sys2Proof.Machine
end

section
/-! SUPPORT. How a job is displaced and resumed, and O18 (R145 to R151). -/

namespace Sys2Proof.Machine

variable {s t u : State} {r : SearchRecord} {j : JobRecord} {p q : Port} {m : MoveRequest} {x : HeadRequest}

/-! ### Requests ended and withdrawn, and what the ports are told (R108, R116) -/

/-- A move's end is its record and the settle test stopped. -/
theorem endMove_eq (hm : s.handshake.move = some m) (e : MoveEnd) : endMove e s = clearSettle (s.setHandshake (s.handshake.endMove e)) := by
  rw [HandshakeUnit.endMove_some hm]
  simp only [endMove, hm]
  exact congrArg clearSettle (setMove_eq fun h => absurd h Bool.false_ne_true)

/-- A head request's end is its record. -/
theorem endHead_eq (hx : s.handshake.head = some x) (e : HeadEnd) : endHead e s = s.setHandshake (s.handshake.endHead e) := by
  rw [HandshakeUnit.endHead_some hx]
  simp only [endHead, hx]
  exact setHead_eq fun h => absurd h Bool.false_ne_true

theorem withdrawMove_eq (hm : s.handshake.move = some m) (c : Cause) : withdrawMove c s
    = post .withdrawn (.withdrawn m.sequence c) .positioner (clearSettle (s.setHandshake (s.handshake.endMove (.withdrawn c)))) := by
  simp only [withdrawMove, hm, postMoveWithdrawn, endMove_eq hm]

theorem withdrawHead_eq (hx : s.handshake.head = some x) (c : Cause) : withdrawHead c s
    = post .withdrawn (.withdrawn x.sequence c) .adapter (s.setHandshake (s.handshake.endHead (.withdrawn c))) := by
  simp only [withdrawHead, hx, postHeadWithdrawn, endHead_eq hx]

/-- A withdrawal of the head request tells Port D alone. -/
theorem withdrawHead_notices (hq : q ≠ .adapter) (c : Cause) (s : State) :
    ((withdrawHead c s).port q).notices.details = (s.port q).notices.details := by
  cases hx : s.handshake.head with
  | none => simp only [withdrawHead, hx]
  | some x =>
    rw [withdrawHead_eq hx, post_details, if_neg fun h => hq h.1]
    rfl

/-- Both requests withdrawn: each ATTACHED port is told of its own. -/
theorem withdrawBoth_told (c : Cause) (s : State) :
    (∀ m, s.handshake.move = some m → (s.port .positioner).attached = true →
      ((withdrawBoth c s).port .positioner).notices.details.withdrawn = some (.withdrawn m.sequence c))
    ∧ ∀ x, s.handshake.head = some x → (s.port .adapter).attached = true →
      ((withdrawBoth c s).port .adapter).notices.details.withdrawn = some (.withdrawn x.sequence c) := by
  refine ⟨fun m hm ha => ?_, fun x hx ha => ?_⟩
  · unfold withdrawBoth
    rw [withdrawHead_notices (q := .positioner) (by decide), withdrawMove_eq hm]
    exact post_detail_same (src := .withdrawn) (s := clearSettle (s.setHandshake (s.handshake.endMove (.withdrawn c)))) ha
  · have head : (withdrawMove c s).handshake.head = some x := by
      rw [withdrawMove_handshake_eq, (s.handshake.endMove_parts _).2.1, hx]
    have attached : ((withdrawMove c s).port .adapter).attached = true := by rw [State.attached_of_kept (withdrawMove_kept c s), ha]
    unfold withdrawBoth
    rw [withdrawHead_eq head]
    exact post_detail_same (src := .withdrawn) (s := (withdrawMove c s).setHandshake _) attached

/-- Free slots are told under QUEUE_SPACE alone (R128). -/
theorem postSpace_withdrawn (q : Port) (s : State) :
    ((postSpace s).port q).notices.details.withdrawn = (s.port q).notices.details.withdrawn := by
  have other : ∀ (d : Detail) (p : Port) (u : State),
      ((post .queueSpace d p u).port q).notices.details.withdrawn = (u.port q).notices.details.withdrawn := fun d p u => by
    rw [post_details]
    split
    · rename_i h
      rw [h.1]
      rfl
    · rfl
  unfold postSpace
  dsimp only
  split
  · rw [other]
    split
    · exact other _ _ _
    · rfl
  · split
    · exact other _ _ _
    · rfl

/-- A job without E0 that is taken from the queue leaves what the ports have been told of withdrawals. -/
theorem takeHead_withdrawn {rest : List JobRecord} (hq : s.jobs.queue = j :: rest) (hw : j.work.needsHead = true) (q : Port) :
    ((takeHead s).port q).notices.details.withdrawn = (s.port q).notices.details.withdrawn := by
  have asked : ∀ (v : State), ((askGrant .engine .e0LookUp v).port q).notices = (v.port q).notices := fun v =>
    (congrArg LinkPort.notices (State.port_of_aside (askGrant_aside .engine .e0LookUp v) q)).trans rfl
  rw [takeHead_eq hq, beginWork_search hw]
  refine (congrArg (·.details.withdrawn) (asked _)).trans ?_
  unfold State.begun
  rw [setStatus_eq]
  exact postSpace_withdrawn q _

/-! ### Displacement (R145, R146) -/

/-- The active job's search displaced: the dwell dropped, both requests withdrawn, the record on the stack and its entry SUSPENDED. -/
def State.displaced (s : State) (r : SearchRecord) : State :=
  setStatus r.job.work .suspended { withdrawBoth .preempted (leaveWork s) with stack := r :: (withdrawBoth .preempted (leaveWork s)).stack }

theorem preempt_eq (ha : s.engine.active = some r) : preempt s = takeHead (s.displaced r) := by
  unfold preempt
  split
  · cases (‹s.engine.active = none›.symm.trans ha)
  · obtain rfl := Option.some.inj (‹s.engine.active = some _›.symm.trans ha)
    rfl

theorem State.displaced_shop (s : State) (r : SearchRecord) : (s.displaced r).shop = { s.shop with
    stack := r :: s.stack, statuses := r.job.work.mark .suspended s.statuses
    engine := { s.engine with dwell := s.engine.dwell.cleared }, sample := s.sample.left s.engine.state } := by
  have left := (withdrawBoth_shop .preempted (leaveWork s)).trans (leaveWork_shop s)
  unfold State.displaced
  rw [setStatus_eq]
  exact congrArg (fun x : Shop => { x with stack := r :: x.stack, statuses := r.job.work.mark .suspended x.statuses }) left

theorem State.displaced_handshake (s : State) (r : SearchRecord) : (s.displaced r).handshake
    = (s.handshake.endMove (.withdrawn .preempted)).endHead (.withdrawn .preempted) := by
  unfold State.displaced
  rw [setStatus_eq]
  simp

theorem withdrawAsk_holder (c : Client) (s : State) : (withdrawAsk c s).arbiter.holder = s.arbiter.holder := by
  unfold withdrawAsk
  dsimp only
  split <;> rfl

theorem leaveWork_holder (s : State) : (leaveWork s).arbiter.holder = s.arbiter.holder := by
  have dropped : (dropDwell s).arbiter = s.arbiter := by
    unfold dropDwell
    dsimp only
    split <;> rfl
  unfold leaveWork withdrawLookUp
  split
  · rw [withdrawAsk_holder, dropped]
  · rw [dropped]

theorem withdrawBoth_arbiter (c : Cause) (s : State) : (withdrawBoth c s).arbiter = s.arbiter := by
  have move : ∀ s : State, (withdrawMove c s).arbiter = s.arbiter := fun s => by
    cases hm : s.handshake.move with
    | none => simp only [withdrawMove, hm]
    | some m =>
      rw [withdrawMove_eq hm, post_arbiter]
      rfl
  have head : ∀ s : State, (withdrawHead c s).arbiter = s.arbiter := fun s => by
    cases hx : s.handshake.head with
    | none => simp only [withdrawHead, hx]
    | some x =>
      rw [withdrawHead_eq hx, post_arbiter]
      rfl
  exact (head _).trans (move s)

theorem State.displaced_holder (s : State) (r : SearchRecord) : (s.displaced r).arbiter.holder = s.arbiter.holder := by
  unfold State.displaced
  rw [setStatus_eq]
  show (withdrawBoth .preempted (leaveWork s)).arbiter.holder = _
  rw [withdrawBoth_arbiter, leaveWork_holder]

/-- The displacement tells each ATTACHED port of its withdrawn request. -/
theorem State.displaced_told (s : State) (r : SearchRecord) :
    (∀ m, s.handshake.move = some m → (s.port .positioner).attached = true →
      ((s.displaced r).port .positioner).notices.details.withdrawn = some (.withdrawn m.sequence .preempted))
    ∧ ∀ x, s.handshake.head = some x → (s.port .adapter).attached = true →
      ((s.displaced r).port .adapter).notices.details.withdrawn = some (.withdrawn x.sequence .preempted) := by
  have told := withdrawBoth_told .preempted (leaveWork s)
  simp only [leaveWork_handshake, State.attached_of_kept (leaveWork_kept s)] at told
  unfold State.displaced
  rw [setStatus_eq]
  exact told

theorem takeHead_handshake_search {rest : List JobRecord} (hq : s.jobs.queue = j :: rest) (hw : j.work.needsHead = true) :
    (takeHead s).handshake = s.handshake := by
  rw [takeHead_eq hq, beginWork_search hw]
  refine (askGrant_handshake _ _ _).trans ?_
  unfold State.begun
  rw [setStatus_eq]
  exact postSpace_handshake _

/-- An URGENT job stands ahead of a queue without one. -/
theorem enqueue_urgent {l : List JobRecord} (hj : j.cls = .urgent) (hl : ∀ k ∈ l, k.cls ≠ .urgent) : enqueue j l = j :: l := by
  cases l with
  | nil => rfl
  | cons k l =>
    have lower : decide (j.cls.rank ≤ k.cls.rank) = false := by
      have := hl k List.mem_cons_self
      rw [hj]
      cases hk : k.cls with
      | urgent => exact absurd hk this
      | priority => rfl
      | normal => rfl
    simp [enqueue, aheadOf, lower]

theorem JobQueue.publishDue_of_none {x : JobQueue} (h : ∀ g ∈ x.groups, g.due = false) : x.publishDue = false := by
  simpa [JobQueue.publishDue] using h

/-- A queue head above the active job displaces it where the stack has room and its ports are ATTACHED (R145). -/
theorem advance_preempts {rest : List JobRecord} (hw : s.engine.state.working = true) (ha : s.engine.active = some r)
    (hq : s.jobs.queue = j :: rest) (hc : r.job.cls.rank < j.cls.rank) (hs : s.stack.length < 2) (hd : s.jobs.publishDue = false)
    (hp : s.portsReady j.work = true) : advance s = preempt s := by
  have must : s.mustPreempt = true := by simp [State.mustPreempt, ha, hq, hw, hc, hs, hd, hp, Config.stackSlots]
  have tried : tryPreempt s = preempt s := if_pos must
  unfold advance
  split
  · simp [‹s.engine.state = _›, EngineState.working] at hw
  · exact tried

/-- A top context at least of the queue's classes is resumed by an IDLE engine with nothing due (R145, R149). -/
theorem advance_resumes {rest : List SearchRecord} (hi : s.engine.state = .idle) (hd : s.jobs.publishDue = false) (hs : s.stack = r :: rest)
    (hc : s.canStart r.job.work = true) (hq : ∀ k ∈ s.jobs.queue, k.cls.rank ≤ r.job.cls.rank) :
    advance s = beginWork r { s with stack := rest } := by
  obtain ⟨e, -, work⟩ := resumeTop_work hs
  have queue : (resumeTop s).jobs.queue = s.jobs.queue := congrArg Work.queue work
  have active : (resumeTop s).engine.active.map SearchRecord.job = some r.job := congrArg Work.active work
  have stays : (resumeTop s).mustPreempt = false := by
    obtain ⟨x, hx, hj⟩ := Option.map_eq_some_iff.mp active
    unfold State.mustPreempt
    rw [hx, queue]
    cases hl : s.jobs.queue with
    | nil => rfl
    | cons k l => simp [hj, Nat.not_lt.mpr (hq k (hl ▸ List.mem_cons_self))]
  have resumed : resumeTop s = beginWork r { s with stack := rest } := by simp only [resumeTop, hs]
  rw [← resumed]
  simp [advance, hi, hd, hs, hc, tryPreempt, stays]

theorem State.status_idle_of_entryCheck {h z : Nat} (hc : s.entryCheck p h z = none) : s.status h z = .idle := by
  by_contra busy
  unfold State.entryCheck at hc
  split at hc
  · cases hc
  · split at hc
    · cases hc
    · cases hc

theorem exec_submitReferenceCheck_accepted {tag zone : Byte} (hr : s.canSendReady .positioner)
    (he : s.entryCheck .positioner s.store.profile.referenceHead zone.toNat = none) : exec (.submitReferenceCheck .positioner tag zone) s
    = .next (submitJob .positioner tag (.referenceCheck s.store.profile.referenceHead zone.toNat) .urgent .p none
      (s.setSlot .positioner (.pending (.submitReferenceCheck .positioner tag zone)))) := by
  refine congrArg Host.Outcome.next ((request_taken hr.1 (by simp) fun _ => hr.2).trans ?_)
  have check : (s.setSlot .positioner (.pending (.submitReferenceCheck .positioner tag zone))).entryCheck .positioner
      (s.setSlot .positioner (.pending (.submitReferenceCheck .positioner tag zone))).store.profile.referenceHead zone.toNat = none := he
  simp only [check]
  rfl

/-- A place whose status differs from that of a job's place has another index. -/
theorem JobWork.index_ne_of_status {w : JobWork} {h z h' z' : Nat} (hp : w.place = some (h, z)) (hs : s.status h z ≠ s.status h' z') :
    w.index ≠ some (entryIndex h' z') := fun hi => by
  rw [JobWork.index_of_place hp, Option.some.injEq] at hi
  exact hs (congrArg (fun i => (s.statuses[i]?).getD EntryStatus.idle) hi)

theorem JobClass.rank_lt_urgent {c : JobClass} (h : c ≠ .urgent) : c.rank < JobClass.urgent.rank := by
  cases c with
  | urgent => exact absurd rfl h
  | priority => decide
  | normal => decide

/-- A reference check of Port P displaces the active job (R145, R146). -/
theorem exec_submitReferenceCheck_preempts {tag zone : Byte} (ready : s.canSendReady .positioner) (ha : s.engine.active = some r)
    (hw : s.engine.state.working = true) (hc : r.job.cls ≠ .urgent) (hs : s.stack.length < 2) (hq : ∀ j ∈ s.jobs.queue, j.cls ≠ .urgent)
    (hg : ∀ g ∈ s.jobs.groups, g.due = false) (hd : (s.port .adapter).attached = true)
    (check : s.entryCheck .positioner s.store.profile.referenceHead zone.toNat = none) :
    ∃ (l : List Byte) (j : JobRecord) (a : State), a = (s.setSlot .positioner (.pending (.submitReferenceCheck .positioner tag zone))).queued enqueue j
      ∧ j = ⟨s.newJobId, .referenceCheck s.store.profile.referenceHead zone.toNat, .urgent, .p, none, none⟩
      ∧ a.jobs.queue = j :: s.jobs.queue
      ∧ exec (.submitReferenceCheck .positioner tag zone) s = .next (reply .positioner tag l (takeHead (a.displaced r))) := by
  have taken := exec_submitReferenceCheck_accepted (tag := tag) ready check
  rw [submitJob_eq] at taken
  let j : JobRecord := ⟨s.newJobId, .referenceCheck s.store.profile.referenceHead zone.toNat, .urgent, .p, none, none⟩
  let a := (s.setSlot .positioner (.pending (.submitReferenceCheck .positioner tag zone))).queued enqueue j
  have queue : a.jobs.queue = j :: s.jobs.queue := enqueue_urgent rfl hq
  have attached : (a.port .positioner).attached = true ∧ (a.port .adapter).attached = true := ⟨ready.1.2, hd⟩
  have advanced : advance a = takeHead (a.displaced r) := (advance_preempts (s := a) hw ha queue (JobClass.rank_lt_urgent hc) hs
    (JobQueue.publishDue_of_none hg) (by simp [State.portsReady, attached])).trans (preempt_eq ha)
  exact ⟨_, j, a, rfl, rfl, queue, taken.trans (congrArg (fun v => Host.Outcome.next (reply .positioner tag _ v)) advanced)⟩

/-- The state the displacement by a search of the queue head leads to. -/
theorem displaced_takeHead_shop {rest : List JobRecord} (hq : s.jobs.queue = j :: rest) (hw : j.work.needsHead = true) :
    (takeHead (s.displaced r)).shop = ({ s.shop with
      jobs := { s.jobs with queue := rest, spaceW := false, spaceP := false }
      stack := r :: s.stack, statuses := r.job.work.mark .suspended s.statuses
      engine := { s.engine with dwell := s.engine.dwell.cleared }, sample := s.sample.left s.engine.state } : Shop).begun
      (.fresh (s.displaced r).store.profile j) .headWait := by
  have shop := s.displaced_shop r
  have jobs : (s.displaced r).jobs = s.jobs := congrArg Shop.jobs shop
  have taken := takeHead_shop_search (s := s.displaced r) (rest := rest) (by rw [jobs, hq]) hw
  rw [taken, shop, jobs]

/-- The ends of the requests that the displacement withdraws. -/
theorem HandshakeUnit.withdrawn_ends (h : HandshakeUnit) (c : Cause) :
    (∀ m, h.move = some m → ((h.endMove (.withdrawn c)).endHead (.withdrawn c)).lastMoveEnd = some (.withdrawn c, m.sequence))
    ∧ ∀ x, h.head = some x → ((h.endMove (.withdrawn c)).endHead (.withdrawn c)).lastHeadEnd = some (.withdrawn c, x.sequence) := by
  refine ⟨fun m hm => ?_, fun x hx => ?_⟩
  · rw [((h.endMove _).endHead_parts _).2.2, HandshakeUnit.endMove_some hm]
  · rw [HandshakeUnit.endHead_some ((h.endMove_parts _).2.1.trans hx)]

theorem State.begun_eq (s : State) (r : SearchRecord) (e : EngineState) : s.begun r e = { s with
    statuses := r.job.work.mark .measuring s.statuses, engine := { s.engine with active := some r, state := e }
    frame := (dropHome s).frame } := by
  unfold State.begun
  rw [setStatus_eq]
  rfl

@[simp] theorem State.begun_handshake (s : State) (r : SearchRecord) (e : EngineState) : (s.begun r e).handshake = s.handshake := by
  rw [State.begun_eq]
@[simp] theorem State.begun_store (s : State) (r : SearchRecord) (e : EngineState) : (s.begun r e).store = s.store := by rw [State.begun_eq]
@[simp] theorem State.begun_arbiter (s : State) (r : SearchRecord) (e : EngineState) : (s.begun r e).arbiter = s.arbiter := by
  rw [State.begun_eq]
@[simp] theorem State.begun_engine (s : State) (r : SearchRecord) (e : EngineState) :
    (s.begun r e).engine = { s.engine with active := some r, state := e } := by rw [State.begun_eq]

theorem placeHead_active {h z : Nat} (ha : s.engine.active = some r) (hp : r.job.work.place = some (h, z)) :
    placeHead s = placeHeadFor h r.job.id s := by
  simp only [placeHead, ha, hp]

/-- A MOVE TO begun, or begun again, has its move request placed for its target (R102, R151). -/
theorem beginWork_moveTo_facts {target : Int} (hw : r.job.work = .moveTo target) (s : State) :
    (beginWork r s).stack = s.stack ∧ (beginWork r s).engine.state = .moveWait
      ∧ (beginWork r s).engine.active = some { r with target := some (s.store.profile.clampTravel (r.target.getD 0)) }
      ∧ (beginWork r s).handshake.move
        = some ⟨.requested, nextSequence s.handshake.moveSequence, s.store.profile.clampTravel (r.target.getD 0), r.job.id⟩
      ∧ (beginWork r s).handshake.moveTimeout = .running (s.store.profile.moveTimeout * 1000) := by
  have active : (s.begun r .moveWait).engine.active = some r := by rw [State.begun_engine]
  have shop := placeMove_shop active
  have engine := placeMove_engine active
  have placed := placeMove_handshake active
  have stack : (s.begun r .moveWait).stack = s.stack := by rw [State.begun_eq]
  rw [State.begun_store, State.begun_engine] at engine
  rw [State.begun_store, State.begun_handshake] at placed
  rw [beginWork_moveTo hw]
  exact ⟨(congrArg Shop.stack shop).trans stack, congrArg Engine.state engine, congrArg Engine.active engine,
    congrArg HandshakeUnit.move placed, congrArg HandshakeUnit.moveTimeout placed⟩

/-- A search that holds E0, begun again, has its head request placed (R109, R151). -/
theorem beginWork_again_facts {h z : Nat} (hw : r.job.work.needsHead = true) (hp : r.job.work.place = some (h, z))
    (h0 : r.e0.isSome = true) (s : State) :
    (beginWork r s).handshake.head = some ⟨.requested, nextSequence s.handshake.headSequence, h, r.job.id⟩
      ∧ (beginWork r s).handshake.headTimeout = .running (s.store.profile.headSelectTimeout * 1000)
      ∧ (beginWork r s).arbiter = s.arbiter := by
  have active : (s.begun r .headWait).engine.active = some r := by rw [State.begun_engine]
  have mute := placeHeadFor_mute h r.job.id (s.begun r .headWait)
  have handshake := State.handshake_of_mute mute
  rw [State.begun_store, State.begun_handshake] at handshake
  rw [beginWork_search hw, if_pos h0, placeHead_active active hp]
  exact ⟨congrArg HandshakeUnit.head handshake, congrArg HandshakeUnit.headTimeout handshake,
    (State.arbiter_of_mute mute).trans (s.begun_arbiter r .headWait)⟩

theorem JobWork.place_of_moveTo {w : JobWork} {target : Int} (h : w = .moveTo target) : w.place = none := by rw [h]; rfl

theorem JobWork.moveTo_of_needsHead {w : JobWork} (h : w.needsHead = false) : ∃ target, w = .moveTo target := by
  cases w with
  | moveTo target => exact ⟨target, rfl⟩
  | measure h z => cases ‹_ = false›
  | referenceCheck h z => cases ‹_ = false›

/-- Settles O18: the displacement and the resumption, each in its parts. -/
theorem preemptionAndResume : Obligations.PreemptionAndResume := by
  refine ⟨fun tag zone r s ready ha hw hc hs hq hg hd hh check hl hr => ?_, fun tag r rest s can he hp hst hs hq hg hpa hda => ?_⟩
  · obtain ⟨l, j, a, ha', hj, queue, taken⟩ := exec_submitReferenceCheck_preempts (tag := tag) ready ha hw hc hs hq hg hd check
    have search : j.work.needsHead = true := by rw [hj]; rfl
    have place : j.work.place = some (s.store.profile.referenceHead, zone.toNat) := by rw [hj]; rfl
    have rest : (a.displaced r).jobs.queue = j :: s.jobs.queue := (congrArg (·.jobs.queue) (a.displaced_shop r)).trans queue
    have shop := (reply_shop .positioner tag l _).trans (displaced_takeHead_shop (r := r) queue search)
    have handshake : (reply .positioner tag l (takeHead (a.displaced r))).handshake = _ :=
      (takeHead_handshake_search rest search).trans (a.displaced_handshake r)
    have holder : (reply .positioner tag l (takeHead (a.displaced r))).arbiter.holder = _ :=
      takeHead_holder rest search ((a.displaced_holder r).trans (ha' ▸ hh))
    have notices : ∀ q, ((reply .positioner tag l (takeHead (a.displaced r))).port q).notices.details.withdrawn
        = ((a.displaced r).port q).notices.details.withdrawn := fun q =>
      (congrArg (·.notices.details.withdrawn) (State.port_of_aside (answer_aside .positioner tag _ _) q)).trans (takeHead_withdrawn rest search q)
    have told := a.displaced_told r
    generalize reply .positioner tag l (takeHead (a.displaced r)) = t at *
    have statuses : t.statuses = j.work.mark .measuring (r.job.work.mark .suspended a.statuses) := congrArg Shop.statuses shop
    have completions : ∀ p, (t.port p).completions = (a.port p).completions := fun p => congrFun (congrArg Shop.completions shop) p
    have kept : ∀ p, (a.port p).completions = (s.port p).completions := by
      rw [ha']
      exact fun p => State.completions_of_shop (setSlot_shop s .positioner _) p
    subst ha' hj
    obtain ⟨moveEnd, headEnd⟩ := s.handshake.withdrawn_ends .preempted
    obtain ⟨move, head⟩ := s.handshake.both_ended (.withdrawn .preempted) (.withdrawn .preempted)
    have idle := State.status_idle_of_entryCheck check
    refine ⟨t, .fresh _ _, taken, congrArg Shop.stack shop, fun h z hz => ?_, congrArg (·.engine.state) shop,
      congrArg (·.engine.active) shop, rfl, rfl, rfl, rfl, rfl, State.status_marked statuses place hl, holder,
      (congrArg HandshakeUnit.move handshake).trans move, (congrArg HandshakeUnit.head handshake).trans head,
      congrArg (·.engine.dwell.n) shop, fun dwell => ?_, fun m hm => ⟨?_, ?_⟩, fun x hx => ⟨?_, ?_⟩,
      fun p => (completions p).trans (kept p), congrArg (·.jobs.queue) shop, congrArg (·.jobs.groups) shop,
      congrArg (·.jobs.drift) shop, congrArg (·.jobs.pendingZone) shop⟩
    · obtain ⟨hh16, hz12, measuring⟩ := hr h z hz
      have other := JobWork.index_ne_of_status (s := s) (h' := h) (z' := z) place (by rw [idle, measuring]; decide)
      unfold State.status
      rw [statuses]
      refine (congrArg (·.getD EntryStatus.idle) (JobWork.mark_other other _ _)).trans ?_
      exact JobWork.mark_index (JobWork.index_of_place hz) (entryIndex_lt hh16 hz12) _ _
    · refine (congrArg (·.sample.fifo) shop).trans ?_
      show (s.sample.left s.engine.state).fifo = []
      rw [dwell]
      rfl
    · exact (congrArg HandshakeUnit.lastMoveEnd handshake).trans (moveEnd m hm)
    · exact (notices .positioner).trans (told.1 m hm ready.1.2)
    · exact (congrArg HandshakeUnit.lastHeadEnd handshake).trans (headEnd x hx)
    · exact (notices .adapter).trans (told.2 x hx hd)
  · let v := setEngineState .idle (s.setSlot .workstation (.pending (.resumeEngine .workstation tag)))
    have due : v.jobs.publishDue = false := JobQueue.publishDue_of_none hg
    have store : v.store.state = .ready := hst
    have attached : (v.port .positioner).attached = true ∧ (v.port .adapter).attached = true := ⟨hpa, hda⟩
    have advanced : advance v = beginWork r { v with stack := rest } := advance_resumes (s := v) rfl due hs
      (by simp [State.canStart, State.portsReady, due, store, attached]) hq
    have taken := exec_resumeEngine_taken can tag
    rw [if_neg (by simp [hp]), if_pos he] at taken
    refine ⟨_, taken.trans (congrArg (fun w => Host.Outcome.next (reply .workstation tag (u8 w.engine.state.code) w)) advanced), ?_⟩
    generalize u8 (beginWork r { v with stack := rest }).engine.state.code = l
    by_cases hw : r.job.work.needsHead = true
    · have shop := (reply_shop .workstation tag l _).trans (beginWork_shop_search hw { v with stack := rest })
      have statuses : (reply .workstation tag l (beginWork r { v with stack := rest })).statuses = r.job.work.mark .measuring s.statuses :=
        congrArg Shop.statuses shop
      refine ⟨congrArg Shop.stack shop, fun h z hh hz hp => State.status_marked statuses hp (entryIndex_lt hh hz),
        fun h z hp => ⟨congrArg (·.engine.state) shop, congrArg (·.engine.active) shop, fun h0 => ?_, fun h0 hf => ?_⟩, fun target ht => ?_⟩
      · exact beginWork_again_facts (s := { v with stack := rest }) hw hp h0
      · exact beginWork_lookUp_holder (s := { v with stack := rest }) hw h0 hf
      · rw [ht] at hw
        cases hw
    · obtain ⟨target, ht⟩ := JobWork.moveTo_of_needsHead (Bool.eq_false_iff.mpr hw)
      have place := JobWork.place_of_moveTo ht
      obtain ⟨stack, state, active, move, timeout⟩ := beginWork_moveTo_facts ht { v with stack := rest }
      exact ⟨stack, fun h z _ _ hp => (nomatch place.symm.trans hp), fun h z hp => (nomatch place.symm.trans hp),
        fun _ _ => ⟨state, active, move, timeout⟩⟩

end Sys2Proof.Machine
end

section
/-! SUPPORT. Which jobs stand anywhere after the engine has gone on, and O20 (R122, R133, R138, R145, R153). -/

namespace Sys2Proof.Machine

variable {s t u : State} {r : SearchRecord} {j k : JobRecord} {p q : Port} {w v : Work} {n : Nat}

/-! ### The jobs that stand (R121, R122) -/

/-- A job is queued, active or stacked. -/
def Work.holds (w : Work) (j : JobRecord) : Prop := j ∈ w.queue ∨ w.active = some j ∨ j ∈ w.stack

theorem State.mem_heldIds : n ∈ s.heldIds ↔ ∃ j, s.work.holds j ∧ j.id = n := by
  have active : (∃ r, s.engine.active = some r ∧ r.job.id = n) ↔ ∃ j, s.work.active = some j ∧ j.id = n := by
    simp [State.work, Option.map_eq_some_iff]
  have stack : (∃ r ∈ s.stack, r.job.id = n) ↔ ∃ j ∈ s.work.stack, j.id = n := by simp [State.work]
  simp only [State.heldIds, List.mem_append, List.mem_map, Option.mem_toList, Option.map_eq_some_iff, active, stack, Work.holds,
    or_and_right, exists_or, or_assoc]
  rfl

/-- Distinct ids tell the queue, the active job and the stack apart. -/
theorem State.apart_of_nodup (h : s.heldIds.Nodup) :
    (∀ j ∈ s.jobs.queue, ∀ r, s.engine.active = some r → j.id ≠ r.job.id)
    ∧ (∀ j ∈ s.jobs.queue, ∀ r ∈ s.stack, j.id ≠ r.job.id)
    ∧ ∀ r, s.engine.active = some r → ∀ x ∈ s.stack, r.job.id ≠ x.job.id := by
  unfold State.heldIds at h
  obtain ⟨front, -, stack⟩ := List.nodup_append.mp h
  obtain ⟨-, -, queue⟩ := List.nodup_append.mp front
  refine ⟨fun j hj r hr => ?_, fun j hj r hr => ?_, fun r hr x hx => ?_⟩
  · exact queue _ (List.mem_map_of_mem hj) _ (by simp [hr])
  · exact stack _ (List.mem_append_left _ (List.mem_map_of_mem hj)) _ (List.mem_map_of_mem (f := fun r : SearchRecord => r.job.id) hr)
  · exact stack _ (List.mem_append_right _ (by simp [hr])) _ (List.mem_map_of_mem (f := fun r : SearchRecord => r.job.id) hx)

/-! ### Going on holds no new job (R138, R145, R149) -/

theorem takeHead_holds (h : (takeHead s).work.holds j) : s.work.holds j := by
  cases hq : s.jobs.queue with
  | nil =>
    have same : takeHead s = s := by simp only [takeHead, hq]
    rwa [same] at h
  | cons k rest =>
    obtain ⟨e, -, hw⟩ := takeHead_work hq
    rw [hw] at h
    have queue : s.work.queue = k :: rest := hq
    obtain h | h | h := h
    · exact .inl (queue ▸ List.mem_cons_of_mem k h)
    · obtain rfl := Option.some.inj h
      exact .inl (queue ▸ List.mem_cons_self)
    · exact .inr (.inr h)

theorem resumeTop_holds (h : (resumeTop s).work.holds j) : s.work.holds j := by
  cases hs : s.stack with
  | nil =>
    have same : resumeTop s = s := by simp only [resumeTop, hs]
    rwa [same] at h
  | cons r rest =>
    obtain ⟨e, -, hw⟩ := resumeTop_work hs
    rw [hw] at h
    have stack : s.work.stack = r.job :: rest.map SearchRecord.job := congrArg (List.map SearchRecord.job) hs
    obtain h | h | h := h
    · exact .inl h
    · obtain rfl := Option.some.inj h
      exact .inr (.inr (stack ▸ List.mem_cons_self))
    · exact .inr (.inr (stack ▸ List.mem_cons_of_mem _ h))

theorem tryPreempt_holds (h : (tryPreempt s).work.holds j) : s.work.holds j := by
  unfold tryPreempt at h
  split at h
  · rename_i must
    unfold State.mustPreempt at must
    split at must
    · rename_i r k rest ha hq
      obtain ⟨e, -, hw⟩ := preempt_work ha hq
      rw [hw] at h
      have queue : s.work.queue = k :: rest := hq
      have active : s.work.active = some r.job := congrArg (Option.map SearchRecord.job) ha
      obtain h | h | h := h
      · exact .inl (queue ▸ List.mem_cons_of_mem k h)
      · obtain rfl := Option.some.inj h
        exact .inl (queue ▸ List.mem_cons_self)
      · obtain rfl | h := List.mem_cons.mp h
        · exact .inr (.inl active)
        · exact .inr (.inr h)
    · cases must
  · exact h

theorem enterPublish_holds (h : (enterPublish s).work.holds j) : s.work.holds j := by
  rw [enterPublish_work] at h
  exact h

theorem advance_holds (h : (advance s).work.holds j) : s.work.holds j := by
  unfold advance at h
  split at h
  · split at h
    · exact enterPublish_holds h
    · split at h
      · split at h
        · exact resumeTop_holds (tryPreempt_holds h)
        · exact h
      · split at h
        · split at h
          · exact takeHead_holds h
          · exact h
        · exact h
  · exact tryPreempt_holds h

theorem afterJob_holds {f b : Bool} (h : (afterJob f b s).work.holds j) : s.work.holds j := by
  unfold afterJob at h
  split at h
  · exact enterPublish_holds (s := s.setEngine { s.engine with faultPending := f }) h
  · split at h
    · exact h
    · exact advance_holds (s := s.setEngine { s.engine with state := .idle, faultPending := false }) h

/-- An engine in FAULT_HOLD stays as it is (R57). -/
theorem advance_faultHold (h : s.engine.state = .faultHold) : advance s = s := by
  have stays : s.mustPreempt = false := by
    unfold State.mustPreempt
    split
    · simp [h, EngineState.working]
    · rfl
  simp [advance, h, tryPreempt, stays]

/-! ### Where a job was found (R133) -/

theorem State.findJob_found {x : JobPlace} (h : s.findJob n = some x) :
    match x with
    | .queued j => j ∈ s.jobs.queue ∧ j.id = n
    | .active r => s.engine.active = some r ∧ r.job.id = n
    | .stacked r => r ∈ s.stack ∧ r.job.id = n := by
  unfold State.findJob at h
  split at h
  · cases h
    exact ⟨List.mem_of_find?_eq_some ‹_›, beq_iff_eq.mp (List.find?_some (p := fun k : JobRecord => k.id == n) ‹_›)⟩
  · split at h
    · cases h
      obtain ⟨active, id⟩ := Option.filter_eq_some_iff.mp ‹_›
      exact ⟨active, by simpa using id⟩
    · obtain ⟨r, hr, rfl⟩ := Option.map_eq_some_iff.mp h
      exact ⟨List.mem_of_find?_eq_some hr, by simpa using List.find?_some hr⟩

theorem State.findJob_eq_none (h : n ∉ s.heldIds) : s.findJob n = none := by
  rw [← Option.not_isSome_iff_eq_none, Option.isSome_iff_exists]
  rintro ⟨x, hx⟩
  refine h (State.mem_heldIds.mpr ?_)
  have found := State.findJob_found hx
  cases x with
  | queued j => exact ⟨j, .inl found.1, found.2⟩
  | active r => exact ⟨r.job, .inr (.inl (congrArg (Option.map SearchRecord.job) found.1)), found.2⟩
  | stacked r => exact ⟨r.job, .inr (.inr (List.mem_map_of_mem found.1)), found.2⟩

/-! ### The removal of a job that does not run (R133, R153) -/

theorem memberGone_eq (g : Option Nat) (s : State) : ∃ l, memberGone g s = s.setJobs { s.jobs with groups := l } := by
  cases g with
  | none => exact ⟨s.jobs.groups, rfl⟩
  | some id => exact ⟨_, rfl⟩

theorem cancelQueued_shop (j : JobRecord) (s : State) : ∃ l, (cancelQueued j s).shop = { s.shop with
    jobs := { s.jobs with queue := s.jobs.queue.filter fun k => k.id != j.id, groups := l }
    statuses := j.work.mark .idle s.statuses
    completions := joinLists j (plainRecord j .cancelled 0 s.sample.revolutions) s.shop.completions } := by
  obtain ⟨l, gone⟩ := memberGone_eq j.group (writeRecord j (plainRecord j .cancelled 0 s.sample.revolutions) (dropQueued j s))
  have written := writeRecord_shop j (plainRecord j .cancelled 0 s.sample.revolutions) (dropQueued j s)
  have dropped : (dropQueued j s).shop = { s.shop with
      jobs := { s.jobs with queue := s.jobs.queue.filter fun k => k.id != j.id }, statuses := j.work.mark .idle s.statuses } := by
    unfold dropQueued
    rw [setStatus_eq]
    rfl
  rw [dropped] at written
  refine ⟨l, ?_⟩
  unfold cancelQueued
  rw [gone]
  exact congrArg (fun x : Shop => { x with jobs := { x.jobs with groups := l } }) written

theorem cancelStacked_shop (r : SearchRecord) (s : State) : ∃ l, (cancelStacked r s).shop = { s.shop with
    jobs := { s.jobs with groups := l }, stack := s.stack.filter fun k => k.job.id != r.job.id
    statuses := r.job.work.mark .idle s.statuses
    completions := joinLists r.job (plainRecord r.job .cancelled r.iterations s.sample.revolutions) s.shop.completions } := by
  obtain ⟨l, gone⟩ := memberGone_eq r.job.group
    (writeRecord r.job (plainRecord r.job .cancelled r.iterations s.sample.revolutions) (dropStacked r s))
  have written := writeRecord_shop r.job (plainRecord r.job .cancelled r.iterations s.sample.revolutions) (dropStacked r s)
  have dropped : (dropStacked r s).shop = { s.shop with
      stack := s.stack.filter fun k => k.job.id != r.job.id, statuses := r.job.work.mark .idle s.statuses } := by
    unfold dropStacked
    rw [setStatus_eq]
    rfl
  rw [dropped] at written
  refine ⟨l, ?_⟩
  unfold cancelStacked
  rw [gone]
  exact congrArg (fun x : Shop => { x with jobs := { x.jobs with groups := l } }) written

/-- The jobs that stand after the removal of a queued one, and after that of a stacked one. -/
theorem cancelQueued_holds (h : (cancelQueued j s).work.holds k) : k ∈ s.jobs.queue ∧ k.id ≠ j.id
    ∨ s.work.active = some k ∨ k ∈ s.work.stack := by
  obtain h | h | h := h
  · rw [cancelQueued_removes.queue] at h
    obtain ⟨queued, other⟩ := List.mem_filter.mp h
    exact .inl ⟨queued, by simpa using other⟩
  · exact .inr (.inl ((cancelQueued_removes.engine j s).2.symm.trans h))
  · exact .inr (.inr (cancelQueued_removes.stack j s ▸ h))

theorem cancelStacked_holds (h : (cancelStacked r s).work.holds k) : k ∈ s.jobs.queue ∨ s.work.active = some k
    ∨ k ∈ s.work.stack ∧ k.id ≠ r.job.id := by
  obtain h | h | h := h
  · rw [cancelStacked_removes.queue] at h
    exact .inl h
  · exact .inr (.inl ((cancelStacked_removes.engine r s).2.symm.trans h))
  · rw [cancelStacked_removes.stack] at h
    obtain ⟨stacked, other⟩ := List.mem_filter.mp h
    exact .inr (.inr ⟨stacked, by simpa using other⟩)

/-! ### The answer to CANCEL -/

theorem reply_ok_slot {p : Port} {tag : Byte} {l : List Byte} (h : t.kept = s.kept) :
    ((reply p tag l t).port p).slot = .ready ⟨.ok, tag, false, false, false, (s.port p).dropped, 0, l⟩ := by
  have dropped := State.dropped_of_kept h p
  unfold reply
  rw [answer_slot, State.responseOf, dropped]

theorem reply_holds {p : Port} {tag : Byte} {l : List Byte} (h : (reply p tag l t).work.holds j) : t.work.holds j := by
  have same : (reply p tag l t).work = t.work := State.work_of_aside (answer_aside p tag _ t)
  rwa [same] at h

theorem advance_completions (s : State) (q : Port) : ((advance s).port q).completions = (s.port q).completions :=
  ((advance_moves (c := { jobs := true }) rfl s).completions rfl).1

/-- CANCEL of one job as it is taken. -/
theorem exec_cancel_taken {p : Port} {tag id : Byte} (h : s.canSend p) (hp : p ≠ .adapter) :
    exec (.cancel p tag id 0) s = .next (cancelForm p tag id (s.setSlot p (.pending (.cancel p tag id 0)))) := by
  refine congrArg Host.Outcome.next ((request_taken h ?_ (by simp [cancelAccess])).trans rfl)
  cases p with
  | workstation => decide
  | positioner => decide
  | adapter => exact absurd rfl hp

/-- What CANCEL of a held job leaves, told against the state in which the request came. -/
structure State.Cancels (s t : State) (p : Port) (tag : Byte) (j : JobRecord) (place iterations : Nat) : Prop where
  slot : (t.port p).slot = .ready ⟨.ok, tag, false, false, false, (s.port p).dropped, 0, u8 place⟩
  gone : s.store.profile.driftInterval = 0 → s.jobs.pendingZone = none → j.id ∉ t.heldIds
  list : (s.port j.submitter.port).completions.length < 8 → (t.port j.submitter.port).completions
    = (s.port j.submitter.port).completions ++ [plainRecord j .cancelled iterations s.sample.revolutions]
  held : s.engine.state = .faultHold → t.engine = s.engine ∧ t.jobs.queue = s.jobs.queue.filter (fun k => k.id != j.id)
    ∧ t.stack = s.stack.filter (fun x => x.job.id != j.id) ∧ ∀ h z, h < 16 → z < 12 → j.work.place = some (h, z) → t.status h z = .idle

/-- Nothing of a list has an id that none of its members has. -/
theorem filter_other {α : Type} {f : α → Nat} {l : List α} (h : ∀ x ∈ l, f x ≠ n) : l.filter (fun x => f x != n) = l :=
  List.filter_eq_self.mpr fun x hx => by simpa using h x hx

theorem cancelQueued_cancels (hd : s.heldIds.Nodup) (hj : j ∈ s.jobs.queue) (p : Port) (tag : Byte) (y : Slot) :
    s.Cancels (cancelJob p tag (.queued j) (s.setSlot p y)) p tag j 0 0 := by
  obtain ⟨queueActive, queueStack, -⟩ := State.apart_of_nodup hd
  obtain ⟨l, removed⟩ := cancelQueued_shop j (s.setSlot p y)
  let v := postSpace (cancelQueued j (s.setSlot p y))
  have shop : v.shop = { s.shop with
      jobs := { s.jobs with queue := s.jobs.queue.filter (fun k => k.id != j.id), groups := l, spaceW := false, spaceP := false }
      statuses := j.work.mark .idle s.statuses
      completions := joinLists j (plainRecord j .cancelled 0 s.sample.revolutions) s.shop.completions } := by
    rw [setSlot_shop] at removed
    exact (postSpace_shop _).trans (congrArg (fun x : Shop => { x with jobs := { x.jobs with spaceW := false, spaceP := false } }) removed)
  have kept : (advance v).kept = s.kept := by simp [v]
  refine ⟨reply_ok_slot kept, fun _ _ held => ?_, fun room => ?_, fun hf => ?_⟩
  · obtain ⟨k, holds, id⟩ := State.mem_heldIds.mp held
    have holds := advance_holds (reply_holds holds)
    rw [show v.work = _ from (postSpace_moves (c := .still) _).work rfl] at holds
    obtain ⟨-, other⟩ | active | stacked := cancelQueued_holds holds
    · exact other id
    · obtain ⟨r, hr, rfl⟩ := Option.map_eq_some_iff.mp active
      exact queueActive j hj r hr id.symm
    · obtain ⟨r, hr, rfl⟩ := List.mem_map.mp stacked
      exact queueStack j hj r hr id.symm
  · have list := congrFun (congrArg Shop.completions shop) j.submitter.port
    exact (State.completions_of_shop (reply_shop _ _ _ _) _).trans ((advance_completions v _).trans (list.trans (joinLists_room room)))
  · have still : advance v = v := advance_faultHold ((congrArg (·.engine.state) shop).trans hf)
    have told := (reply_shop p tag (u8 0) (advance v)).trans ((congrArg State.shop still).trans shop)
    refine ⟨congrArg Shop.engine told, congrArg (·.jobs.queue) told, ?_, fun h z hh hz hp => ?_⟩
    · rw [filter_other (f := fun x : SearchRecord => x.job.id) fun x hx => (queueStack j hj x hx).symm]
      exact congrArg Shop.stack told
    · exact State.status_marked (w := j.work) (v := s.statuses) (congrArg Shop.statuses told) hp (entryIndex_lt hh hz)

theorem cancelStacked_cancels (hd : s.heldIds.Nodup) (hr : r ∈ s.stack) (p : Port) (tag : Byte) (y : Slot) :
    s.Cancels (cancelJob p tag (.stacked r) (s.setSlot p y)) p tag r.job 2 r.iterations := by
  obtain ⟨-, queueStack, activeStack⟩ := State.apart_of_nodup hd
  obtain ⟨l, removed⟩ := cancelStacked_shop r (s.setSlot p y)
  rw [setSlot_shop] at removed
  let v := cancelStacked r (s.setSlot p y)
  have kept : (advance v).kept = s.kept := by simp [v]
  refine ⟨reply_ok_slot kept, fun _ _ held => ?_, fun room => ?_, fun hf => ?_⟩
  · obtain ⟨k, holds, id⟩ := State.mem_heldIds.mp held
    obtain queued | active | ⟨-, other⟩ := cancelStacked_holds (advance_holds (reply_holds holds))
    · exact queueStack k queued r hr id
    · obtain ⟨x, hx, rfl⟩ := Option.map_eq_some_iff.mp active
      exact activeStack x hx r hr id
    · exact other id
  · have list := congrFun (congrArg Shop.completions removed) r.job.submitter.port
    exact (State.completions_of_shop (reply_shop _ _ _ _) _).trans ((advance_completions v _).trans (list.trans (joinLists_room room)))
  · have still : advance v = v := advance_faultHold ((congrArg (·.engine.state) removed).trans hf)
    have told := (reply_shop p tag (u8 2) (advance v)).trans ((congrArg State.shop still).trans removed)
    refine ⟨congrArg Shop.engine told, ?_, congrArg Shop.stack told, fun h z hh hz hp => ?_⟩
    · rw [filter_other (f := JobRecord.id) fun k hk => queueStack k hk r hr]
      exact congrArg (·.jobs.queue) told
    · exact State.status_marked (w := r.job.work) (v := s.statuses) (congrArg Shop.statuses told) hp (entryIndex_lt hh hz)

/-- Without a pending zone and a drift interval the end of a job is counted for its group alone. -/
theorem accountEnd_group (hz : s.jobs.pendingZone = none) (hi : s.store.profile.driftInterval = 0) (j : JobRecord) :
    ∃ l, accountEnd j s = s.setJobs { s.jobs with groups := l } := by
  obtain ⟨l, gone⟩ := memberGone_eq j.group s
  have counted : countDrift j.work (s.setJobs { s.jobs with groups := l }) = s.setJobs { s.jobs with groups := l } := by
    unfold countDrift
    split
    · exact if_neg (by simp [hi])
    · rfl
    · rfl
  refine ⟨l, ?_⟩
  unfold accountEnd
  rw [gone, counted]
  simp only [insertCheck, State.setJobs, hz]

/-- The shop once an active job's record stands and the engine has left the job. -/
theorem State.closed_shop (s : State) (r : SearchRecord) (o : JobOutcome) : (clearActive r (s.recorded r o)).shop = { s.shop with
    statuses := r.job.work.mark .idle s.statuses, sample := s.sample.left s.engine.state
    engine := { s.engine with dwell := s.engine.dwell.cleared, active := none, staging := none, clearPending := false }
    completions := joinLists r.job (plainRecord r.job o r.iterations s.sample.revolutions) s.shop.completions } :=
  (clearActive_shop r _).trans (congrArg (fun x : Shop => { x with
    statuses := r.job.work.mark .idle x.statuses
    engine := { x.engine with active := none, staging := none, clearPending := false } }) (s.recorded_shop r o))

/-- The end of an active job that is not CLEARED. -/
theorem endJob_eq {o : JobOutcome} (ha : s.engine.active = some r) (ho : o ≠ .cleared) : endJob o s
    = afterJob (o.isFault || s.engine.faultPending) false (accountEnd r.job (clearActive r (s.recorded r o))) := by
  have cleared : (o == .cleared) = false := by simpa using ho
  unfold endJob
  split
  · cases (‹s.engine.active = none›.symm.trans ha)
  · rw [closeJob_eq ha ho, cleared]

/-- The list of an active job's port after its end (R54, R181). -/
theorem endJob_completions {o : JobOutcome} (ha : s.engine.active = some r) (ho : o ≠ .cleared) (q : Port) :
    ((endJob o s).port q).completions
      = joinLists r.job (plainRecord r.job o r.iterations s.sample.revolutions) (fun q => (s.port q).completions) q := by
  have listed := congrFun (congrArg Shop.completions (s.closed_shop r o)) q
  rw [endJob_eq ha ho]
  refine (((afterJob_moves (c := { jobs := true }) rfl _ _ _).completions rfl).1).trans ?_
  exact (((accountEnd_moves (c := { jobs := true }) rfl _ _).completions rfl).1).trans listed

/-- An active job that ends is held no more, where its end inserts no automatic check (R55). -/
theorem endJob_holds {o : JobOutcome} (ha : s.engine.active = some r) (ho : o ≠ .cleared) (hz : s.jobs.pendingZone = none)
    (hi : s.store.profile.driftInterval = 0) (h : (endJob o s).work.holds k) : k ∈ s.jobs.queue ∨ k ∈ s.work.stack := by
  have shop := s.closed_shop r o
  have jobs : (clearActive r (s.recorded r o)).jobs = s.jobs := congrArg Shop.jobs shop
  have store : (clearActive r (s.recorded r o)).store = s.store := State.store_of_kept (by simp [s.recorded_kept])
  obtain ⟨l, counted⟩ := accountEnd_group (s := clearActive r (s.recorded r o)) (by rw [jobs, hz]) (by rw [store, hi]) r.job
  rw [endJob_eq ha ho, counted] at h
  obtain queued | active | stacked := afterJob_holds h
  · exact .inl (congrArg JobQueue.queue jobs ▸ queued)
  · cases (congrArg (fun x : Shop => x.engine.active.map SearchRecord.job) shop).symm.trans active
  · have stack : (clearActive r (s.recorded r o)).work.stack = s.work.stack := congrArg (fun x : Shop => x.stack.map SearchRecord.job) shop
    exact .inr (stack ▸ stacked)

theorem cancelActive_cancels (hd : s.heldIds.Nodup) (ha : s.engine.active = some r) (hw : s.engine.state.working = true)
    (p : Port) (tag : Byte) (y : Slot) :
    s.Cancels (reply p tag (u8 1) (endJob .cancelled (s.setSlot p y))) p tag r.job 1 r.iterations := by
  obtain ⟨queueActive, -, activeStack⟩ := State.apart_of_nodup hd
  refine ⟨reply_ok_slot (by simp), fun hi hz held => ?_, fun room => ?_, fun hf => ?_⟩
  · obtain ⟨k, holds, id⟩ := State.mem_heldIds.mp held
    obtain queued | stacked := endJob_holds (s := s.setSlot p y) (o := .cancelled) ha nofun hz hi (reply_holds holds)
    · exact queueActive k queued r ha id
    · obtain ⟨x, hx, rfl⟩ := List.mem_map.mp stacked
      exact activeStack r ha x hx id.symm
  · refine (State.completions_of_shop (reply_shop _ _ _ _) _).trans ((endJob_completions (s := s.setSlot p y) (o := .cancelled) ha nofun _).trans ?_)
    have lists : (fun q => ((s.setSlot p y).port q).completions) = fun q => (s.port q).completions :=
      funext fun q => State.completions_of_shop (setSlot_shop s p y) q
    rw [lists]
    exact joinLists_room room
  · rw [hf] at hw
    cases hw

/-- The place that CANCEL names and the iterations its record carries. -/
def JobPlace.code : JobPlace → Nat
  | .queued _ => 0
  | .active _ => 1
  | .stacked _ => 2

def JobPlace.iterations : JobPlace → Nat
  | .queued _ => 0
  | .active r => r.iterations
  | .stacked r => r.iterations

/-- CANCEL of a job that is not in COMMIT. -/
theorem cancelJob_cancels {found : JobPlace} (hd : s.heldIds.Nodup) (hf : s.findJob n = some found)
    (hw : ∀ r, found = .active r → s.engine.state.working = true) (p : Port) (tag : Byte) (y : Slot) :
    s.Cancels (cancelJob p tag found (s.setSlot p y)) p tag found.job found.code found.iterations := by
  have place := State.findJob_found hf
  cases found with
  | queued j => exact cancelQueued_cancels hd place.1 p tag y
  | active r =>
    have works : cancelJob p tag (.active r) (s.setSlot p y) = reply p tag (u8 1) (endJob .cancelled (s.setSlot p y)) :=
      if_pos (hw r rfl)
    rw [works]
    exact cancelActive_cancels hd place.1 (hw r rfl) p tag y
  | stacked r => exact cancelStacked_cancels hd place.1 p tag y

theorem State.Cancels.ends {i : Instr} {tag : Byte} {place iterations : Nat} (ht : exec i s = .next t) (hj : j.id = n)
    (h : s.Cancels t p tag j place iterations) : ∃ t, exec i s = .next t
      ∧ (t.port p).slot = .ready ⟨.ok, tag, false, false, false, (s.port p).dropped, 0, u8 place⟩
      ∧ (s.store.profile.driftInterval = 0 → s.jobs.pendingZone = none → n ∉ t.heldIds)
      ∧ ((s.port j.submitter.port).completions.length < 8 → (t.port j.submitter.port).completions
        = (s.port j.submitter.port).completions ++ [plainRecord j .cancelled iterations s.sample.revolutions])
      ∧ (s.engine.state = .faultHold → t.engine = s.engine ∧ t.jobs.queue = s.jobs.queue.filter (fun j => j.id != n)
        ∧ t.stack = s.stack.filter (fun r => r.job.id != n)
        ∧ ∀ h z, h < 16 → z < 12 → j.work.place = some (h, z) → t.status h z = .idle) := by
  subst hj
  exact ⟨t, ht, h.slot, h.gone, h.list, h.held⟩

theorem State.findJob_id {found : JobPlace} (h : s.findJob n = some found) : found.job.id = n := by
  have place := State.findJob_found h
  cases found with
  | queued j => exact place.2
  | active r => exact place.2
  | stacked r => exact place.2

theorem cancelForm_found {tag id : Byte} {found : JobPlace} (h0 : id ≠ 0) (hf : s.findJob id.toNat = some found) :
    cancelForm p tag id s = if p = .positioner ∧ found.job.submitter ≠ .p then refuse p tag .wrongPort s else cancelJob p tag found s := by
  unfold cancelForm
  rw [if_neg h0, hf]

/-- Settles O20: the refusals in their order, and the ends by where the job stands. -/
theorem Settled.cancelJob : Obligations.CancelJob := by
  intro p tag id s can hp
  dsimp only
  let u := s.setSlot p (.pending (.cancel p tag id 0))
  have taken := exec_cancel_taken (tag := tag) (id := id) can hp
  refine ⟨fun h0 => ?_, fun h0 free => ?_, fun found h0 hd hf => ?_⟩
  · rw [taken, cancelForm, if_pos h0]
    exact congrArg Host.Outcome.next (refuse_setSlot ..)
  · rw [taken, cancelForm, if_neg h0, show u.findJob id.toNat = none from State.findJob_eq_none free]
    exact congrArg Host.Outcome.next (refuse_setSlot ..)
  · rw [cancelForm_found (s := u) h0 hf] at taken
    have hid := State.findJob_id hf
    split
    · rw [taken, if_pos ‹_›]
      exact congrArg Host.Outcome.next (refuse_setSlot ..)
    · rw [if_neg ‹_›] at taken
      have cancels : (∀ r, found = .active r → s.engine.state.working = true) → _ := fun hw =>
        (cancelJob_cancels hd hf hw p tag (.pending (.cancel p tag id 0))).ends taken hid
      have elsewhere : (∀ r, found ≠ .active r) → ∀ r, found = .active r → s.engine.state.working = true := fun hne r hr =>
        absurd hr (hne r)
      cases found with
      | queued j => exact cancels (elsewhere (by simp))
      | active r =>
        have ha := (State.findJob_found hf).1
        dsimp only
        split
        · refine ⟨cancels fun _ _ => ‹_›, fun hq hs hg hi hz hp => ?_⟩
          have last := endJob_endsLast (s := u) (o := .cancelled) ha (State.unburdened.mk hq hs hg hz hi) hp nofun rfl
          obtain ⟨move, head⟩ := u.handshake.both_ended (.withdrawn (.ended .cancelled)) (.withdrawn (.ended .cancelled))
          have ended : Machine.cancelJob p tag (.active r) u = reply p tag (u8 1) (endJob .cancelled u) := if_pos ‹_›
          refine ⟨_, taken.trans (congrArg _ ended), last.state, last.active, (congrArg HandshakeUnit.move last.handshake).trans move,
            (congrArg HandshakeUnit.head last.handshake).trans head, fun h z hh hz hp => ?_⟩
          exact State.status_marked last.statuses hp (entryIndex_lt hh hz)
        · have late : Machine.cancelJob p tag (.active r) u = refuse p tag .tooLate u := if_neg ‹_›
          rw [taken, late]
          exact congrArg Host.Outcome.next (refuse_setSlot ..)
      | stacked r => exact cancels (elsewhere (by simp))

end Sys2Proof.Machine
end

section
/-! SUPPORT. What the end of a job is counted for, and O23 (R55, R122, R131, R132, R136, R137). -/

namespace Sys2Proof.Machine

variable {s t u : State} {r : SearchRecord} {j k : JobRecord} {p q : Port} {n : Nat}

/-! ### The new id is free (R122) -/

/-- Where the search for a free id ends at a held one, every id on its way is held. -/
theorem firstFree_held {held : List Nat} {cap fuel : Nat} (h : firstFree held cap fuel n ∈ held) :
    ∀ k ≤ fuel, (idAfter cap)^[k] n ∈ held := by
  induction fuel generalizing n with
  | zero =>
    intro k hk
    obtain rfl := Nat.le_zero.mp hk
    exact h
  | succ fuel ih =>
    unfold firstFree at h
    split at h
    · intro k hk
      cases k with
      | zero => assumption
      | succ k => exact ih h k (Nat.le_of_succ_le_succ hk)
    · exact absurd h ‹_›

theorem idAfter_iterate (h1 : 1 ≤ n) (h2 : n ≤ 255) (k : Nat) : (idAfter 255)^[k] n = (n - 1 + k) % 255 + 1 := by
  induction k with
  | zero =>
    show n = _
    omega
  | succ k ih =>
    rw [Function.iterate_succ_apply', ih]
    unfold idAfter
    split <;> omega

/-- Fewer than 255 held ids leave one free. -/
theorem firstFree_free {held : List Nat} (h1 : 1 ≤ n) (h2 : n ≤ 255) (hl : held.length < 255) : firstFree held 255 255 n ∉ held := by
  intro h
  have all : Finset.image (fun k => (idAfter 255)^[k] n) (Finset.range 255) ⊆ held.toFinset := fun x hx => by
    obtain ⟨k, hk, rfl⟩ := Finset.mem_image.mp hx
    exact List.mem_toFinset.mpr (firstFree_held h k (Finset.mem_range.mp hk).le)
  have distinct : Set.InjOn (fun k => (idAfter 255)^[k] n) (Finset.range 255) := fun a ha b hb he => by
    simp only [idAfter_iterate h1 h2] at he
    simp only [Finset.coe_range, Set.mem_Iio] at ha hb
    omega
  have card := Finset.card_le_card all
  rw [Finset.card_image_of_injOn distinct, Finset.card_range] at card
  exact absurd (card.trans held.toFinset_card_le) (by omega)

theorem State.newJobId_free (h : s.heldIds.length < 255) (h1 : 1 ≤ s.jobs.nextJob) (h2 : s.jobs.nextJob ≤ 255) :
    s.newJobId ∉ s.heldIds := firstFree_free h1 h2 h

/-! ### The accounting, step by step (R55, R131, R136) -/

/-- The groups after the end of a job. -/
def JobRecord.closing (j : JobRecord) (l : List Group) : List Group :=
  match j.group with
  | none => l
  | some id => closeMember id l

theorem memberGone_closing (j : JobRecord) (s : State) :
    memberGone j.group s = s.setJobs { s.jobs with groups := j.closing s.jobs.groups } := by
  unfold JobRecord.closing
  cases j.group <;> rfl

/-- Whether the end of a job counts toward the drift interval, the counter after it, and the zone then pending. -/
def JobWork.counts (w : JobWork) (pr : Profile) (drift : Nat) : Bool :=
  match w with
  | .measure _ _ => decide (drift < pr.driftInterval)
  | _ => false

def JobWork.driftAfter (w : JobWork) (pr : Profile) (drift : Nat) : Nat := if w.counts pr drift = true then drift + 1 else drift

def JobWork.zoneAfter (w : JobWork) (pr : Profile) (drift : Nat) (zone : Option Nat) : Option Nat :=
  match w with
  | .measure _ z => if w.counts pr drift = true ∧ w.driftAfter pr drift = pr.driftInterval then some z else zone
  | _ => zone

theorem countDrift_eq (w : JobWork) (s : State) : countDrift w s = s.setJobs { s.jobs with
    drift := w.driftAfter s.store.profile s.jobs.drift
    pendingZone := w.zoneAfter s.store.profile s.jobs.drift s.jobs.pendingZone } := by
  cases w with
  | moveTo target => rfl
  | referenceCheck h z => rfl
  | measure h z =>
    by_cases hc : s.jobs.drift < s.store.profile.driftInterval
    · have counts : (JobWork.measure h z).counts s.store.profile s.jobs.drift = true := decide_eq_true hc
      simp only [countDrift, JobWork.zoneAfter, JobWork.driftAfter, counts, if_true, true_and]
      rw [if_pos ⟨by omega, hc⟩]
    · have counts : (JobWork.measure h z).counts s.store.profile s.jobs.drift = false := decide_eq_false hc
      simp only [countDrift, JobWork.zoneAfter, JobWork.driftAfter, counts, Bool.false_eq_true, if_false, false_and]
      rw [if_neg fun h => hc h.2]
      rfl

/-- The state with the group and the drift counter of an end accounted for. -/
def State.counted (s : State) (j : JobRecord) : State := s.setJobs { s.jobs with
  groups := j.closing s.jobs.groups
  drift := j.work.driftAfter s.store.profile s.jobs.drift
  pendingZone := j.work.zoneAfter s.store.profile s.jobs.drift s.jobs.pendingZone }

theorem accountEnd_counted (j : JobRecord) (s : State) : accountEnd j s = insertCheck (s.counted j) := by
  unfold accountEnd
  rw [memberGone_closing, countDrift_eq]
  rfl

/-- The automatic reference check of a zone (R137). -/
def State.check (s : State) (z : Nat) : JobRecord :=
  ⟨s.newJobId, .referenceCheck s.store.profile.referenceHead z, .priority, .internal, none, none⟩

theorem insertCheck_unneeded (h : s.jobs.pendingZone = none) : insertCheck s = s := by simp only [insertCheck, h]

theorem insertCheck_waits {z : Nat} (h : s.jobs.pendingZone = some z) (hc : s.canInsert z = false) : insertCheck s = s := by
  simp [insertCheck, h, hc]

theorem insertCheck_inserts {z : Nat} (h : s.jobs.pendingZone = some z) (hc : s.canInsert z = true) : insertCheck s
    = (s.queued enqueueAutomatic (s.check z)).setJobs { (s.queued enqueueAutomatic (s.check z)).jobs with drift := 0, pendingZone := none } := by
  simp only [insertCheck, h, hc, if_true, acceptWith_eq]
  rfl

/-! ### After the end, with Port P DETACHED (R132, R138, R149) -/

/-- No job starts while Port P is DETACHED. -/
theorem advance_detached (hi : s.engine.state = .idle) (hd : s.jobs.publishDue = false) (hp : (s.port .positioner).attached = false) :
    advance s = s := by
  have waits : ∀ w, s.canStart w = false := fun w => by simp [State.canStart, State.portsReady, hp]
  simp only [advance, hi, hd, waits, Bool.false_eq_true, if_false]
  split
  · rfl
  · split <;> rfl

/-- The engine after a job that raised no fault, with Port P DETACHED: PUBLISH for the first group that is due, else IDLE. -/
theorem afterJob_detached (hp : (s.port .positioner).attached = false) : (afterJob false false s).shop = { s.shop with
    engine := if s.jobs.publishDue = true then { s.engine with
        faultPending := false, state := .publish, publishing := (s.jobs.groups.find? Group.due).map Group.id }
      else { s.engine with state := .idle, faultPending := false } } := by
  unfold afterJob
  by_cases hd : s.jobs.publishDue = true
  · rw [if_pos (by simp [hd]), if_pos hd]
    exact askGrant_shop _ _ _
  · rw [if_neg (by simp [hd]), if_neg (by decide), if_neg hd]
    exact congrArg State.shop (advance_detached (s := s.setEngine { s.engine with state := .idle, faultPending := false }) rfl
      (Bool.not_eq_true _ ▸ hd) hp)

/-! ### The groups (R131, R132) -/

theorem JobRecord.closing_alone (h : j.group = none) (l : List Group) : j.closing l = l := by simp only [JobRecord.closing, h]

theorem JobRecord.closing_member {g : Group} {l : List Group} (h : j.group = some g.id) (hg : l.find? (fun k => k.id == g.id) = some g) :
    j.closing l = if g.members ≤ 1 then
        if (g.publishAtEnd && !g.cancelled) = true then l.filter (fun k => k.id != g.id) ++ [{ g with members := 0, due := true }]
        else l.filter fun k => k.id != g.id
      else l.map fun k => if k.id = g.id then { k with members := k.members - 1 } else k := by
  simp only [JobRecord.closing, h, closeMember, hg]

/-- The first group that is due among groups that are not and one that is. -/
theorem find_due_append {l : List Group} {g : Group} (h : ∀ k ∈ l, k.due = false) (hg : g.due = true) :
    (l ++ [g]).find? Group.due = some g := by
  rw [List.find?_append, List.find?_eq_none.mpr fun k hk => by simp [h k hk]]
  simp [hg]

theorem any_due_append {l : List Group} {g : Group} (hg : g.due = true) : (l ++ [g]).any Group.due = true := by simp [hg]

/-! ### The entry of the check (R137) -/

theorem JobWork.mark_idle_iff {w : JobWork} {i : Nat} (hi : i < 192) (v : Vector EntryStatus 192) :
    ((w.mark .idle v)[i]?).getD .idle = .idle ↔ (v[i]?).getD .idle = .idle ∨ w.index = some i := by
  by_cases h : w.index = some i
  · simp [h, JobWork.mark_index h hi]
  · simp [h, JobWork.mark_other h]

theorem JobWork.index_iff_place {w : JobWork} {a z : Nat} (hz : z < 12) (hw : ∀ h z, w.place = some (h, z) → z < 12) :
    w.index = some (entryIndex a z) ↔ w.place = some (a, z) := by
  refine ⟨fun h => ?_, JobWork.index_of_place⟩
  obtain ⟨h', z', hp, he⟩ := JobWork.index_eq_some.mp h
  obtain ⟨rfl, rfl⟩ := entryIndex_inj (hw _ _ hp) hz he
  exact hp

/-- Whether a check can be inserted once a job has left its entry (R137). -/
theorem State.canInsert_iff {w : JobWork} {z : Nat} (hq : t.jobs.queue = s.jobs.queue) (hp : t.store.profile = s.store.profile)
    (hs : t.statuses = w.mark .idle s.statuses) (ha : s.store.profile.referenceHead < 16) (hz : s.store.profile.zoneCount ≤ 12)
    (hw : ∀ h z, w.place = some (h, z) → z < 12) : t.canInsert z = true ↔ s.jobs.queue.length < 24 ∧ z < s.store.profile.zoneCount
      ∧ (s.status s.store.profile.referenceHead z = .idle ∨ w.place = some (s.store.profile.referenceHead, z)) := by
  unfold State.canInsert State.status
  rw [hq, hp, hs, Bool.and_eq_true, Bool.and_eq_true, decide_eq_true_iff, decide_eq_true_iff, beq_iff_eq, and_assoc]
  refine and_congr_right fun _ => and_congr_right fun hlt => ?_
  have hz12 : z < 12 := hlt.trans_le hz
  rw [JobWork.mark_idle_iff (entryIndex_lt ha hz12), JobWork.index_iff_place hz12 hw]

/-- The ids of a state whose active job has just left are fewer than 255. -/
theorem State.heldIds_length (ha : s.engine.active = none) (hq : s.jobs.queue.length ≤ 24) (hs : s.stack.length ≤ 2) :
    s.heldIds.length < 255 := by
  simp only [State.heldIds, ha, List.length_append, List.length_map, Option.map_none, Option.toList_none, List.length_nil]
  omega

/-- What the insertion of a check leaves alone. -/
theorem insertCheck_rest (s : State) : (insertCheck s).engine = s.engine ∧ (insertCheck s).jobs.groups = s.jobs.groups := by
  cases hz : s.jobs.pendingZone with
  | none => rw [insertCheck_unneeded hz]; exact ⟨rfl, rfl⟩
  | some z =>
    cases hc : s.canInsert z with
    | false => rw [insertCheck_waits hz hc]; exact ⟨rfl, rfl⟩
    | true => rw [insertCheck_inserts hz hc]; exact ⟨rfl, rfl⟩

/-- The state in which the job that the move timeout ends has left the engine. -/
def State.timedOut (s : State) (r : SearchRecord) : State := clearActive r ((timeOutMove s).recorded r .moveTimeout)

theorem exec_moveTimeoutExpiry_counted {left : Nat} (ht : s.handshake.moveTimeout = .running left) (ha : s.engine.active = some r)
    (hf : s.engine.faultPending = false) :
    exec .moveTimeoutExpiry s = .next (afterJob false false (insertCheck ((s.timedOut r).counted r.job))) := by
  have engine : (timeOutMove s).engine = s.engine := State.engine_of_shop (timeOutMove_shop s)
  have ended := endJob_eq (s := timeOutMove s) (o := .moveTimeout) (by rw [engine, ha]) nofun
  rw [engine, hf, accountEnd_counted] at ended
  rw [exec_moveTimeoutExpiry_running ht, ended]
  rfl

theorem State.timedOut_shop (s : State) (r : SearchRecord) : ∃ l, (s.timedOut r).shop = { s.shop with
    statuses := r.job.work.mark .idle s.statuses, sample := s.sample.left s.engine.state
    engine := { s.engine with dwell := s.engine.dwell.cleared, active := none, staging := none, clearPending := false }
    completions := l } := by
  have shop := (timeOutMove s).closed_shop r .moveTimeout
  have same := timeOutMove_shop s
  rw [State.engine_of_shop same, State.sample_of_shop same, State.statuses_of_shop same, same] at shop
  exact ⟨_, shop⟩

theorem State.timedOut_kept (s : State) (r : SearchRecord) : (s.timedOut r).kept = s.kept := by simp [State.timedOut, State.recorded_kept]

/-- Settles O23: the drift counter and its check, then the group. -/
theorem endAccounting : Obligations.EndAccounting := by
  intro m left r s ha hw hm ht hf hp hids hrh hzc hplace pr counts drift zone
  have driftIs : drift = r.job.work.driftAfter pr s.jobs.drift := by
    unfold drift counts JobWork.driftAfter JobWork.counts
    cases r.job.work <;> rfl
  have zoneIs : zone = r.job.work.zoneAfter pr s.jobs.drift s.jobs.pendingZone := by
    unfold zone drift counts JobWork.zoneAfter JobWork.driftAfter JobWork.counts
    cases r.job.work <;> rfl
  clear_value zone drift
  obtain ⟨lists, shop⟩ := s.timedOut_shop r
  have store : (s.timedOut r).store = s.store := State.store_of_kept (s.timedOut_kept r)
  have jobs : (s.timedOut r).jobs = s.jobs := congrArg Shop.jobs shop
  let c := (s.timedOut r).counted r.job
  have counted : c.jobs = { s.jobs with groups := r.job.closing s.jobs.groups, drift := drift, pendingZone := zone } := by
    simp only [c, State.counted, State.setJobs, jobs, store, driftIs, zoneIs, pr]
  have detached : ((insertCheck c).port .positioner).attached = false := by
    rw [State.attached_of_kept (s := s) (by simp [c, State.counted, s.timedOut_kept])]
    exact hp
  have after := afterJob_detached detached
  obtain ⟨engine, groups⟩ := insertCheck_rest c
  have statuses : c.statuses = r.job.work.mark .idle s.statuses := congrArg Shop.statuses shop
  have profile : c.store.profile = s.store.profile := congrArg ProfileStore.profile store
  have active : c.engine.active = none := congrArg (·.engine.active) shop
  have stack : c.stack = s.stack := congrArg Shop.stack shop
  have queue : c.jobs.queue = s.jobs.queue := (congrArg JobQueue.queue counted).trans rfl
  have pending : c.jobs.pendingZone = zone := (congrArg JobQueue.pendingZone counted).trans rfl
  refine ⟨_, exec_moveTimeoutExpiry_counted ht ha hf, ?_, fun hz => ?_, fun z hz => ?_, fun hg => ?_⟩
  · refine (congrArg (·.engine.active) after).trans ?_
    dsimp only
    rw [engine]
    split <;> exact active
  · rw [insertCheck_unneeded (pending.trans hz)] at after
    have told : (afterJob false false c).jobs = c.jobs := congrArg Shop.jobs after
    rw [show insertCheck c = c from insertCheck_unneeded (pending.trans hz)]
    refine ⟨?_, ?_, ?_, fun h z hp => ?_⟩
    · rw [told, counted]
    · rw [told, pending, hz]
    · rw [told, queue]
    · exact State.status_marked ((congrArg Shop.statuses after).trans statuses) hp (entryIndex_lt (hplace h z hp).1 (hplace h z hp).2)
  · have fits := State.canInsert_iff (z := z) queue profile statuses hrh hzc fun h z hp => (hplace h z hp).2
    refine ⟨fun full => ?_, fun room => ?_⟩
    · have waits : insertCheck c = c := insertCheck_waits (pending.trans hz) (Bool.eq_false_iff.mpr fun h => full (fits.mp h))
      have told : (afterJob false false (insertCheck c)).jobs = c.jobs :=
        (congrArg Shop.jobs after).trans (congrArg State.jobs waits)
      exact ⟨by rw [told, counted], by rw [told, pending, hz], by rw [told, queue]⟩
    · have inserts := insertCheck_inserts (pending.trans hz) (fits.mpr room)
      have told : (afterJob false false (insertCheck c)).jobs = _ := (congrArg Shop.jobs after).trans (congrArg State.jobs inserts)
      have marked : (afterJob false false (insertCheck c)).statuses = _ :=
        (congrArg Shop.statuses after).trans (congrArg State.statuses inserts)
      have free : c.newJobId ∉ c.heldIds := by
        obtain ⟨-, hq24, hs2, h1, h255⟩ := hids
        exact State.newJobId_free (State.heldIds_length active (by rw [queue]; exact hq24) (by rw [stack]; exact hs2))
          (by rw [counted]; exact h1) (by rw [counted]; exact h255)
      refine ⟨congrArg JobQueue.drift told, congrArg JobQueue.pendingZone told, ?_, c.newJobId, fun h => free ?_, fun x hx h => free ?_, ?_⟩
      · exact State.status_marked (w := (c.check z).work) (v := c.statuses) marked
          (congrArg (fun p : Profile => some (p.referenceHead, z)) profile) (entryIndex_lt hrh (room.2.1.trans_le hzc))
      · unfold State.heldIds
        rw [queue]
        exact List.mem_append_left _ (List.mem_append_left _ h)
      · unfold State.heldIds
        rw [stack]
        exact List.mem_append_right _ (List.mem_map.mpr ⟨x, hx, h⟩)
      · refine (congrArg JobQueue.queue told).trans ?_
        show enqueueAutomatic (c.check z) c.jobs.queue = _
        rw [queue]
        unfold State.check
        rw [profile]
        rfl
  · have told : (afterJob false false (insertCheck c)).jobs.groups = r.job.closing s.jobs.groups :=
      (congrArg (·.jobs.groups) after).trans (groups.trans (congrArg JobQueue.groups counted))
    have closed : (insertCheck c).jobs.groups = r.job.closing s.jobs.groups := groups.trans (congrArg JobQueue.groups counted)
    have rests : (∀ k ∈ r.job.closing s.jobs.groups, k.due = false) → (afterJob false false (insertCheck c)).engine.state = .idle := fun h => by
      refine (congrArg (·.engine.state) after).trans ?_
      rw [JobQueue.publishDue_of_none (by rw [closed]; exact h)]
      rfl
    refine ⟨fun alone => ?_, fun g member found => ⟨fun more => ?_, fun last publish cancelled => ?_, fun last dropped => ?_⟩⟩
    · have same := JobRecord.closing_alone alone s.jobs.groups
      exact ⟨told.trans same, rests (by rw [same]; exact hg)⟩
    · have one : r.job.closing s.jobs.groups = _ := (JobRecord.closing_member member found).trans (if_neg (Nat.not_le.mpr more))
      refine ⟨rests fun k hk => ?_, told.trans one⟩
      rw [one] at hk
      obtain ⟨k', hk', rfl⟩ := List.mem_map.mp hk
      split
      · exact hg k' hk'
      · exact hg k' hk'
    · have joins : r.job.closing s.jobs.groups = _ :=
        ((JobRecord.closing_member member found).trans (if_pos last)).trans (if_pos (by simp [publish, cancelled]))
      have others : ∀ k ∈ s.jobs.groups.filter (fun k => k.id != g.id), k.due = false := fun k hk => hg k (List.mem_filter.mp hk).1
      have due : (insertCheck c).jobs.publishDue = true := by
        unfold JobQueue.publishDue
        rw [closed, joins]
        exact any_due_append rfl
      have engine := congrArg Shop.engine after
      rw [due, if_pos rfl, closed, joins, find_due_append others rfl] at engine
      exact ⟨told.trans joins, congrArg Engine.state engine, congrArg Engine.publishing engine⟩
    · have leaves : r.job.closing s.jobs.groups = _ :=
        ((JobRecord.closing_member member found).trans (if_pos last)).trans (if_neg (by
          obtain h | h := dropped
          · simp [h]
          · simp [h]))
      exact ⟨told.trans leaves, rests fun k hk => hg k (List.mem_filter.mp (leaves ▸ hk)).1⟩

end Sys2Proof.Machine
end

section
/-! SUPPORT. Home capture: which operations of the engine leave it, and that one that is DONE stays so (R88, R89). -/

namespace Sys2Proof.Machine

variable {s t u : State} {r : SearchRecord} {m : MoveRequest} {x : HeadRequest} {o : JobOutcome}

/-! ### What leaves home capture alone -/

theorem State.home_of_mute (h : t.mute = s.mute) : t.frame.home = s.frame.home := congrArg PositionFrame.home (State.frame_of_mute h)

theorem State.home_of_aside (h : t.aside = s.aside) : t.frame.home = s.frame.home := congrArg PositionFrame.home (State.frame_of_aside h)

@[simp] theorem askGrant_home (c : Client) (op : TableOp) (s : State) : (askGrant c op s).frame.home = s.frame.home :=
  State.home_of_aside (askGrant_aside c op s)

@[simp] theorem setStatus_home (w : JobWork) (st : EntryStatus) (s : State) : (setStatus w st s).frame.home = s.frame.home := by
  rw [setStatus_eq]

@[simp] theorem postSpace_home (s : State) : (postSpace s).frame.home = s.frame.home := (State.home_of_mute (postSpace_mute s)).trans rfl

@[simp] theorem dropDwell_home (s : State) : (dropDwell s).frame.home = s.frame.home := by
  unfold dropDwell
  dsimp only
  split <;> rfl

@[simp] theorem leaveWork_home (s : State) : (leaveWork s).frame.home = s.frame.home := by
  unfold leaveWork withdrawLookUp
  split
  · rw [State.home_of_aside (withdrawAsk_aside .engine _), dropDwell_home]
  · exact dropDwell_home s

@[simp] theorem endMove_home (e : MoveEnd) (s : State) : (endMove e s).frame.home = s.frame.home := by
  cases hm : s.handshake.move with
  | none => simp only [endMove, hm]
  | some m => rw [endMove_eq hm]; rfl

@[simp] theorem endHead_home (e : HeadEnd) (s : State) : (endHead e s).frame.home = s.frame.home := by
  cases hx : s.handshake.head with
  | none => simp only [endHead, hx]
  | some x => rw [endHead_eq hx]; rfl

@[simp] theorem withdrawBoth_home (c : Cause) (s : State) : (withdrawBoth c s).frame.home = s.frame.home := by
  have move : ∀ s : State, (withdrawMove c s).frame.home = s.frame.home := fun s => by
    unfold withdrawMove
    split
    · rfl
    · rw [postMoveWithdrawn, State.home_of_mute (post_mute ..), endMove_home]
  have head : ∀ s : State, (withdrawHead c s).frame.home = s.frame.home := fun s => by
    unfold withdrawHead
    split
    · rfl
    · rw [postHeadWithdrawn, State.home_of_mute (post_mute ..), endHead_home]
  exact (head _).trans (move s)

@[simp] theorem releaseBoth_home (s : State) : (releaseBoth s).frame.home = s.frame.home := by simp [releaseBoth, releaseMove, releaseHead]

@[simp] theorem writeRecord_home (j : JobRecord) (c : CompletionRecord) (s : State) : (writeRecord j c s).frame.home = s.frame.home := by
  unfold writeRecord
  by_cases h : (s.port j.submitter.port).completions.length < 8
  · exact (State.home_of_mute (writeCompletion_mute_room h)).trans rfl
  · rw [writeCompletion_full (Nat.not_lt.mp h), State.setPort_frame]

@[simp] theorem clearActive_home (r : SearchRecord) (s : State) : (clearActive r s).frame.home = s.frame.home :=
  setStatus_home r.job.work .idle s

@[simp] theorem accountEnd_home (j : JobRecord) (s : State) : (accountEnd j s).frame.home = s.frame.home := by
  have inserted : ∀ s : State, (insertCheck s).frame.home = s.frame.home := fun s => by
    unfold insertCheck
    split
    · rfl
    · split
      · rw [acceptWith_eq]; rfl
      · rfl
  rw [accountEnd_counted, inserted]
  rfl

@[simp] theorem State.recorded_home (s : State) (r : SearchRecord) (o : JobOutcome) : (s.recorded r o).frame.home = s.frame.home := by
  simp [State.recorded]

@[simp] theorem enterPublish_home (s : State) : (enterPublish s).frame.home = s.frame.home := askGrant_home _ _ _

/-! ### Home capture DONE (R88, R89) -/

/-- Beginning a job drops a home capture that waits, and no other. -/
theorem beginWork_home (r : SearchRecord) (s : State) : (beginWork r s).frame.home = (dropHome s).frame.home := by
  have begun : ∀ e, (s.begun r e).frame.home = (dropHome s).frame.home := fun e => by rw [State.begun_eq]
  by_cases hw : r.job.work.needsHead = true
  · rw [beginWork_search hw]
    split
    · unfold placeHead
      split
      · exact begun .headWait
      · split
        · exact ((State.home_of_mute (placeHeadFor_mute _ _ _)).trans rfl).trans (begun .headWait)
        · exact begun .headWait
    · exact (askGrant_home _ _ _).trans (begun .headWait)
  · obtain ⟨target, ht⟩ := JobWork.moveTo_of_needsHead (Bool.eq_false_iff.mpr hw)
    have active : (s.begun r .moveWait).engine.active = some r := by rw [State.begun_engine]
    rw [beginWork_moveTo ht]
    exact ((State.home_of_mute (placeMove_mute active)).trans (endMove_home .released ((s.begun r .moveWait).aimed r))).trans (begun .moveWait)

theorem beginWork_homeDone (h : s.frame.home = .done) : (beginWork r s).frame.home = .done := by
  rw [beginWork_home]
  simp [dropHome, h]

theorem takeHead_homeDone (h : s.frame.home = .done) : (takeHead s).frame.home = .done := by
  unfold takeHead
  split
  · exact h
  · exact beginWork_homeDone ((postSpace_home _).trans h)

theorem resumeTop_homeDone (h : s.frame.home = .done) : (resumeTop s).frame.home = .done := by
  unfold resumeTop
  split
  · exact h
  · exact beginWork_homeDone h

theorem tryPreempt_homeDone (h : s.frame.home = .done) : (tryPreempt s).frame.home = .done := by
  unfold tryPreempt
  split
  · cases ha : s.engine.active with
    | none =>
      unfold preempt
      split
      · exact h
      · cases (‹s.engine.active = some _›.symm.trans ha)
    | some r =>
      rw [preempt_eq ha]
      refine takeHead_homeDone ?_
      unfold State.displaced
      rw [setStatus_home]
      exact (withdrawBoth_home _ _).trans ((leaveWork_home s).trans h)
  · exact h

theorem advance_homeDone (h : s.frame.home = .done) : (advance s).frame.home = .done := by
  unfold advance
  split
  · split
    · exact (enterPublish_home s).trans h
    · split
      · split
        · exact tryPreempt_homeDone (resumeTop_homeDone h)
        · exact h
      · split
        · split
          · exact takeHead_homeDone h
          · exact h
        · exact h
  · exact tryPreempt_homeDone h

theorem afterJob_homeDone (h : s.frame.home = .done) (f b : Bool) : (afterJob f b s).frame.home = .done := by
  unfold afterJob
  split
  · exact (enterPublish_home _).trans h
  · split
    · exact h
    · exact advance_homeDone h

theorem endJob_homeDone (h : s.frame.home = .done) (ho : o ≠ .cleared) : (endJob o s).frame.home = .done := by
  cases ha : s.engine.active with
  | none =>
    unfold endJob
    split
    · exact h
    · cases (‹s.engine.active = some _›.symm.trans ha)
  | some r =>
    rw [endJob_eq ha ho]
    exact afterJob_homeDone (by simp [h]) _ _

theorem endArrived_homeDone (h : s.frame.home = .done) : (endArrived r s).frame.home = .done := by
  unfold endArrived
  exact afterJob_homeDone (by simp [h]) _ _

theorem enterDwell_homeDone (h : s.frame.home = .done) : (enterDwell s).frame.home = .done := by
  unfold enterDwell
  split
  · exact endJob_homeDone h nofun
  · exact h

theorem enterSettling_homeDone (h : s.frame.home = .done) : (enterSettling s).frame.home = .done := by
  unfold enterSettling
  split
  · exact endJob_homeDone h nofun
  · exact h

theorem setMovePhase_home (ph : MovePhase) (s : State) : (setMovePhase ph s).frame.home = s.frame.home := by
  unfold setMovePhase
  split
  · rfl
  · rw [setMove_frame]

theorem settleMet_homeDone (h : s.frame.home = .done) : (settleMet s).frame.home = .done := by
  have met := (setMovePhase_home .settled (({ s with frame := { s.frame with settle := .met, settleTimer := .stopped } } : State).setHandshake
    { s.handshake with moveTimeout := s.handshake.moveTimeout.pause })).trans h
  unfold settleMet
  dsimp only
  split
  · split
    · split
      · exact enterDwell_homeDone met
      · exact endArrived_homeDone met
    · exact met
  · exact met

theorem settleLoss_homeDone (h : s.frame.home = .done) : (settleLoss s).frame.home = .done := by
  have lost := (setMovePhase_home .done (({ s with frame := { s.frame with settle := .outside, settleTimer := .stopped } } : State).setHandshake
    { s.handshake with moveTimeout := s.handshake.moveTimeout.resume })).trans h
  unfold settleLoss
  dsimp only
  split
  · exact enterSettling_homeDone ((dropDwell_home _).trans lost)
  · exact lost

theorem settleEvaluate_homeDone (h : s.frame.home = .done) : (settleEvaluate s).frame.home = .done := by
  unfold settleEvaluate
  split
  · split
    · exact settleMet_homeDone h
    · exact h
  · exact h

theorem settleSample_homeDone (h : s.frame.home = .done) : (settleSample s).frame.home = .done := by
  unfold settleSample
  split
  · exact h
  · split
    · exact settleEvaluate_homeDone h
    · exact h
  · split <;> exact h
  · split
    · exact h
    · exact settleLoss_homeDone h

/-! ### A fault leaves home capture alone (R56) -/

theorem endJob_fault_home (ho : o.isFault = true) (s : State) : (endJob o s).frame.home = s.frame.home := by
  have cleared : o ≠ .cleared := by
    rintro rfl
    cases ho
  cases ha : s.engine.active with
  | none =>
    unfold endJob
    split
    · rfl
    · cases (‹s.engine.active = some _›.symm.trans ha)
  | some r =>
    rw [endJob_eq ha cleared, ho, Bool.true_or]
    unfold afterJob
    split
    · simp
    · simp

theorem takeFault_home (ho : o.isFault = true) (s : State) : (takeFault o s).frame.home = s.frame.home := by
  unfold takeFault
  split
  · rfl
  · exact endJob_fault_home ho s
  · exact endJob_fault_home ho s
  · exact endJob_fault_home ho s
  · exact endJob_fault_home ho s
  · rfl
  · rfl
  · rfl

end Sys2Proof.Machine
end

section
/-! SUPPORT. What a fault does to the engine, what a filter sample does stage by stage, and O31 (R56, R80 to R97). -/

namespace Sys2Proof.Machine

variable {s t u v : State} {r : SearchRecord} {m : MoveRequest} {o o' : JobOutcome} {d : Detail} {p q : Port}

/-! ### A fault (R56) -/

/-- A fault: its notices, then the engine. -/
def State.raise (s : State) (d : Detail) (o : JobOutcome) : State := takeFault o (postFault d s)

theorem State.raise_kept (s : State) (d : Detail) (o : JobOutcome) : (s.raise d o).kept = s.kept := by simp [State.raise]

theorem State.raise_home (ho : o.isFault = true) (s : State) (d : Detail) : (s.raise d o).frame.home = s.frame.home :=
  (takeFault_home ho _).trans (State.home_of_mute (postFault_mute d s))

/-- The frame without home capture's neighbour, the settle test. -/
def PositionFrame.calm (f : PositionFrame) : PositionFrame := { f with settle := .none, settleTimer := .stopped }

theorem PositionFrame.calm_of_kept (h : t.kept = s.kept) (hh : t.frame.home = s.frame.home) : t.frame.calm = s.frame.calm := by
  have frame : ({ t.frame with home := .idle, settle := .none, settleTimer := .stopped } : PositionFrame)
      = { s.frame with home := .idle, settle := .none, settleTimer := .stopped } := congrArg (·.2.2.2.2.2) h
  have restored := congrArg (fun f : PositionFrame => { f with home := t.frame.home }) frame
  rw [hh] at restored
  refine Eq.trans ?_ restored
  rw [← hh]
  rfl

theorem State.raise_calm (ho : o.isFault = true) (s : State) (d : Detail) : (s.raise d o).frame.calm = s.frame.calm :=
  PositionFrame.calm_of_kept (s.raise_kept d o) (s.raise_home ho d)

/-- The ATTACHED ones of Port W and Port P are told of a fault (R85, R91, R92). -/
theorem State.raise_told (hp : p ≠ .adapter) (ha : (s.port p).attached = true) (d : Detail) (o : JobOutcome) :
    ((s.raise d o).port p).notices.details.fault = some d := by
  have kept : ∀ u : State, ((takeFault o u).port p).notices.details.fault = (u.port p).notices.details.fault := fun u =>
    (takeFault_moves (c := { jobs := true, lists := fun _ => true }) rfl fun _ _ _ => rfl).detail (src := .fault) rfl nofun nofun
  refine (kept _).trans ?_
  unfold postFault
  cases p with
  | adapter => exact absurd rfl hp
  | positioner => exact post_detail_same (src := .fault) (by rw [post_attached]; exact ha)
  | workstation =>
    rw [post_details, if_neg (by simp)]
    exact post_detail_same (src := .fault) ha

/-- What a fault means for an engine that works on no job (R56). -/
structure State.Struck (s t : State) : Prop where
  rest : s.engine.state = .idle ∨ s.engine.state = .faultHold → t.engine.state = .faultHold
  mind : s.engine.state = .commit ∨ s.engine.state = .publish → t.engine = { s.engine with faultPending := true }

/-- What a fault means for a job in work, where no group is open (R55, R56). -/
structure State.Broken (s t : State) (r : SearchRecord) (o : JobOutcome) : Prop where
  state : t.engine.state = .faultHold
  active : t.engine.active = none
  move : t.handshake.move = none
  head : t.handshake.head = none
  list : (s.port (Submitter.port r.job.submitter)).completions.length < 8 → (t.port (Submitter.port r.job.submitter)).completions
    = (s.port (Submitter.port r.job.submitter)).completions ++ [plainRecord r.job o r.iterations s.sample.revolutions]

/-- The first fault ends a working job with its outcome. -/
theorem endJob_broken (ha : s.engine.active = some r) (hg : s.jobs.groups = []) (ho : o.isFault = true) : s.Broken (endJob o s) r o := by
  have cleared : o ≠ .cleared := by
    rintro rfl
    cases ho
  have shop := s.closed_shop r o
  have groups : (clearActive r (s.recorded r o)).jobs.groups = [] := (congrArg (·.jobs.groups) shop).trans hg
  have closed : r.job.closing (clearActive r (s.recorded r o)).jobs.groups = [] := by
    rw [groups]
    unfold JobRecord.closing
    cases r.job.group <;> rfl
  obtain ⟨engine, rest⟩ := insertCheck_rest ((clearActive r (s.recorded r o)).counted r.job)
  have due : (accountEnd r.job (clearActive r (s.recorded r o))).jobs.publishDue = false := by
    rw [accountEnd_counted]
    exact JobQueue.publishDue_nil (rest.trans closed)
  have ended : endJob o s = (accountEnd r.job (clearActive r (s.recorded r o))).setEngine
      { (accountEnd r.job (clearActive r (s.recorded r o))).engine with state := .faultHold, faultPending := false } := by
    rw [endJob_eq ha cleared, ho, Bool.true_or]
    unfold afterJob
    rw [due, if_neg (by decide), if_pos rfl]
  have handshake : (endJob o s).handshake = _ := (congrArg State.handshake ended).trans
    ((accountEnd_handshake r.job _).trans ((clearActive_handshake r _).trans (s.recorded_handshake r o)))
  obtain ⟨move, head⟩ := s.handshake.both_ended (.withdrawn (.ended o)) (.withdrawn (.ended o))
  refine ⟨congrArg (·.engine.state) ended, (congrArg (·.engine.active) ended).trans ?_, (congrArg HandshakeUnit.move handshake).trans move,
    (congrArg HandshakeUnit.head handshake).trans head, fun room => ?_⟩
  · show (accountEnd r.job (clearActive r (s.recorded r o))).engine.active = none
    rw [accountEnd_counted, engine]
    exact congrArg (·.engine.active) shop
  · rw [endJob_completions ha cleared]
    exact joinLists_room room

theorem State.raise_struck (s : State) (d : Detail) (o : JobOutcome) : s.Struck (s.raise d o) := by
  have engine : (postFault d s).engine = s.engine := State.engine_of_shop (postFault_shop d s)
  have cases : ∀ u : State, u.Struck (takeFault o u) := fun u => by
    unfold takeFault
    split
    · exact ⟨fun _ => rfl, fun h => by simp [‹u.engine.state = _›] at h⟩
    · exact ⟨fun h => by simp [‹u.engine.state = _›] at h, fun h => by simp [‹u.engine.state = _›] at h⟩
    · exact ⟨fun h => by simp [‹u.engine.state = _›] at h, fun h => by simp [‹u.engine.state = _›] at h⟩
    · exact ⟨fun h => by simp [‹u.engine.state = _›] at h, fun h => by simp [‹u.engine.state = _›] at h⟩
    · exact ⟨fun h => by simp [‹u.engine.state = _›] at h, fun h => by simp [‹u.engine.state = _›] at h⟩
    · exact ⟨fun h => by simp [‹u.engine.state = _›] at h, fun _ => rfl⟩
    · exact ⟨fun h => by simp [‹u.engine.state = _›] at h, fun _ => rfl⟩
    · exact ⟨fun _ => ‹u.engine.state = _›, fun h => by simp [‹u.engine.state = _›] at h⟩
  obtain ⟨rest, mind⟩ := cases (postFault d s)
  rw [engine] at rest mind
  exact ⟨rest, mind⟩

theorem State.raise_broken (ha : s.engine.active = some r) (hw : s.engine.state.working = true) (hg : s.jobs.groups = [])
    (ho : o.isFault = true) (d : Detail) : s.Broken (s.raise d o) r o := by
  have shop := postFault_shop d s
  have engine : (postFault d s).engine = s.engine := State.engine_of_shop shop
  have ends : s.raise d o = endJob o (postFault d s) := by
    unfold State.raise takeFault
    rw [engine]
    cases he : s.engine.state <;> simp_all [EngineState.working]
  obtain ⟨state, active, move, head, list⟩ := endJob_broken (s := postFault d s) (o := o) (by rw [engine, ha])
    (by rw [State.jobs_of_shop shop, hg]) ho
  rw [State.completions_of_shop shop, State.sample_of_shop shop] at list
  rw [ends]
  exact ⟨state, active, move, head, list⟩

/-! ### What follows a fault in the same sample -/

/-- A step that leaves an engine in FAULT_HOLD, or one that keeps a fault in mind, as it is. -/
structure State.Leaves (s t : State) : Prop where
  hold : s.engine.state = .faultHold → t.engine = s.engine ∧ (∀ q, (t.port q).completions = (s.port q).completions)
    ∧ (s.handshake.move = none → s.handshake.head = none → t.handshake.move = none ∧ t.handshake.head = none)
  mind : s.engine.state = .commit ∨ s.engine.state = .publish → s.engine.faultPending = true → t.engine = s.engine

theorem State.Leaves.refl (s : State) : s.Leaves s := ⟨fun _ => ⟨rfl, fun _ => rfl, fun h h' => ⟨h, h'⟩⟩, fun _ _ => rfl⟩

theorem State.Struck.leaves (h : s.Struck t) (hl : t.Leaves u) : s.Struck u := by
  refine ⟨fun hs => ?_, fun hs => ?_⟩
  · rw [(hl.hold (h.rest hs)).1]
    exact h.rest hs
  · have engine := h.mind hs
    exact (hl.mind (by rw [engine]; exact hs) (by rw [engine])).trans engine

theorem State.Broken.leaves (h : s.Broken t r o) (hl : t.Leaves u) : s.Broken u r o := by
  obtain ⟨engine, lists, requests⟩ := hl.hold h.state
  obtain ⟨move, head⟩ := requests h.move h.head
  exact ⟨(congrArg Engine.state engine).trans h.state, (congrArg Engine.active engine).trans h.active, move, head,
    fun room => (lists _).trans (h.list room)⟩

/-- A further fault (R56). -/
theorem State.raise_leaves (s : State) (d : Detail) (o : JobOutcome) : s.Leaves (s.raise d o) := by
  have shop := postFault_shop d s
  have engine : (postFault d s).engine = s.engine := State.engine_of_shop shop
  refine ⟨fun hs => ?_, fun hs hp => ?_⟩
  · have still : s.raise d o = postFault d s := by
      unfold State.raise takeFault
      rw [engine, hs]
    rw [still]
    refine ⟨engine, fun q => State.completions_of_shop shop q, fun hm hx => ?_⟩
    have handshake : (postFault d s).handshake = s.handshake := State.handshake_of_mute (postFault_mute d s)
    rw [handshake]
    exact ⟨hm, hx⟩
  · rw [(s.raise_struck d o).mind hs, ← hp]

/-- The settle test in an engine that neither settles nor dwells (R95, R96). -/
theorem settleSample_rests (he : s.engine.state ≠ .settling) (hd : s.engine.state ≠ .dwell) : (settleSample s).shop = s.shop
    ∧ (settleSample s).handshake.head = s.handshake.head
    ∧ (s.handshake.move = none → (settleSample s).handshake.move = none) := by
  have phased : ∀ (ph : MovePhase) (u : State), (setMovePhase ph u).handshake.head = u.handshake.head
      ∧ (u.handshake.move = none → (setMovePhase ph u).handshake.move = none) := fun ph u => by
    unfold setMovePhase
    split
    · exact ⟨rfl, fun h => h⟩
    · rw [setMove_handshake]
      exact ⟨rfl, fun h => by rw [‹u.handshake.move = some _›] at h; cases h⟩
  have met : (settleMet s).shop = s.shop ∧ (settleMet s).handshake.head = s.handshake.head
      ∧ (s.handshake.move = none → (settleMet s).handshake.move = none) := by
    unfold settleMet
    dsimp only
    rw [if_neg]
    · exact ⟨(setMovePhase_shop _ _).trans rfl, (phased .settled _).1, fun hm => (phased .settled _).2 hm⟩
    · rw [State.engine_of_shop (setMovePhase_shop _ _)]
      exact he
  have lost : (settleLoss s).shop = s.shop ∧ (settleLoss s).handshake.head = s.handshake.head
      ∧ (s.handshake.move = none → (settleLoss s).handshake.move = none) := by
    unfold settleLoss
    dsimp only
    rw [if_neg]
    · exact ⟨(setMovePhase_shop _ _).trans rfl, (phased .done _).1, fun hm => (phased .done _).2 hm⟩
    · rw [State.engine_of_shop (setMovePhase_shop _ _)]
      exact hd
  have same : s.shop = s.shop ∧ s.handshake.head = s.handshake.head ∧ (s.handshake.move = none → s.handshake.move = none) :=
    ⟨rfl, rfl, fun h => h⟩
  unfold settleSample
  split
  · exact same
  · split
    · unfold settleEvaluate
      rw [if_pos ‹_›]
      split
      · exact met
      · exact same
    · exact same
  · split
    · exact same
    · exact same
  · split
    · exact same
    · exact lost

theorem settleSample_leaves (s : State) : s.Leaves (settleSample s) := by
  have resting : s.engine.state ≠ .settling → s.engine.state ≠ .dwell → (settleSample s).engine = s.engine := fun he hd =>
    State.engine_of_shop (settleSample_rests he hd).1
  refine ⟨fun hs => ?_, fun hs _ => ?_⟩
  · obtain ⟨shop, head, move⟩ := settleSample_rests (s := s) (by rw [hs]; decide) (by rw [hs]; decide)
    exact ⟨State.engine_of_shop shop, fun q => State.completions_of_shop shop q, fun hm hx => ⟨move hm, head.trans hx⟩⟩
  · obtain hs | hs := hs
    · exact resting (by rw [hs]; decide) (by rw [hs]; decide)
    · exact resting (by rw [hs]; decide) (by rw [hs]; decide)

/-! ### The faults of a sample, in order -/

/-- A state come from another by changes of the frame that leave the settle test, and by faults in an order. -/
structure State.Through (s t : State) (hits : List (Detail × JobOutcome)) : Prop where
  store : t.store = s.store
  attached : ∀ p, (t.port p).attached = (s.port p).attached
  quiet : hits = [] → ∃ f : PositionFrame, t = s.setFrame f ∧ f.settle = s.frame.settle ∧ f.settleTimer = s.frame.settleTimer
  struck : hits ≠ [] → s.Struck t
  broken : ∀ x, hits.head? = some x → ∀ r, s.engine.active = some r → s.engine.state.working = true → s.jobs.groups = [] → s.Broken t r x.2
  told : ∀ x, hits.getLast? = some x → ∀ p, p ≠ .adapter → (s.port p).attached = true → (t.port p).notices.details.fault = some x.1

variable {hits : List (Detail × JobOutcome)}

theorem State.Through.refl (s : State) : s.Through s [] :=
  ⟨rfl, fun _ => rfl, fun _ => ⟨s.frame, rfl, rfl, rfl⟩, fun h => absurd rfl h, nofun, nofun⟩

theorem State.Through.setFrame (h : s.Through t hits) {f : PositionFrame} (hs : f.settle = t.frame.settle)
    (ht : f.settleTimer = t.frame.settleTimer) : s.Through (t.setFrame f) hits := by
  have leaves : t.Leaves (t.setFrame f) := ⟨fun _ => ⟨rfl, fun _ => rfl, fun h h' => ⟨h, h'⟩⟩, fun _ _ => rfl⟩
  refine ⟨h.store, h.attached, fun none => ?_, fun some => (h.struck some).leaves leaves,
    fun x hx r ha hw hg => (h.broken x hx r ha hw hg).leaves leaves, h.told⟩
  obtain ⟨f', rfl, settle, timer⟩ := h.quiet none
  exact ⟨f, rfl, hs.trans settle, ht.trans timer⟩

theorem State.Through.raise (h : s.Through t hits) (ho : o.isFault = true) (d : Detail) : s.Through (t.raise d o) (hits ++ [(d, o)]) := by
  refine ⟨(State.store_of_kept (t.raise_kept d o)).trans h.store,
    fun p => (State.attached_of_kept (t.raise_kept d o) p).trans (h.attached p), fun none => by simp at none, fun _ => ?_,
    fun x hx r ha hw hg => ?_, fun x hx p hp ha => ?_⟩
  · by_cases first : hits = []
    · obtain ⟨f, rfl, -, -⟩ := h.quiet first
      obtain ⟨rest, mind⟩ := (s.setFrame f).raise_struck d o
      exact ⟨rest, mind⟩
    · exact (h.struck first).leaves (t.raise_leaves d o)
  · cases hits with
    | nil =>
      obtain rfl := Option.some.inj hx
      obtain ⟨f, rfl, -, -⟩ := h.quiet rfl
      obtain ⟨state, active, move, head, list⟩ := State.raise_broken (s := s.setFrame f) ha hw hg ho d
      exact ⟨state, active, move, head, list⟩
    | cons y hits =>
      obtain rfl := Option.some.inj hx
      exact (h.broken y rfl r ha hw hg).leaves (t.raise_leaves d o)
  · rw [List.getLast?_concat] at hx
    obtain rfl := Option.some.inj hx
    exact State.raise_told hp ((h.attached p).trans ha) d o

end Sys2Proof.Machine
end

section
/-! SUPPORT. The stages of a filter sample, and O31 (R80 to R97). -/

namespace Sys2Proof.Machine

variable {s t u v : State} {r : SearchRecord} {m : MoveRequest} {o : JobOutcome} {d : Detail} {p q : Port}
  {hits : List (Detail × JobOutcome)} {b : PositionFrame}

/-! ### The stages (R84 to R92) -/

/-- One filter at one sample (R81, R82). -/
theorem InputFilter.step_level (f : InputFilter) (n : Nat) (x : Bool) :
    (f.step n x).level = if x ≠ f.level ∧ n ≤ f.run + 1 then x else f.level := by
  unfold InputFilter.step
  by_cases hx : x = f.level
  · simp [hx]
  · by_cases hn : n ≤ f.run + 1
    · simp [hx, hn]
    · simp [hx, hn]

theorem quadrature_eq_none {a b a' b' : Bool} : quadrature a b a' b' = none ↔ a ≠ a' ∧ b ≠ b' := by
  unfold quadrature
  by_cases h : a ≠ a' ∧ b ≠ b'
  · simp [h]
  · rw [if_neg h]
    simp only [h, iff_false]
    split
    · simp
    · split <;> simp

/-- Both channels have changed at once (R85). -/
def PositionFrame.illegal (b f : PositionFrame) : Bool := b.encA.level != f.encA.level && b.encB.level != f.encB.level

/-- A changed count has left the travel limits in force (R90, R91). -/
def State.strayed (s : State) (b : PositionFrame) : Bool :=
  s.store.inForce && s.frame.count != b.count && travelFault s.frame.travel (s.store.profile.travelOf s.frame.count)

/-- The faults that the stages of a sample raise. -/
def State.encoderHits (s : State) (b : PositionFrame) : List (Detail × JobOutcome) :=
  if b.illegal s.frame = true then [(.encoder s.frame.count, .encoderFault)] else []

def State.travelHits (s : State) (b : PositionFrame) : List (Detail × JobOutcome) :=
  if s.strayed b = true then [(.travel (s.store.profile.travelOf s.frame.count == .above) s.frame.count, .travelLimit)] else []

def State.pfaultHits (s : State) (b : PositionFrame) : List (Detail × JobOutcome) :=
  if rising b.pfault.level s.frame.pfault.level = true then [(.pfault s.frame.count, .positionerFault)] else []

theorem countStage_illegal (h : b.illegal s.frame = true) : countStage b s
    = (s.setFrame { s.frame with errors := satSucc 255 s.frame.errors }).raise (.encoder s.frame.count) .encoderFault := by
  unfold countStage
  rw [quadrature_eq_none.mpr (by simpa [PositionFrame.illegal] using h)]
  rfl

theorem countStage_legal (h : ¬b.illegal s.frame = true) : ∃ c, countStage b s = s.setFrame { s.frame with count := c } := by
  unfold countStage
  split
  · exact absurd (by simpa [PositionFrame.illegal] using quadrature_eq_none.mp ‹_›) h
  · exact ⟨_, rfl⟩

theorem countStage_through (h : s.Through t hits) (b : PositionFrame) : s.Through (countStage b t) (hits ++ t.encoderHits b) := by
  unfold State.encoderHits
  split
  · rw [countStage_illegal ‹_›]
    exact (h.setFrame (f := { t.frame with errors := satSucc 255 t.frame.errors }) rfl rfl).raise rfl _
  · obtain ⟨c, hc⟩ := countStage_legal ‹_›
    rw [hc, List.append_nil]
    exact h.setFrame rfl rfl

theorem countStage_calm (b : PositionFrame) (s : State) :
    ∃ c e, (countStage b s).frame.calm = { s.frame.calm with count := c, errors := e } := by
  by_cases h : b.illegal s.frame = true
  · rw [countStage_illegal h, State.raise_calm rfl]
    exact ⟨_, _, rfl⟩
  · obtain ⟨c, hc⟩ := countStage_legal h
    rw [hc]
    exact ⟨c, _, rfl⟩

/-- A capture sets the count to the home value (R88). -/
theorem captureStage_eq (b : PositionFrame) (s : State) : captureStage b s
    = s.setFrame (if rising b.encZ.level s.frame.encZ.level = true ∧ s.frame.home = .waiting then
        { s.frame with count := s.store.profile.homeValue, home := .done } else s.frame) := by
  unfold captureStage
  split <;> rfl

theorem captureStage_through (h : s.Through t hits) (b : PositionFrame) : s.Through (captureStage b t) hits := by
  rw [captureStage_eq]
  split <;> exact h.setFrame rfl rfl

/-- The travel test of a changed count: the travel state, and a fault where it leaves the limits (R90, R91). -/
theorem travelStage_strayed (h : s.strayed b = true) : travelStage b s
    = (s.setFrame { s.frame with travel := s.store.profile.travelOf s.frame.count }).raise
      (.travel (s.store.profile.travelOf s.frame.count == .above) s.frame.count) .travelLimit := by
  simp only [State.strayed, Bool.and_eq_true, bne_iff_ne] at h
  obtain ⟨⟨force, moved⟩, fault⟩ := h
  unfold travelStage
  rw [if_neg moved, testTravel_inForce force, if_pos fault]
  rfl

theorem travelStage_inside (h : ¬s.strayed b = true) : travelStage b s = s.setFrame { s.frame with
    travel := if s.store.inForce = true ∧ s.frame.count ≠ b.count then s.store.profile.travelOf s.frame.count else s.frame.travel } := by
  simp only [State.strayed, Bool.and_eq_true, bne_iff_ne] at h
  unfold travelStage
  by_cases moved : s.frame.count = b.count
  · rw [if_pos moved, if_neg fun h => h.2 moved]
    rfl
  · rw [if_neg moved]
    by_cases force : s.store.inForce = true
    · rw [if_pos ⟨force, moved⟩, testTravel_inForce force, if_neg fun fault => h ⟨⟨force, moved⟩, fault⟩]
      rfl
    · rw [if_neg fun h => force h.1]
      unfold testTravel
      rw [if_neg force]
      rfl

theorem travelStage_through (h : s.Through t hits) (b : PositionFrame) : s.Through (travelStage b t) (hits ++ t.travelHits b) := by
  unfold State.travelHits
  split
  · rw [travelStage_strayed ‹_›]
    exact (h.setFrame (f := { t.frame with travel := t.store.profile.travelOf t.frame.count }) rfl rfl).raise rfl _
  · rw [travelStage_inside ‹_›, List.append_nil]
    exact h.setFrame rfl rfl

theorem travelStage_calm (b : PositionFrame) (s : State) : (travelStage b s).frame.calm = { s.frame.calm with
    travel := if s.store.inForce = true ∧ s.frame.count ≠ b.count then s.store.profile.travelOf s.frame.count else s.frame.travel } := by
  by_cases h : s.strayed b = true
  · have moved : s.store.inForce = true ∧ s.frame.count ≠ b.count := by
      simp only [State.strayed, Bool.and_eq_true, bne_iff_ne] at h
      exact h.1
    rw [travelStage_strayed h, State.raise_calm rfl, if_pos moved]
    rfl
  · rw [travelStage_inside h]
    rfl

theorem pfaultStage_through (h : s.Through t hits) (b : PositionFrame) : s.Through (pfaultStage b t) (hits ++ t.pfaultHits b) := by
  unfold State.pfaultHits pfaultStage
  split
  · exact h.raise rfl _
  · rw [List.append_nil]
    exact h

theorem pfaultStage_calm (b : PositionFrame) (s : State) : (pfaultStage b s).frame.calm = s.frame.calm := by
  unfold pfaultStage
  split
  · exact s.raise_calm rfl _
  · rfl

/-! ### The sample up to its settle test -/

/-- The state of a sample before its settle test, told against the state before the sample. -/
structure State.Staged (s u : State) (f : PositionFrame) : Prop where
  through : s.Through u ((if s.frame.illegal f = true then [(.encoder s.frame.count, .encoderFault)] else [])
    ++ (if (s.store.inForce && u.frame.count != s.frame.count && travelFault s.frame.travel (s.store.profile.travelOf u.frame.count)) = true
      then [(.travel (s.store.profile.travelOf u.frame.count == .above) u.frame.count, .travelLimit)] else [])
    ++ if rising s.frame.pfault.level f.pfault.level = true then [(.pfault u.frame.count, .positionerFault)] else [])
  captured : rising s.frame.encZ.level f.encZ.level = true → s.frame.home = .waiting →
    u.frame.home = .done ∧ u.frame.count = s.store.profile.homeValue
  travel : u.frame.travel = if s.store.inForce = true ∧ u.frame.count ≠ s.frame.count then s.store.profile.travelOf u.frame.count
    else s.frame.travel

theorem stages_staged (a b z pf : Bool) (s : State) : s.Staged (pfaultStage s.frame (travelStage s.frame (captureStage s.frame
    (countStage s.frame (s.setFrame (s.frame.filtered a b z pf)))))) (s.frame.filtered a b z pf) := by
  let s₀ := s.setFrame (s.frame.filtered a b z pf)
  let s₁ := countStage s.frame s₀
  let s₂ := captureStage s.frame s₁
  let s₃ := travelStage s.frame s₂
  have through₀ : s.Through s₀ [] := (State.Through.refl s).setFrame rfl rfl
  have through₁ : s.Through s₁ _ := countStage_through through₀ s.frame
  have through₂ : s.Through s₂ _ := captureStage_through through₁ s.frame
  have through₃ : s.Through s₃ _ := travelStage_through through₂ s.frame
  have through₄ := pfaultStage_through through₃ s.frame
  obtain ⟨c, e, calm₁⟩ := countStage_calm s.frame s₀
  have captured : s₂.frame = _ := congrArg State.frame (captureStage_eq s.frame s₁)
  have calm₃ : s₃.frame.calm = _ := travelStage_calm s.frame s₂
  have calm₄ := pfaultStage_calm s.frame s₃
  have encZ : s₁.frame.encZ = (s.frame.filtered a b z pf).encZ := (congrArg PositionFrame.encZ calm₁).trans rfl
  have home : s₁.frame.home = s.frame.home := (congrArg PositionFrame.home calm₁).trans rfl
  have beside : s₂.frame.travel = s₁.frame.travel ∧ s₂.frame.pfault = s₁.frame.pfault := by
    rw [captured]
    split <;> exact ⟨rfl, rfl⟩
  have travel : s₂.frame.travel = s.frame.travel := beside.1.trans ((congrArg PositionFrame.travel calm₁).trans rfl)
  have pfault : s₃.frame.pfault = (s.frame.filtered a b z pf).pfault :=
    (congrArg PositionFrame.pfault calm₃ ).trans (beside.2.trans ((congrArg PositionFrame.pfault calm₁).trans rfl))
  have count₃ : s₃.frame.count = s₂.frame.count := (congrArg PositionFrame.count calm₃).trans rfl
  have count₄ : (pfaultStage s.frame s₃).frame.count = s₂.frame.count := (congrArg PositionFrame.count calm₄ ).trans count₃
  have home₄ : (pfaultStage s.frame s₃).frame.home = s₂.frame.home :=
    (congrArg PositionFrame.home calm₄ ).trans ((congrArg PositionFrame.home calm₃).trans rfl)
  have travel₄ : (pfaultStage s.frame s₃).frame.travel = _ := (congrArg PositionFrame.travel calm₄ ).trans (congrArg PositionFrame.travel calm₃)
  refine ⟨?_, fun rise waits => ?_, ?_⟩
  · rw [count₄]
    simp only [State.encoderHits, State.travelHits, State.pfaultHits, State.strayed, through₂.store, travel, pfault, count₃,
      List.nil_append] at through₄
    exact through₄
  · rw [count₄, home₄, captured, if_pos ⟨by rw [encZ]; exact rise, home.trans waits⟩, through₁.store]
    exact ⟨rfl, rfl⟩
  · rw [travel₄, count₄, through₂.store, travel]

theorem exec_filterSample_staged (hs : s.frame.sampled = true) (a b z pf : Bool) : ∃ u, exec (.filterSample a b z pf) s
    = .next (settleStage s.frame u) ∧ s.Staged u (s.frame.filtered a b z pf) :=
  ⟨_, congrArg Host.Outcome.next (if_pos hs), stages_staged a b z pf s⟩

/-! ### The settle test of the sample (R95, R96) -/

/-- The state whose settle test has been lost: the move DONE again, its timeout running on (R96). -/
def State.unsettled (s : State) (m : MoveRequest) : State := { s with
  frame := { s.frame with settle := .outside, settleTimer := .stopped }
  handshake := { s.handshake with move := some { m with phase := .done }, moveTimeout := s.handshake.moveTimeout.resume } }

theorem settleLoss_eq (hm : s.handshake.move = some m) : settleLoss s
    = if s.engine.state = .dwell then enterSettling (dropDwell (s.unsettled m)) else s.unsettled m := by
  unfold settleLoss
  dsimp only
  rw [setMovePhase_eq (m := m)]
  · rfl
  · exact hm
  · decide

/-- What the settle test of a sample leaves of the frame. -/
theorem settleStage_frame (b : PositionFrame) (s : State) : (settleStage b s).frame.count = s.frame.count
    ∧ (settleStage b s).frame.travel = s.frame.travel ∧ (s.frame.home = .done → (settleStage b s).frame.home = .done) := by
  unfold settleStage
  split
  · exact ⟨rfl, rfl, fun h => h⟩
  · have still := (settleSample_moves (c := { jobs := true, lists := fun _ => true }) rfl (fun _ => rfl) s).frame rfl
    have count := congrArg PositionFrame.count still
    have travel := congrArg PositionFrame.travel still
    exact ⟨count, travel, settleSample_homeDone⟩

theorem settleStage_leaves (b : PositionFrame) (s : State) : s.Leaves (settleStage b s) := by
  unfold settleStage
  split
  · exact .refl s
  · exact settleSample_leaves s

theorem settleStage_fault (b : PositionFrame) (s : State) (p : Port) :
    ((settleStage b s).port p).notices.details.fault = (s.port p).notices.details.fault := by
  unfold settleStage
  split
  · rfl
  · exact (settleSample_moves (c := { jobs := true, lists := fun _ => true }) rfl (fun _ => rfl) s).detail (src := .fault) rfl nofun nofun

end Sys2Proof.Machine
end

section
/-! SUPPORT. What a filter sample brings about: O31 (R56, R85, R88, R90 to R93, R95, R96). -/

namespace Sys2Proof.Machine

variable {s t u v : State} {r : SearchRecord} {m : MoveRequest} {x y w : Detail × JobOutcome} {i o e : Bool} {b : PositionFrame}

/-! ### The settle test of a sample, case by case (R95, R96) -/

theorem settleStage_same (h : s.frame.count = b.count) : settleStage b s = s := if_pos h

theorem settleStage_moved (h : s.frame.count ≠ b.count) : settleStage b s = settleSample s := if_neg h

theorem settleSample_none (h : s.frame.settle = .none) : settleSample s = s := by simp [settleSample, h]

theorem settleSample_inside (h : s.frame.settle = .timing ∨ s.frame.settle = .met) (hw : s.withinWindow = true) : settleSample s = s := by
  obtain h | h := h
  · simp [settleSample, h, hw]
  · simp [settleSample, h, hw]

theorem settleSample_away (h : s.frame.settle = .outside) (hw : s.withinWindow = false) : settleSample s = s := by
  simp [settleSample, h, hw]

theorem settleSample_arrives (h : s.frame.settle = .outside) (hw : s.withinWindow = true) : settleSample s = settleEvaluate s := by
  simp [settleSample, h, hw]

theorem settleSample_departs (h : s.frame.settle = .timing) (hw : s.withinWindow = false) : settleSample s = s.outside := by
  simp [settleSample, h, hw, State.outside, State.setFrame]

theorem settleSample_loses (h : s.frame.settle = .met) (hw : s.withinWindow = false) : settleSample s = settleLoss s := by
  simp [settleSample, h, hw]

theorem dropDwell_dwelling (h : s.engine.state = .dwell) :
    dropDwell s = flushFifo (s.setEngine { s.engine with dwell := s.engine.dwell.cleared }) := if_pos h

/-- A settle loss in DWELL, the servo not lost for the whole loss timeout (R96). -/
theorem settleLoss_dwelling (hm : s.handshake.move = some m) (hd : s.engine.state = .dwell) (hl : s.sample.lossExpired = false) :
    settleLoss s = setEngineState .settling (flushFifo ((s.unsettled m).setEngine { s.engine with dwell := s.engine.dwell.cleared })) := by
  have dropped : dropDwell (s.unsettled m) = flushFifo ((s.unsettled m).setEngine { s.engine with dwell := s.engine.dwell.cleared }) :=
    dropDwell_dwelling (s := s.unsettled m) hd
  rw [settleLoss_eq hm, if_pos hd, dropped]
  exact enterSettling_locked (s := flushFifo ((s.unsettled m).setEngine { s.engine with dwell := s.engine.dwell.cleared })) hl

theorem settleLoss_elsewhere (hm : s.handshake.move = some m) (hd : s.engine.state ≠ .dwell) : settleLoss s = s.unsettled m :=
  (settleLoss_eq hm).trans (if_neg hd)

/-! ### The three faults a sample can raise -/

/-- The faults of a sample in their order: the first ends the job, the last is what the ports are told. -/
theorem State.Through.of_three {I O E : Prop}
    (h : s.Through u ((if i = true then [x] else []) ++ (if o = true then [y] else []) ++ if e = true then [w] else []))
    (hi : i = true ↔ I) (ho : o = true ↔ O) (he : e = true ↔ E) :
    ((I ∨ O ∨ E) → s.Struck u)
    ∧ (∀ r, s.engine.active = some r → s.engine.state.working = true → s.jobs.groups = [] →
      (I → s.Broken u r x.2) ∧ (¬I → O → s.Broken u r y.2) ∧ (¬I → ¬O → E → s.Broken u r w.2))
    ∧ (∀ p, p ≠ .adapter → (s.port p).attached = true →
      (E → (u.port p).notices.details.fault = some w.1) ∧ (¬E → O → (u.port p).notices.details.fault = some y.1)
      ∧ (¬E → ¬O → I → (u.port p).notices.details.fault = some x.1))
    ∧ (¬I → ¬O → ¬E → ∃ f : PositionFrame, u = s.setFrame f ∧ f.settle = s.frame.settle ∧ f.settleTimer = s.frame.settleTimer) := by
  rw [← hi, ← ho, ← he]
  refine ⟨fun hit => h.struck ?_, fun r ha hw hg => ⟨fun hi => ?_, fun hi ho => ?_, fun hi ho he => ?_⟩,
    fun p hp ha => ⟨fun he => ?_, fun he ho => ?_, fun he ho hi => ?_⟩, fun hi ho he => h.quiet ?_⟩
  · obtain hit | hit | hit := hit <;> simp [hit]
  · exact h.broken x (by simp [hi]) r ha hw hg
  · exact h.broken y (by simp [hi, ho]) r ha hw hg
  · exact h.broken w (by simp [hi, ho, he]) r ha hw hg
  · exact h.told w (by simp [he]) p hp ha
  · exact h.told y (by simp [he, ho]) p hp ha
  · exact h.told x (by simp [he, ho, hi]) p hp ha
  · simp [hi, ho, he]

theorem State.Broken.parts {j : JobOutcome} (h : s.Broken t r j) : t.engine.state = .faultHold ∧ t.engine.active = none
    ∧ t.handshake.move = none ∧ t.handshake.head = none
    ∧ ((s.port (Submitter.port r.job.submitter)).completions.length < 8 → (t.port (Submitter.port r.job.submitter)).completions
      = (s.port (Submitter.port r.job.submitter)).completions ++ [plainRecord r.job j r.iterations s.sample.revolutions]) :=
  ⟨h.state, h.active, h.move, h.head, h.list⟩

theorem rising_iff (a b : Bool) : rising a b = true ↔ a = false ∧ b = true := by
  cases a <;> cases b <;> decide

theorem travelFault_travelOf (before : TravelState) (pr : Profile) (c : Int) : travelFault before (pr.travelOf c) = true
    ↔ (before = .inside ∨ before = .untested) ∧ pr.travelOf c ≠ .inside := by
  refine (travelFault_iff before _ ?_)
  unfold Profile.travelOf
  split
  · decide
  · split <;> decide

/-! ### The settle test in a sample without a fault -/

/-- The settle test, the requests and the engine stand as they stood. -/
def State.Rests (s t : State) : Prop :=
  t.frame.settle = s.frame.settle ∧ t.frame.settleTimer = s.frame.settleTimer ∧ t.handshake = s.handshake ∧ t.engine = s.engine

section
variable {f : PositionFrame}

theorem State.rests_setFrame (settle : f.settle = s.frame.settle) (timer : f.settleTimer = s.frame.settleTimer) : s.Rests (s.setFrame f) :=
  ⟨settle, timer, rfl, rfl⟩

/-- A settle test met stays so within the window, and one outside it stays outside. -/
theorem settleSample_rests_within (settle : f.settle = s.frame.settle) (timer : f.settleTimer = s.frame.settleTimer)
    (hw : (s.setFrame f).withinWindow = true) (h : s.frame.settle = .timing ∨ s.frame.settle = .met) :
    s.Rests (settleSample (s.setFrame f)) := by
  rw [settleSample_inside (s := s.setFrame f) (h.imp settle.trans settle.trans) hw]
  exact s.rests_setFrame settle timer

theorem settleSample_rests_away (settle : f.settle = s.frame.settle) (timer : f.settleTimer = s.frame.settleTimer)
    (hw : (s.setFrame f).withinWindow = false) (h : s.frame.settle = .outside) : s.Rests (settleSample (s.setFrame f)) := by
  rw [settleSample_away (s := s.setFrame f) (settle.trans h) hw]
  exact s.rests_setFrame settle timer

/-- The count enters the window: the settle time runs, or is 0 and the test met (R95). -/
theorem settleSample_enters (hw : s.withinWindow = true) (h : s.frame.settle = .outside) (ht : s.store.profile.settleTime ≠ 0) :
    settleSample s = s.timing :=
  (settleSample_arrives h hw).trans (settleEvaluate_timing hw ht)

theorem settleSample_meets (hw : s.withinWindow = true) (h : s.frame.settle = .outside) (ht : s.store.profile.settleTime = 0)
    (hm : s.handshake.move = some m) (he : s.engine.state ≠ .settling) : settleSample s = s.settled m :=
  (settleSample_arrives h hw).trans ((settleEvaluate_met hw ht).trans (settleMet_elsewhere hm he))

/-- The count leaves the window of a test met: the move is DONE again, its timeout runs on, and a dwell settles anew (R96). -/
theorem settleLoss_effects (hm : s.handshake.move = some m) (hl : s.sample.lossExpired = false) {left : Nat}
    (hp : s.handshake.moveTimeout = .paused left) : (settleLoss s).frame.settle = .outside
      ∧ (settleLoss s).handshake.move = some { m with phase := .done } ∧ (settleLoss s).handshake.moveTimeout = .running left
      ∧ (s.engine.state = .dwell → (settleLoss s).engine.state = .settling ∧ (settleLoss s).engine.active = s.engine.active
        ∧ (settleLoss s).engine.dwell.n = 0 ∧ (settleLoss s).sample.fifo = [])
      ∧ (s.engine.state ≠ .dwell → (settleLoss s).engine = s.engine) := by
  have resumed : s.handshake.moveTimeout.resume = .running left := congrArg Timer.resume hp
  by_cases hd : s.engine.state = .dwell
  · rw [settleLoss_dwelling hm hd hl]
    exact ⟨rfl, rfl, resumed, fun _ => ⟨rfl, rfl, rfl, rfl⟩, fun other => absurd hd other⟩
  · rw [settleLoss_elsewhere hm hd]
    exact ⟨rfl, rfl, resumed, fun dwell => absurd dwell hd, fun _ => rfl⟩

end

/-- Settles O31: the faults by their order, and without one the settle test by its state. -/
theorem filterSampleEffects : Obligations.FilterSampleEffects := by
  intro a b z pf s hs level illegal rises pr
  obtain ⟨u, taken, through, captured, travel⟩ := exec_filterSample_staged hs a b z pf
  obtain ⟨count, travelled, home⟩ := settleStage_frame s.frame u
  have leaves := settleStage_leaves s.frame u
  have illegalIff : s.frame.illegal (s.frame.filtered a b z pf) = true ↔ illegal := by
    unfold PositionFrame.illegal PositionFrame.filtered illegal level
    simp only [InputFilter.step_level, Bool.and_eq_true, bne_iff_ne, ne_comm]
  have risesIff : rising s.frame.pfault.level (s.frame.filtered a b z pf).pfault.level = true ↔ rises := by
    unfold PositionFrame.filtered rises level
    rw [rising_iff, InputFilter.step_level]
  have captures : s.frame.encZ.level = false → level s.frame.encZ z = true →
      rising s.frame.encZ.level (s.frame.filtered a b z pf).encZ.level = true := fun low high => by
    unfold PositionFrame.filtered
    rw [rising_iff, InputFilter.step_level]
    exact ⟨low, high⟩
  clear_value illegal rises level
  refine ⟨settleStage s.frame u, taken, fun low high waits => ?_, ?_⟩
  · obtain ⟨done, value⟩ := captured (captures low high) waits
    exact ⟨home done, count.trans value⟩
  intro moves side off
  have force : s.store.inForce = true ↔ s.store.slot.isSome = true := Iff.rfl
  have sideEq : pr.travelOf u.frame.count = side := congrArg pr.travelOf count.symm
  have movesIff : u.frame.count ≠ s.frame.count ↔ moves := by rw [← count]
  have offIff : (s.store.inForce && u.frame.count != s.frame.count && travelFault s.frame.travel (pr.travelOf u.frame.count)) = true
      ↔ off := by
    rw [Bool.and_eq_true, Bool.and_eq_true, bne_iff_ne, travelFault_travelOf, sideEq, movesIff, force, and_assoc]
  obtain ⟨struck, broken, told, quiet⟩ := through.of_three illegalIff offIff risesIff
  clear_value side off
  refine ⟨fun slot change => travelled.trans (travel.trans ((if_pos ⟨slot, movesIff.2 change⟩).trans sideEq)),
    fun still => travelled.trans (travel.trans (if_neg ?_)), fun p hp ha => ?_, ?_, fun hit => ?_, fun noI noO noR => ?_⟩
  · rintro ⟨slot, change⟩
    obtain none | same := still
    · rw [force, none] at slot
      cases slot
    · exact same (movesIff.1 change)
  · have kept := settleStage_fault s.frame u p
    obtain ⟨last, middle, first⟩ := told p hp ha
    rw [sideEq] at middle
    rw [kept, count]
    refine ⟨last, middle, first, fun hr ho hi => ?_⟩
    obtain ⟨f, rfl, -, -⟩ := quiet hi ho hr
    rfl
  · exact ⟨fun hi r ha hw hg => (((broken r ha hw hg).1 hi).leaves leaves).parts,
      fun hi ho r ha hw hg => (((broken r ha hw hg).2.1 hi ho).leaves leaves).parts,
      fun hi ho hr r ha hw hg => (((broken r ha hw hg).2.2 hi ho hr).leaves leaves).parts⟩
  · obtain ⟨rest, mind⟩ := (struck hit).leaves leaves
    exact ⟨rest, mind⟩
  · obtain ⟨f, rfl, settle, timer⟩ := quiet noI noO noR
    have stays : ¬moves → s.Rests (settleStage s.frame (s.setFrame f)) := fun still => by
      rw [settleStage_same (s := s.setFrame f) (not_not.1 fun change => still (movesIff.1 change))]
      exact s.rests_setFrame settle timer
    refine ⟨stays, fun none => ?_, fun m change hm => ?_⟩
    · by_cases change : moves
      · rw [settleStage_moved (movesIff.2 change), settleSample_none (s := s.setFrame f) (settle.trans none)]
        exact s.rests_setFrame settle timer
      · exact stays change
    · have window := State.withinWindow_eq (s := s.setFrame f) hm
      rw [count]
      clear broken told struck stays leaves travelled travel
      have tested : settleStage s.frame (s.setFrame f) = settleSample (s.setFrame f) := settleStage_moved (movesIff.2 change)
      rw [tested]
      refine ⟨fun near test => settleSample_rests_within settle timer (window.trans (decide_eq_true near)) test,
        fun far test => settleSample_rests_away settle timer (window.trans (decide_eq_false far)) test,
        fun near test time => ?_, fun near test time other => ?_, fun far test => ?_, fun far test locked left paused => ?_⟩
      · rw [settleSample_enters (window.trans (decide_eq_true near)) (settle.trans test) time]
        exact ⟨rfl, rfl, rfl, rfl⟩
      · rw [settleSample_meets (window.trans (decide_eq_true near)) (settle.trans test) time hm other]
        exact ⟨rfl, rfl, rfl⟩
      · rw [settleSample_departs (settle.trans test) (window.trans (decide_eq_false far))]
        exact ⟨rfl, rfl, rfl, rfl⟩
      · rw [settleSample_loses (settle.trans test) (window.trans (decide_eq_false far))]
        exact settleLoss_effects (s := s.setFrame f) hm locked paused

end Sys2Proof.Machine
end
